-- ==== Sys2Proof/Word.lean ====
section
/-! DEFINITION. The word types of the HW8632 model, and the small containers its state is built from. -/

namespace Sys2Proof

/-- One byte of host memory, of the matrix store, or of a link packet. -/
abbrev Byte := BitVec 8

/-- A value of the timebase, in microseconds (R195). -/
abbrev Time := BitVec 64

/-- A frame number or a command sequence number: 16 bits, compared modulo 65,536 (section 4.7 of the scope file). -/
abbrev Serial := BitVec 16

/-- The index of a sensor link, SL0 to SL3. -/
abbrev LinkIx := Fin 4

/-- The index of a mirror link, ML0 or ML1. -/
abbrev MirrorIx := Fin 2

/-- The index of an assembly slot. -/
abbrev SlotIx := Fin 2

/-- The index of a matrix bank: 0 is bank A, 1 is bank B (R214). -/
abbrev BankIx := Fin 2

/-- Two like things, indexed by a mirror link, an assembly slot or a bank. -/
structure Two (α : Type) where
  t0 : α
  t1 : α
deriving DecidableEq, Repr

/-- Four like things, indexed by a sensor link. -/
structure Four (α : Type) where
  f0 : α
  f1 : α
  f2 : α
  f3 : α
deriving DecidableEq, Repr

/-- The value at an index. -/
def Two.get {α : Type} (v : Two α) (i : Fin 2) : α :=
  match i with
  | 0 => v.t0
  | 1 => v.t1

/-- The pair with the value at one index replaced. -/
def Two.set {α : Type} (v : Two α) (i : Fin 2) (x : α) : Two α :=
  match i with
  | 0 => { v with t0 := x }
  | 1 => { v with t1 := x }

/-- The value at an index. -/
def Four.get {α : Type} (v : Four α) (i : Fin 4) : α :=
  match i with
  | 0 => v.f0
  | 1 => v.f1
  | 2 => v.f2
  | 3 => v.f3

/-- The four with the value at one index replaced. -/
def Four.set {α : Type} (v : Four α) (i : Fin 4) (x : α) : Four α :=
  match i with
  | 0 => { v with f0 := x }
  | 1 => { v with f1 := x }
  | 2 => { v with f2 := x }
  | 3 => { v with f3 := x }

/-- The same value at both indices. -/
def Two.both {α : Type} (x : α) : Two α := ⟨x, x⟩

/-- The same value at all four indices. -/
def Four.all {α : Type} (x : α) : Four α := ⟨x, x, x, x⟩

/-- A function applied at both indices. -/
def Two.map {α β : Type} (f : α → β) (v : Two α) : Two β := ⟨f v.t0, f v.t1⟩

/-- A function applied at all four indices. -/
def Four.map {α β : Type} (f : α → β) (v : Four α) : Four β := ⟨f v.f0, f v.f1, f v.f2, f v.f3⟩

/-- The four values made by a function of the index. -/
def Four.make {β : Type} (f : Fin 4 → β) : Four β := ⟨f 0, f 1, f 2, f 3⟩

/-- The two values made by a function of the index. -/
def Two.make {β : Type} (f : Fin 2 → β) : Two β := ⟨f 0, f 1⟩

/-- A table indexed by number, of which every entry has a value: the entries that differ from the table's one
default value, by strictly rising index. The operations over it stand in Machine/Ops.lean. -/
abbrev Sparse (α : Type) := List (Nat × α)

end Sys2Proof
end

