-- ==== Sys2Proof/Config.lean ====
section
/-! DEFINITION. The free values: what the manual leaves open and gives no value. None has a body, so that no
proof can rest on a value of it. Each is named by an entry of the assumption log. -/

namespace Sys2Proof.Config

/-- The byte at a store offset that no load has written since the given power-on: the contents of a bank are
undefined at power-on (R75, R92). The first argument counts the power-ons. Log entry 5. -/
opaque undefinedStoreByte : Nat → Nat → Byte

/-- Whether a write burst that was granted before a part reset completes into the store or is dropped, which R93
leaves to the part. The argument is drawn from the model's free-value counter. Log entry 6. -/
opaque resetBurstCompletes : Nat → Bool

/-- The round-trip time that a probe reports when its REPLY is taken before its QUERY has left the link, so that no
send time was recorded (R145 and R146 state none). Log entry 7. -/
opaque roundTripWithoutSendTime : Nat → BitVec 32

/-- The bytes remaining that a LOAD_TABLE of unknown kind reports when it is refused: its buffer has no length, as the
kind has no entry size (R164, R166, R169). Log entry 8. -/
opaque remainingOfUnknownTable : Nat → BitVec 32

end Sys2Proof.Config
end

