-- ==== Sys2Proof/Syntax.lean ====
section
/-! DEFINITION. The commands of the HW8632: one constructor of Instr for each row of spec/opcode_table.json, and the
orders that a host posts in an order slot, with their parameters as R214 lays them out (raw fields: the owning rule
judges every range). -/

namespace Sys2Proof

/-- SET_GEOMETRY (kind 0x0001): subaperture counts n_0..n_3 and actuator counts A_0, A_1 (R21, R214). -/
structure GeometryParams where
  n : Four (BitVec 16)
  a0 : BitVec 16
  a1 : BitVec 16
deriving DecidableEq, Repr

/-- SET_SENSOR (kind 0x0002) (R16, R45, R214). -/
structure SensorOrderParams where
  link : Byte
  enable : Byte
  expectedId : Byte
  policy : Byte
  fluxFloor : BitVec 16
  weight : BitVec 16
  keepLimit : BitVec 16
  quietMs : BitVec 16
deriving DecidableEq, Repr

/-- SET_LOOP (kind 0x0003) (R39, R124, R214). -/
structure LoopOrderParams where
  windowUs : BitVec 16
  abandonLimit : BitVec 16
  gapMs : BitVec 16
  divergenceLimit : BitVec 16
  threshold : BitVec 64
deriving DecidableEq, Repr

/-- SET_GAINS (kind 0x0004) (R108, R214). -/
structure GainsOrderParams where
  mirror : Byte
  leak : BitVec 16
  gain : BitVec 16
deriving DecidableEq, Repr

/-- SET_MIRROR (kind 0x0005) (R131, R132, R214). -/
structure MirrorOrderParams where
  mirror : Byte
  enable : Byte
  timeoutUs : BitVec 16
  queryLimit : Byte
  rejectLimit : Byte
  blockLimit : BitVec 16
deriving DecidableEq, Repr

/-- SET_WINDOW (kind 0x000F) (R167, R214). -/
structure WindowOrderParams where
  index : Byte
  enable : Byte
  partBase : BitVec 64
  size : BitVec 64
  hostAddr : BitVec 64
deriving DecidableEq, Repr

/-- SET_PACER (kind 0x0014) (R197, R214). -/
structure PacerOrderParams where
  period : BitVec 16
  fraction : BitVec 16
  width : BitVec 16
  run : Byte
deriving DecidableEq, Repr

/-- SET_LINES (kind 0x0015) (R201, R214). -/
structure LinesOrderParams where
  interlockCount : BitVec 16
  snapCount : BitVec 16
  markCount : BitVec 16
  blockInterlock : Byte
  blockMark : Byte
  blockLoop : Byte
deriving DecidableEq, Repr

/-- LOAD_MATRIX (kind 0x0020) (R77, R214). -/
structure MatrixOrderParams where
  bank : Byte
  e : Byte
  s : BitVec 16
  a : BitVec 16
  check : BitVec 32
  source : BitVec 64
deriving DecidableEq, Repr

/-- READ_BACK (kind 0x0021) (R86, R214). -/
structure ReadBackParams where
  source : Byte
  copy : Byte
  firstColumn : BitVec 16
  columns : BitVec 16
  size : BitVec 32
  dest : BitVec 64
deriving DecidableEq, Repr

/-- LOAD_TABLE (kind 0x0022) (R46, R106, R107, R214). -/
structure TableOrderParams where
  kind : Byte
  count : BitVec 16
  source : BitVec 64
deriving DecidableEq, Repr

/-- APPLY_SHAPE (kind 0x0023) (R122, R214). -/
structure ShapeOrderParams where
  count : BitVec 16
  source : BitVec 64
deriving DecidableEq, Repr

/-- An order as a slot spells it (R214): its kind and its raw parameters. A kind code of no entry of the order table
is unknownKind (R159). -/
inductive Order where
  | setGeometry (p : GeometryParams)
  | setSensor (p : SensorOrderParams)
  | setLoop (p : LoopOrderParams)
  | setGains (p : GainsOrderParams)
  | setMirror (p : MirrorOrderParams)
  | loopOpen
  | loopClose (ramp : BitVec 16)
  | loopStop
  | resume
  | flatten
  | mirrorReset (mirror : Byte)
  | mirrorProbe (mirror : Byte)
  | swapMatrix (target : Byte)
  | setStore (pairMode : Byte)
  | setWindow (p : WindowOrderParams)
  | setExchange (periodUs : BitVec 16)
  | abortTransfer (matchFlag ticket : Byte)
  | setTelemetry (ring : BitVec 64) (capacity : BitVec 32)
  | capture
  | setPacer (p : PacerOrderParams)
  | setLines (p : LinesOrderParams)
  | loadMatrix (p : MatrixOrderParams)
  | readBack (p : ReadBackParams)
  | loadTable (p : TableOrderParams)
  | applyShape (p : ShapeOrderParams)
  | copySnapshot (dest : BitVec 64)
  | unknownKind (code : BitVec 16)
deriving DecidableEq, Repr

/-- Where a taken order stands: its order slot, and its notify flag. Its ticket is the next ticket (R158). -/
structure OrderHead where
  slot : Fin 32
  notify : Bool
deriving DecidableEq, Repr

/-- Which read of host memory a host access failure ends (R157, R170). -/
inductive FailedRead where
  | sweepRead
  | transferRead
deriving DecidableEq, Repr

/-- The commands: one constructor per row of spec/opcode_table.json, in the table's order. The operands are what the
outside gives the step: the value written to a register, the bytes of a packet, the bytes a host read returned, the
sampled levels. Log entry 1 says who sends them, log entry 2 what an event does that cannot occur. -/
inductive Instr where
  /-- Power is applied (R207). -/
  | powerOn
  /-- A CONTROL write with PART_RESET written as 1; exchEn is the EXCH_EN bit of the same write, which is ignored (R151). -/
  | partReset (exchEn : Bool)
  /-- A PCIe function-level reset (R151). -/
  | functionLevelReset
  /-- A CONTROL write with EXCH_EN = 1, PART_RESET = 0 (R151, R173). -/
  | exchEnStart
  /-- A CONTROL write with EXCH_EN = 0, PART_RESET = 0 (R151, R172). -/
  | exchEnStop
  | exchBaseLoWrite (value : BitVec 32)
  | exchBaseHiWrite (value : BitVec 32)
  | eventsWrite (value : BitVec 32)
  | eventMaskWrite (value : BitVec 32)
  /-- A read of count bytes of TIME_LO, from byte first of the register (R196, R213). -/
  | timeLoRead (first count : Nat)
  /-- A write of count bytes at a register offset (R150, R151, R213). -/
  | registerWriteIgnored (offset : BitVec 12) (count : Nat) (value : BitVec 32)
  /-- The bytes of one packet; early says that its reception began before the link left OFF, or before a part reset or a
  disable, so that it is ignored (R1, R17, R20). -/
  | segmentArrival (link : LinkIx) (early : Bool) (packet : List Byte)
  | quietTimerExpiry (link : LinkIx)
  | admitSegment
  | deadlineExpiry (slot : SlotIx)
  | processEntry
  | handOnValue
  | arbiterGrant
  | columnBurstArrival
  | sealDecision
  | substitutionEnd
  | extractionEnd
  | frameGapExpiry
  | updateBegin
  | sendPoint
  /-- The bytes of one packet from the drive electronics; early as for segmentArrival (R130, R149). -/
  | mirrorPacketArrival (mirror : MirrorIx) (early : Bool) (packet : List Byte)
  | packetTransmitEnd (mirror : MirrorIx)
  | receiptTimerExpiry (mirror : MirrorIx)
  | sweepTimerExpiry
  /-- What the two reads of a sweep returned: the consumed count, and the bytes of the 32 order slots (R157). -/
  | sweepReadCompletion (consumed : BitVec 32) (slots : List (List Byte))
  | hostAccessFailure (read : FailedRead)
  | transferStart
  /-- The bytes that a host read of the running transfer returned (R169). -/
  | hostReadCompletion (bytes : List Byte)
  | loaderBurstComplete
  | readerBurstComplete
  | confirmingReadCompletion
  | setGeometry (h : OrderHead) (p : GeometryParams)
  | setSensor (h : OrderHead) (p : SensorOrderParams)
  | setLoop (h : OrderHead) (p : LoopOrderParams)
  | setGains (h : OrderHead) (p : GainsOrderParams)
  | setMirror (h : OrderHead) (p : MirrorOrderParams)
  | loopOpen (h : OrderHead)
  | loopClose (h : OrderHead) (ramp : BitVec 16)
  | loopStop (h : OrderHead)
  | resume (h : OrderHead)
  | flatten (h : OrderHead)
  | mirrorReset (h : OrderHead) (mirror : Byte)
  | mirrorProbe (h : OrderHead) (mirror : Byte)
  | swapMatrix (h : OrderHead) (target : Byte)
  | setStore (h : OrderHead) (pairMode : Byte)
  | setWindow (h : OrderHead) (p : WindowOrderParams)
  | setExchange (h : OrderHead) (periodUs : BitVec 16)
  | abortTransfer (h : OrderHead) (matchFlag ticket : Byte)
  | setTelemetry (h : OrderHead) (ring : BitVec 64) (capacity : BitVec 32)
  | capture (h : OrderHead)
  | setPacer (h : OrderHead) (p : PacerOrderParams)
  | setLines (h : OrderHead) (p : LinesOrderParams)
  | loadMatrix (h : OrderHead) (p : MatrixOrderParams)
  | readBack (h : OrderHead) (p : ReadBackParams)
  | loadTable (h : OrderHead) (p : TableOrderParams)
  | applyShape (h : OrderHead) (p : ShapeOrderParams)
  | copySnapshot (h : OrderHead) (dest : BitVec 64)
  | interlockEdge
  | snapEdge
  | markEdge
  | periodStart
  | pulseEnd
  /-- The levels seen at the three pins: true is asserted (R200). -/
  | lineSample (interlock snap mark : Bool)
  /-- One write request of the given length (R169). -/
  | hostWriteRequest (length : Nat)
deriving DecidableEq, Repr

end Sys2Proof
end

