-- ==== Sys2Proof/Decode.lean ====
section
/-! DEFINITION. What the bytes say that the part reads: little-endian fields (R209), the CRC-16 (R210), a sensor segment
(R211), a packet of the drive electronics (R212) and an order slot (R214). The opcode table gives no row any bits, so no
word spells a command. -/

namespace Sys2Proof

/-- The command that a word spells by the table's bits: the table gives none. -/
def decodeTableWord (_nbits _w : Nat) : Option Instr := none

/-- The byte at an offset of a layout (0 beyond its end, which no checked layout reads). -/
def byteAt (bytes : List Byte) (offset : Nat) : Byte := bytes.getD offset 0

/-- The number that the given count of bytes spells, least significant byte first (R209). -/
def littleEndian : List Byte → Nat
  | [] => 0
  | b :: rest => b.toNat + 256 * littleEndian rest

/-- A field of a layout: size bytes from an offset, least significant first (R209). -/
def field (bytes : List Byte) (offset size : Nat) : Nat :=
  littleEndian ((bytes.drop offset).take size)

/-- A field of one byte. -/
def field8 (bytes : List Byte) (offset : Nat) : BitVec 8 := byteAt bytes offset

/-- A field of two bytes. -/
def field16 (bytes : List Byte) (offset : Nat) : BitVec 16 := BitVec.ofNat 16 (field bytes offset 2)

/-- A field of four bytes. -/
def field32 (bytes : List Byte) (offset : Nat) : BitVec 32 := BitVec.ofNat 32 (field bytes offset 4)

/-- A field of eight bytes. -/
def field64 (bytes : List Byte) (offset : Nat) : BitVec 64 := BitVec.ofNat 64 (field bytes offset 8)

/-- One bit fed to the CRC register: shift left, and combine with 0x1021 when the bit shifted out differs from the
incoming bit (R210). -/
def crcBit (reg : BitVec 16) (bit : Bool) : BitVec 16 :=
  if reg.getMsbD 0 = bit then reg <<< 1 else (reg <<< 1) ^^^ 0x1021#16

/-- One byte fed to the CRC register, most significant bit first (R210). -/
def crcByte (reg : BitVec 16) (b : Byte) : BitVec 16 :=
  [7, 6, 5, 4, 3, 2, 1, 0].foldl (fun r i => crcBit r (b.getLsbD i)) reg

/-- The CRC-16 of a run of bytes (R210). -/
def crc16 (bytes : List Byte) : BitVec 16 := bytes.foldl crcByte 0xFFFF#16

/-- The stored CRC of a packet, its last two bytes, equals the CRC of the bytes before it (R210). -/
def crcMatches (packet : List Byte) : Bool :=
  field16 packet (packet.length - 2) = crc16 (packet.take (packet.length - 2))

/-! ## Sensor segments (R211) -/

/-- The record at a record number of a segment: its x slope, its y slope and its flux. -/
structure SegRecord where
  x : BitVec 16
  y : BitVec 16
  flux : BitVec 16
deriving DecidableEq, Repr

/-- The header fields that the checks read. -/
structure SegHeader where
  kind : Byte
  sensorId : Byte
  frame : Serial
  index : Nat
  count : Nat
  records : Nat
deriving DecidableEq, Repr

/-- The header of a sensor packet (R211). -/
def segHeader (packet : List Byte) : SegHeader where
  kind := field8 packet 0
  sensorId := field8 packet 1
  frame := field16 packet 2
  index := (field8 packet 4).toNat
  count := (field8 packet 5).toNat
  records := (field8 packet 6).toNat

/-- Record t of a sensor packet, at offset 8 + 6t (R211). -/
def segRecord (packet : List Byte) (t : Nat) : SegRecord where
  x := field16 packet (8 + 6 * t)
  y := field16 packet (8 + 6 * t + 2)
  flux := field16 packet (8 + 6 * t + 4)

/-- The records that a sensor packet carries, in order. -/
def segRecords (packet : List Byte) : List SegRecord :=
  (List.range (segHeader packet).records).map (segRecord packet)

/-! ## Packets of the drive electronics (R212) -/

/-- The status of a receipt. -/
inductive ReceiptStatus where
  | accepted
  | clipped
  | rejected
  | busy
deriving DecidableEq, Repr

/-- A packet of the drive electronics that has passed the format check. -/
inductive DriverPacket where
  | receipt (mirrorId : Byte) (seq : Serial) (status : ReceiptStatus) (fault : Bool)
  | reply (ready fault : Bool) (lastAccepted : Serial)
deriving DecidableEq, Repr

/-- The status that a status byte names (R212). -/
def receiptStatus (b : Byte) : Option ReceiptStatus :=
  if b = 0 then some .accepted
  else if b = 1 then some .clipped
  else if b = 2 then some .rejected
  else if b = 3 then some .busy
  else none

/-- The packet's contents, or none where the format check of R130 fails. -/
def driverPacket (packet : List Byte) : Option DriverPacket :=
  if packet.length = 8 && field8 packet 0 = 0x71 then
    (receiptStatus (field8 packet 4)).map fun st =>
      .receipt (field8 packet 1) (field16 packet 2) st ((field8 packet 5).getLsbD 0)
  else if packet.length = 6 && field8 packet 0 = 0x72 then
    some (.reply ((field8 packet 1).getLsbD 0) ((field8 packet 1).getLsbD 1) (field16 packet 2))
  else none

/-! ## Order slots (R214) -/

/-- The order that a kind code and the 88 parameter bytes spell. -/
def orderOf (code : BitVec 16) (p : List Byte) : Order :=
  if code = 0x0001 then
    .setGeometry ⟨⟨field16 p 0, field16 p 2, field16 p 4, field16 p 6⟩, field16 p 8, field16 p 10⟩
  else if code = 0x0002 then
    .setSensor ⟨field8 p 0, field8 p 1, field8 p 2, field8 p 3, field16 p 4, field16 p 6, field16 p 8, field16 p 10⟩
  else if code = 0x0003 then
    .setLoop ⟨field16 p 0, field16 p 2, field16 p 4, field16 p 6, field64 p 8⟩
  else if code = 0x0004 then .setGains ⟨field8 p 0, field16 p 2, field16 p 4⟩
  else if code = 0x0005 then
    .setMirror ⟨field8 p 0, field8 p 1, field16 p 2, field8 p 4, field8 p 5, field16 p 6⟩
  else if code = 0x0006 then .loopOpen
  else if code = 0x0007 then .loopClose (field16 p 0)
  else if code = 0x0008 then .loopStop
  else if code = 0x0009 then .resume
  else if code = 0x000A then .flatten
  else if code = 0x000B then .mirrorReset (field8 p 0)
  else if code = 0x000C then .mirrorProbe (field8 p 0)
  else if code = 0x000D then .swapMatrix (field8 p 0)
  else if code = 0x000E then .setStore (field8 p 0)
  else if code = 0x000F then
    .setWindow ⟨field8 p 0, field8 p 1, field64 p 8, field64 p 16, field64 p 24⟩
  else if code = 0x0010 then .setExchange (field16 p 0)
  else if code = 0x0011 then .abortTransfer (field8 p 0) (field8 p 1)
  else if code = 0x0012 then .setTelemetry (field64 p 0) (field32 p 8)
  else if code = 0x0013 then .capture
  else if code = 0x0014 then .setPacer ⟨field16 p 0, field16 p 2, field16 p 4, field8 p 6⟩
  else if code = 0x0015 then
    .setLines ⟨field16 p 0, field16 p 2, field16 p 4, field8 p 6, field8 p 7, field8 p 8⟩
  else if code = 0x0020 then
    .loadMatrix ⟨field8 p 0, field8 p 1, field16 p 2, field16 p 4, field32 p 8, field64 p 16⟩
  else if code = 0x0021 then
    .readBack ⟨field8 p 0, field8 p 1, field16 p 2, field16 p 4, field32 p 8, field64 p 16⟩
  else if code = 0x0022 then .loadTable ⟨field8 p 0, field16 p 2, field64 p 8⟩
  else if code = 0x0023 then .applyShape ⟨field16 p 2, field64 p 8⟩
  else if code = 0x0024 then .copySnapshot (field64 p 8)
  else .unknownKind code

/-- A slot that a sweep's read found POSTED: its index, its ticket, its notify flag, its order. -/
structure PostedSlot where
  slot : Fin 32
  ticket : Byte
  notify : Bool
  order : Order
deriving DecidableEq, Repr

/-- The order of slot i, when its state byte holds 1 (R214). -/
def postedSlot (i : Fin 32) (bytes : List Byte) : Option PostedSlot :=
  if field8 bytes 0 = 1 then
    some { slot := i, ticket := field8 bytes 1, notify := (field8 bytes 4).getLsbD 0,
           order := orderOf (field16 bytes 2) (bytes.drop 8) }
  else none

/-- The POSTED slots among the 32 that a sweep read, by rising slot index. -/
def postedSlots (slots : List (List Byte)) : List PostedSlot :=
  (List.finRange 32).filterMap fun i => postedSlot i (slots.getD i.val [])

end Sys2Proof
end

