-- ==== Sys2Proof/Machine/State.lean ====
section
/-! DEFINITION. Everything the manual gives the HW8632 as plain data, block by block, and the machine right after
power-on. A quantity that the manual counts or computes exactly is a Nat or an Int; what a host or a partner writes, and
what wraps, is a bit vector. -/

namespace Sys2Proof.Machine

/-! ## Sensor links (section 1.1) -/

/-- The state of a sensor link (section 1.3). -/
inductive LinkState where
  | off
  | acquiring
  | tracking
  | quiet
deriving DecidableEq, Repr

/-- A checked segment, as a link FIFO and the work queue hold it (section 1.1): its record count is the number of its
records. -/
structure Segment where
  link : LinkIx
  frame : Serial
  index : Nat
  records : List SegRecord
deriving DecidableEq, Repr

/-- The counters of a sensor link (R10), those kept by the FRA among them: 32 bits, wrapping. -/
structure SensorCounters where
  valid : BitVec 32
  delivered : BitVec 32
  untracked : BitVec 32
  overrun : BitVec 32
  stopped : BitVec 32
  format : BitVec 32
  crc : BitVec 32
  foreign : BitVec 32
  geometry : BitVec 32
  duplicate : BitVec 32
  late : BitVec 32
  noSlot : BitVec 32
  incomplete : BitVec 32
deriving DecidableEq, Repr

/-- One Sensor Link Receiver (section 1.1). -/
structure SensorLink where
  state : LinkState
  enable : Bool
  expectedId : Nat
  quietMs : Nat
  lastFrame : Option Serial
  quietTimer : Option Time
  fifo : List Segment
  counters : SensorCounters
deriving DecidableEq, Repr

/-! ## Geometry and frame assembly (sections 2.1 and 2.2) -/

/-- The geometry (section 2.1): subaperture counts, actuator counts, and the geometry-set mark. -/
structure Geometry where
  n : Four Nat
  a0 : Nat
  a1 : Nat
  isSet : Bool
deriving DecidableEq, Repr

/-- The state of an assembly slot (section 2.2). -/
inductive SlotState where
  | free
  | assembling
  | sealed
  | updating
deriving DecidableEq, Repr

/-- How a frame ended (R33, R41); DISCARDED stands in telemetry records only. -/
inductive SealKind where
  | complete
  | partialSeal
  | abandoned
  | discarded
deriving DecidableEq, Repr

/-- An assembly slot's record (section 2.2). -/
structure AsmSlot where
  state : SlotState
  sealing : Bool
  frame : Serial
  openTime : Time
  deadline : Time
  bank : BankIx
  swapFrame : Bool
  present : Four Bool
  received : Four (List Nat)
  sealKind : Option SealKind
  sealTime : Time
deriving DecidableEq, Repr

/-- A work queue entry: a segment tagged with its slot (section 2.2). -/
structure QueueEntry where
  slot : SlotIx
  seg : Segment
deriving DecidableEq, Repr

/-- The Frame Assembler (section 2.2), and the last seal decision, which the status block reports (R162). -/
structure Fra where
  slots : Two AsmSlot
  queue : List QueueEntry
  rr : LinkIx
  highest : Option Serial
  abandons : Nat
  gapTimer : Option Time
  freshBank : Bool
  windowUs : Nat
  abandonLimit : Nat
  gapMs : Nat
  lastSealed : Option (Serial × SealKind)
deriving DecidableEq, Repr

/-! ## Slope conditioning (section 3.1) -/

/-- The treatment of missing and flux-invalid slopes (section 3.1). -/
inductive Policy where
  | keep
  | zero
  | require
deriving DecidableEq, Repr

/-- The sensor parameters of one sensor (section 3.1). -/
structure SensorParam where
  fluxFloor : BitVec 16
  weight : BitVec 16
  policy : Policy
  keepLimit : Nat
deriving DecidableEq, Repr

/-- An entry of the kept slope table: value and age (section 3.1). -/
structure Kept where
  value : BitVec 16
  age : Nat
deriving DecidableEq, Repr

/-- The status of a slope in a frame slope record, with its value where it has one (R50). -/
inductive SlopeStatus where
  | missing
  | valid (c : BitVec 16)
  | invalid
  | substituted (c : BitVec 16)
deriving DecidableEq, Repr

/-- A frame slope record: the statuses by slope, and the three frame counts (R50). -/
structure SlopeRecord where
  status : Sparse SlopeStatus
  invalidPairs : Nat
  slopeSat : Nat
  substituted : Nat
deriving DecidableEq, Repr

/-- What occupies the conditioner: a work-queue entry, or a seal's substitution (R51, R54). -/
inductive JobKind where
  | entry
  | substitution
deriving DecidableEq, Repr

/-- A visit of the conditioner: the judging of a record of an entry, whose x slope is given, or the substitution of a slope, each
with its sensor (R51, R54). -/
inductive Visit where
  | record (slope : Nat) (link : LinkIx) (r : SegRecord)
  | slope (slope : Nat) (link : LinkIx)
deriving DecidableEq, Repr

/-- The conditioner's work in progress: the slot it works for, the visits that it has still to make, and the nonzero values of
the visit reached that it has not yet handed on, in ascending slope order (R53, R56, R57, R62; log entry 14). -/
structure ScnJob where
  kind : JobKind
  slot : SlotIx
  rest : List Visit
  todo : List (Nat × BitVec 16)
deriving DecidableEq, Repr

/-- The kind of a slope-side load (R46). -/
inductive SlopeLoadKind where
  | reference
  | sensors
deriving DecidableEq, Repr

/-- The load buffer of the SCN (R46, R47): the entries received, by kind; got counts them, bad ones included. -/
structure SlopeLoad where
  kind : SlopeLoadKind
  count : Nat
  got : Nat
  refs : List (BitVec 16)
  params : List SensorParam
  adjusted : Nat
  bad : Option Nat
deriving DecidableEq, Repr

/-- The Slope Conditioner (section 3.1). substDue names the slot whose substitution waits for the other slot's entry to
end (R54). -/
structure Scn where
  refLive : Sparse (BitVec 16)
  refShadow : Sparse (BitVec 16)
  refWaiting : Bool
  parLive : Four SensorParam
  parShadow : Four SensorParam
  parWaiting : Bool
  load : Option SlopeLoad
  kept : Sparse Kept
  records : Two SlopeRecord
  job : Option ScnJob
  substDue : Option SlotIx
deriving DecidableEq, Repr

/-! ## Reconstruction (section 4.1) -/

/-- A stream list entry (section 4.1): slot tag, slope index and value; how many of its column's bursts have been granted
and how many have arrived. -/
structure StreamEntry where
  slot : SlotIx
  slope : Nat
  value : BitVec 16
  granted : Nat
  arrived : Nat
deriving DecidableEq, Repr

/-- A residual record (section 4.1): residuals by actuator in fine units, the residual energy R, the RESID_SAT count. -/
structure ResidualRecord where
  valid : Bool
  e : Sparse Int
  energy : BitVec 64
  resSat : Nat
deriving DecidableEq, Repr

/-- The Reconstruction Array (section 4.1). extracting names the slot whose residuals are being extracted (R65). -/
structure Rca where
  acc : Two (Sparse (BitVec 48))
  stream : List StreamEntry
  residual : Two ResidualRecord
  extracting : Option SlotIx
deriving DecidableEq, Repr

/-! ## Matrix store (sections 5.1 to 5.6) -/

/-- The state of a bank (R76). -/
inductive BankState where
  | empty
  | loading
  | ready
  | active
deriving DecidableEq, Repr

/-- A bank record (R76). -/
structure BankRecord where
  state : BankState
  s : Nat
  a : Nat
  e : Nat
  check : BitVec 32
  progress : Nat
deriving DecidableEq, Repr

/-- An order that is taken and not yet finished, as the in-flight record names it (R155). -/
structure OrderRef where
  slot : Fin 32
  ticket : Byte
  kind : BitVec 16
  notify : Bool
deriving DecidableEq, Repr

/-- A pending swap: the target bank, and the order that made it pending (R82). -/
structure PendingSwap where
  target : BankIx
  order : OrderRef
deriving DecidableEq, Repr

/-- A requester at the store arbiter (R89). -/
inductive Requester where
  | stream
  | loader
  | reader
deriving DecidableEq, Repr

/-- A burst in progress (R75, R89). A stream burst carries coefficient positions first to first + count - 1 of its bank
(R60, R62); dropped says that its data is not added (R71). A loader burst writes its bytes at a store offset; live says
that its load still runs (R81). A reader burst reads count bytes from a store offset. -/
inductive Burst where
  | stream (slot : SlotIx) (slope : Nat) (value : BitVec 16) (bank : BankIx) (first count : Nat) (dropped : Bool)
  | loader (offset : Nat) (data : List Byte) (live : Bool)
  | reader (offset count : Nat) (dropped : Bool)
deriving DecidableEq, Repr

/-- A running matrix load (R78, R79): bytes taken from the host, the gathering buffer, bytes whose write burst has been
granted, bytes whose write burst has completed, the running sum, and the low byte of a coefficient half arrived. -/
structure MatrixLoad where
  bank : BankIx
  taken : Nat
  buffer : List Byte
  granted : Nat
  written : Nat
  sum : BitVec 32
  low : Option Byte
deriving DecidableEq, Repr

/-- A running bank readback (R87): store offsets of its next byte to request and of its end, and the bytes issued as
writes so far are the lane's. -/
structure BankReadback where
  next : Nat
  stop : Nat
deriving DecidableEq, Repr

/-- The Matrix Store (R75 to R92). store lists the bytes that loads have written since power-on. pairNext says that step
1 of R90 is to be considered at the next grant. epoch counts power-ons (the model's own, log entry 5). -/
structure Mxs where
  store : List Host.Cell
  epoch : Nat
  banks : Two BankRecord
  pendingSwap : Option PendingSwap
  pairMode : Bool
  pairNext : Bool
  rotation : List Requester
  bursts : List Burst
  load : Option MatrixLoad
  readback : Option BankReadback
  tableImage : List Byte
deriving DecidableEq, Repr

/-! ## Loop controller (section 6.1) -/

/-- The loop state (section 6.1). -/
inductive LoopState where
  | stopped
  | opened
  | closed
  | held
deriving DecidableEq, Repr

/-- A hold cause (R99). -/
inductive HoldCause where
  | interlock
  | mirrorLink
  | sensorLoss
  | divergence
deriving DecidableEq, Repr

/-- The hold cause set (section 6.1). -/
structure CauseSet where
  interlock : Bool
  mirrorLink : Bool
  sensorLoss : Bool
  divergence : Bool
deriving DecidableEq, Repr

/-- An entry of the limits table (R102), in codes. -/
structure Limits where
  lo : BitVec 16
  hi : BitVec 16
  flat : BitVec 16
  active : Bool
deriving DecidableEq, Repr

/-- A pair of actuators with its allowed difference in codes (R103). -/
structure ActuatorPair where
  p : Nat
  r : Nat
  d : Nat
deriving DecidableEq, Repr

/-- The leak and gain of a mirror, fractions with 15 fractional bits (R104). -/
structure Gains where
  leak : Nat
  gain : Nat
deriving DecidableEq, Repr

/-- A full update between its begin and its send point (R110 to R118): its slot, its closed-throughout mark, the geometry
it keeps, the shaped vector and codes, its counts, and its ramp-in-progress mark. A report-only update ends in the step
that begins it (R120). -/
structure Update where
  slot : SlotIx
  closed : Bool
  geo : Geometry
  shaped : List Nat
  codes : List Nat
  clamps : Nat
  neighbours : Nat
  ramp : Bool
deriving DecidableEq, Repr

/-- The kind of an actuator-side load (R106, R107). -/
inductive ActuatorLoadKind where
  | limits
  | pairs
deriving DecidableEq, Repr

/-- The load buffer of the LPC (R106, R107). -/
structure ActuatorLoad where
  kind : ActuatorLoadKind
  count : Nat
  got : Nat
  limits : List Limits
  pairs : List ActuatorPair
  adjusted : Nat
  dropped : Nat
  bad : Option Nat
deriving DecidableEq, Repr

/-- The Loop Controller (section 6.1). -/
structure Lpc where
  loop : LoopState
  causes : CauseSet
  firstCause : Option HoldCause
  u : Sparse Nat
  limLive : Sparse Limits
  limShadow : Sparse Limits
  limWaiting : Bool
  pairLive : List ActuatorPair
  pairShadow : List ActuatorPair
  pairWaiting : Bool
  gainLive : Two Gains
  gainShadow : Two Gains
  gainWaiting : Bool
  rampLength : Nat
  rampCount : Nat
  threshold : BitVec 64
  divLimit : Nat
  divCount : Nat
  update : Option Update
  shape : List (BitVec 16)
  load : Option ActuatorLoad
deriving DecidableEq, Repr

/-! ## Mirror links (section 7.1) -/

/-- The state of a mirror link (section 7.1). -/
inductive MirrorState where
  | off
  | idle
  | running
  | checking
  | blocked
  | fault
deriving DecidableEq, Repr

/-- An entry of the outstanding list (section 7.1): sent is the time its last segment left, or none while it is being
sent. -/
structure Outstanding where
  seq : Serial
  sent : Option Time
deriving DecidableEq, Repr

/-- A packet issued and not yet sent to its end (R127): a command frame, or a QUERY, which a pending probe may await. -/
inductive TxPacket where
  | frame (seq : Serial) (codes : List Nat)
  | query (forProbe : Bool)
deriving DecidableEq, Repr

/-- A pending probe: its order, and the send time of its QUERY once it has left (R145). -/
structure Probe where
  order : OrderRef
  sendTime : Option Time
deriving DecidableEq, Repr

/-- The counters of a mirror link (R147): 32 bits, wrapping. -/
structure MirrorCounters where
  sent : BitVec 32
  skipped : BitVec 32
  accepted : BitVec 32
  clipped : BitVec 32
  rejected : BitVec 32
  busy : BitVec 32
  implicitly : BitVec 32
  lost : BitVec 32
  cleared : BitVec 32
  queries : BitVec 32
  stray : BitVec 32
  format : BitVec 32
  crc : BitVec 32
  foreign : BitVec 32
deriving DecidableEq, Repr

/-- One Mirror Link Transmitter (section 7.1). -/
structure MirrorLink where
  state : MirrorState
  enable : Bool
  nextSeq : Serial
  outstanding : List Outstanding
  timer : Option Time
  queryCount : Nat
  awaiting : Bool
  blockCount : Nat
  rejectCount : Nat
  probe : Option Probe
  tx : List TxPacket
  timeoutUs : Nat
  queryLimit : Nat
  blockLimit : Nat
  rejectLimit : Nat
  counters : MirrorCounters
deriving DecidableEq, Repr

/-! ## Exchange unit (sections 8.1 to 8.7) -/

/-- An address window (R165). -/
structure Window where
  enable : Bool
  partBase : BitVec 64
  size : BitVec 64
  hostAddr : BitVec 64
deriving DecidableEq, Repr

/-- The table that a READ_BACK names (R86). -/
inductive TableSource where
  | reference
  | sensors
  | limits
  | pairs
deriving DecidableEq, Repr

/-- What a bulk order does, its structural values judged at take (R160). -/
inductive BulkOp where
  | loadMatrix (bank : BankIx) (s a e : Nat) (check : BitVec 32)
  | loadReference (count : Nat)
  | loadSensors (count : Nat)
  | loadLimits (count : Nat)
  | loadPairs (count : Nat)
  | applyShape (count : Nat)
  | readBank (bank : BankIx) (first columns : Nat)
  | readTable (table : TableSource) (shadow : Bool)
  | copySnapshot
deriving DecidableEq, Repr

/-- A bulk order in the transfer queue: its host buffer, translated when it was taken (R165), and the buffer's length. -/
structure Bulk where
  order : OrderRef
  op : BulkOp
  host : BitVec 64
  length : Nat
deriving DecidableEq, Repr

/-- The running transfer (R169): total counts the bytes it moves, moved those handed to the owning block or issued as
writes; carry holds the bytes of an entry not yet whole; confirming says that the confirming read is on its way. -/
structure Running where
  bulk : Bulk
  total : Nat
  moved : Nat
  carry : List Byte
  confirming : Bool
deriving DecidableEq, Repr

/-- The Exchange Unit (R150 to R175). memRequests and msiEnabled are the function's configuration (R153, R206), which no
command of the table changes (log entry 9). -/
structure Xu where
  exchEn : Bool
  base : BitVec 64
  sweepTimer : Option Time
  sweeping : Bool
  periodUs : Nat
  nextTicket : Byte
  lane : Option Running
  queue : List Bulk
  windows : Four Window
  sweepCount : BitVec 32
  hostFailures : BitVec 32
  memRequests : Bool
  msiEnabled : Bool
deriving DecidableEq, Repr

/-! ## Telemetry and snapshots (sections 9.1 and 9.7) -/

/-- A telemetry record as it is formed (R179); the MARK edges and the dropped-since count are filled in when it is
written. -/
structure TelRecord where
  frame : Serial
  kind : SealKind
  loop : LoopState
  present : Four Bool
  complete : Four Bool
  bank : BankIx
  swapFrame : Bool
  updateDiscarded : Bool
  snapshot : Bool
  openTime : BitVec 32
  sealOffset : Option (BitVec 32)
  endOffset : Option (BitVec 32)
  seq0 : Option Serial
  seq1 : Option Serial
  invalidPairs : Nat
  slopeSat : Nat
  substituted : Nat
  resSat : Nat
  clamps : Nat
  neighbours : Nat
  energy : Option (BitVec 64)
deriving DecidableEq, Repr

/-- The telemetry ring and its counts (section 9.1). -/
structure Tel where
  ringSet : Bool
  ringAddr : BitVec 64
  capacity : Nat
  written : BitVec 32
  consumed : BitVec 32
  dropped : BitVec 32
  droppedSince : Nat
  queue : List TelRecord
deriving DecidableEq, Repr

/-- The Snapshot Store (sections 9.7 to 9.9): the header's fields, the three parts, and the marks. -/
structure Sns where
  filled : Bool
  frame : Serial
  s : Nat
  a : Nat
  bank : BankIx
  swapFrame : Bool
  ramp : Bool
  loop : LoopState
  headerOverwritten : Nat
  slopes : Sparse (BitVec 16)
  residuals : Sparse (BitVec 32)
  commands : Sparse (BitVec 16)
  capturePending : Bool
  copying : Bool
  renewed : Bool
  overwritten : Nat
deriving DecidableEq, Repr

/-! ## Timebase and lines (sections 10.1 to 10.4) -/

/-- The pacer's three values: period, fraction, pulse width (section 10.2). -/
structure PacerValues where
  period : Nat
  fraction : Nat
  width : Nat
deriving DecidableEq, Repr

/-- The pacer (section 10.2). start and length are those of the current period, while it runs. -/
structure Pacer where
  running : Bool
  live : PacerValues
  next : Option PacerValues
  acc : Nat
  start : Time
  length : Nat
  trigger : Bool
deriving DecidableEq, Repr

/-- An input line (section 10.3). due says that the latest sample completed a run, and that the accepted change which
follows from it is still to be taken (log entry 3). -/
structure Line where
  level : Bool
  run : Nat
  count : Nat
  due : Bool
deriving DecidableEq, Repr

/-- The Timebase and Lines Unit (chapter 10). EVENTS and EVENT_MASK hold one bit per flag (section 11.4). nextSample is
the next multiple of 10 at which the lines are sampled (R200; the model's own, log entry 3). -/
structure Tlu where
  timebase : Time
  latch : BitVec 32
  pacer : Pacer
  interlock : Line
  snap : Line
  mark : Line
  blockInterlock : Bool
  blockMark : Bool
  blockLoop : Bool
  blockedSnaps : BitVec 32
  qualifiedSnaps : BitVec 32
  markEdges : Nat
  events : BitVec 8
  mask : BitVec 8
  nextSample : Time
deriving DecidableEq, Repr

/-! ## The part -/

/-- What the part has put on its bus and its mirror links, and answered to a read (log entry 4). -/
inductive Output where
  /-- A posted write to host memory (R153). -/
  | hostWrite (addr : BitVec 64) (data : List Byte)
  /-- A read of host memory, issued (R157, R169). -/
  | hostRead (addr : BitVec 64) (length : Nat)
  /-- An MSI message (R206). -/
  | msi
  /-- A packet that has left a mirror link whole (R127). -/
  | packet (mirror : MirrorIx) (data : List Byte)
  /-- A packet cut off on a mirror link: the driver receives a short packet (R131, R149). -/
  | cutOff (mirror : MirrorIx)
  /-- The bytes that a register read returned (R196, R213). -/
  | readData (data : List Byte)
deriving DecidableEq, Repr

/-- The HW8632: its blocks (section 2.1 of the scope file), the geometry that the FRA owns, what it has issued (oldest
first), and the counter that the free values draw on (the model's own, log entry 4). -/
structure Part where
  geo : Geometry
  links : Four SensorLink
  fra : Fra
  scn : Scn
  rca : Rca
  mxs : Mxs
  lpc : Lpc
  mlt : Two MirrorLink
  xu : Xu
  tel : Tel
  sns : Sns
  tlu : Tlu
  issued : List Output
  frees : Nat
deriving DecidableEq, Repr

/-- The machine: the part, and the commands that wait, first in first out. -/
structure State where
  part : Part
  pending : List Instr
deriving DecidableEq, Repr

/-- Why a step stops with a fault: no command of this block does. Every error that the manual names is an effect on
the state (an outcome, a counter, an event), so the type has no constructor. -/
inductive Fault where
deriving DecidableEq, Repr

/-- Why a step has no meaning. -/
inductive Refusal where
  /-- Raised by exec's arm of a command that has no meaning yet. Safe: no claim is made about the command. -/
  | notModelled (mnemonic : String)
deriving DecidableEq, Repr

/-! ## Power-on values -/

/-- All counters of R10 at 0 (R19). -/
def SensorCounters.zero : SensorCounters := ⟨0, 0, 0, 0, 0, 0, 0, 0, 0, 0, 0, 0, 0⟩

/-- R19. -/
def SensorLink.powerOn : SensorLink where
  state := .off
  enable := false
  expectedId := 0
  quietMs := 10
  lastFrame := none
  quietTimer := none
  fifo := []
  counters := .zero

/-- The geometry unset (R42). -/
def Geometry.unset : Geometry := ⟨.all 0, 0, 0, false⟩

/-- A FREE slot, all fields cleared (R42). -/
def AsmSlot.cleared : AsmSlot where
  state := .free
  sealing := false
  frame := 0
  openTime := 0
  deadline := 0
  bank := 0
  swapFrame := false
  present := .all false
  received := .all []
  sealKind := none
  sealTime := 0

/-- R42; the last sealed frame is none (R162). -/
def Fra.powerOn : Fra where
  slots := .both .cleared
  queue := []
  rr := 3
  highest := none
  abandons := 0
  gapTimer := none
  freshBank := false
  windowUs := 1000
  abandonLimit := 5
  gapMs := 20
  lastSealed := none

/-- The power-on sensor parameters (R58). -/
def SensorParam.powerOn : SensorParam := ⟨0, 16384, .zero, 3⟩

/-- The power-on entry of the kept slope table: value 0, age 255 (R58). -/
def Kept.powerOn : Kept := ⟨0, 255⟩

/-- Every slope MISSING, counts 0 (R50, R58). -/
def SlopeRecord.cleared : SlopeRecord := ⟨[], 0, 0, 0⟩

/-- R58. -/
def Scn.powerOn : Scn where
  refLive := []
  refShadow := []
  refWaiting := false
  parLive := .all .powerOn
  parShadow := .all .powerOn
  parWaiting := false
  load := none
  kept := []
  records := .both .cleared
  job := none
  substDue := none

/-- A residual record that is not valid, every value 0 (R73). -/
def ResidualRecord.cleared : ResidualRecord := ⟨false, [], 0, 0⟩

/-- R73. -/
def Rca.powerOn : Rca where
  acc := .both []
  stream := []
  residual := .both .cleared
  extracting := none

/-- The power-on bank record (R92). -/
def BankRecord.powerOn : BankRecord := ⟨.empty, 0, 0, 0, 0, 0⟩

/-- The power-on rotation order (R92). -/
def rotationPowerOn : List Requester := [.stream, .loader, .reader]

/-- R92: nothing is listed in the store, whose contents are undefined. -/
def Mxs.powerOn : Mxs where
  store := []
  epoch := 0
  banks := .both .powerOn
  pendingSwap := none
  pairMode := false
  pairNext := false
  rotation := rotationPowerOn
  bursts := []
  load := none
  readback := none
  tableImage := []

/-- The power-on limits entry (R125). -/
def Limits.powerOn : Limits := ⟨0, 65535, 32768, true⟩

/-- The power-on integrator value, 256 × 32,768 (R125). -/
def integratorPowerOn : Nat := 8388608

/-- The power-on gains: leak 1.0, gain 0 (R125). -/
def Gains.powerOn : Gains := ⟨32768, 0⟩

/-- The empty hold cause set. -/
def CauseSet.empty : CauseSet := ⟨false, false, false, false⟩

/-- R125. -/
def Lpc.powerOn : Lpc where
  loop := .stopped
  causes := .empty
  firstCause := none
  u := []
  limLive := []
  limShadow := []
  limWaiting := false
  pairLive := []
  pairShadow := []
  pairWaiting := false
  gainLive := .both .powerOn
  gainShadow := .both .powerOn
  gainWaiting := false
  rampLength := 0
  rampCount := 0
  threshold := 0
  divLimit := 10
  divCount := 0
  update := none
  shape := []
  load := none

/-- All counters of R147 at 0 (R148). -/
def MirrorCounters.zero : MirrorCounters := ⟨0, 0, 0, 0, 0, 0, 0, 0, 0, 0, 0, 0, 0, 0⟩

/-- R148. -/
def MirrorLink.powerOn : MirrorLink where
  state := .off
  enable := false
  nextSeq := 0
  outstanding := []
  timer := none
  queryCount := 0
  awaiting := false
  blockCount := 0
  rejectCount := 0
  probe := none
  tx := []
  timeoutUs := 500
  queryLimit := 3
  blockLimit := 20
  rejectLimit := 3
  counters := .zero

/-- A window that covers nothing (R175). -/
def Window.powerOn : Window := ⟨false, 0, 0, 0⟩

/-- R175. The function's configuration allows memory requests and MSI (DESIGN CHOICE, log entry 9). -/
def Xu.powerOn : Xu where
  exchEn := false
  base := 0
  sweepTimer := none
  sweeping := false
  periodUs := 100
  nextTicket := 0
  lane := none
  queue := []
  windows := .all .powerOn
  sweepCount := 0
  hostFailures := 0
  memRequests := true
  msiEnabled := true

/-- R185. -/
def Tel.powerOn : Tel where
  ringSet := false
  ringAddr := 0
  capacity := 16
  written := 0
  consumed := 0
  dropped := 0
  droppedSince := 0
  queue := []

/-- R194: every field of the contents 0, which is loop state STOPPED and bank A. -/
def Sns.powerOn : Sns where
  filled := false
  frame := 0
  s := 0
  a := 0
  bank := 0
  swapFrame := false
  ramp := false
  loop := .stopped
  headerOverwritten := 0
  slopes := []
  residuals := []
  commands := []
  capturePending := false
  copying := false
  renewed := false
  overwritten := 0

/-- The stopped pacer with its power-on values (R207); no period has started, so its start and length are 0. -/
def Pacer.powerOn : Pacer where
  running := false
  live := ⟨1000, 0, 10⟩
  next := none
  acc := 0
  start := 0
  length := 0
  trigger := false

/-- A deasserted line with a debounce count of 3 (R207). -/
def Line.powerOn : Line := ⟨false, 0, 3, false⟩

/-- R207. -/
def Tlu.powerOn : Tlu where
  timebase := 0
  latch := 0
  pacer := .powerOn
  interlock := .powerOn
  snap := .powerOn
  mark := .powerOn
  blockInterlock := true
  blockMark := false
  blockLoop := false
  blockedSnaps := 0
  qualifiedSnaps := 0
  markEdges := 0
  events := 0
  mask := 0
  nextSample := 0

/-- The part at power-on: every block at its power-on values (R19, R42, R58, R73, R92, R125, R148, R175, R185, R194,
R207). -/
def Part.powerOn : Part where
  geo := .unset
  links := .all .powerOn
  fra := .powerOn
  scn := .powerOn
  rca := .powerOn
  mxs := .powerOn
  lpc := .powerOn
  mlt := .both .powerOn
  xu := .powerOn
  tel := .powerOn
  sns := .powerOn
  tlu := .powerOn
  issued := []
  frees := 0

/-- The machine right after power-on, no command waiting. -/
def State.reset : State where
  part := .powerOn
  pending := []

end Sys2Proof.Machine
end

