-- ==== Sys2Proof/Machine/Ops.lean ====
section
/-! DEFINITION. The shared operations: replacing a block, the sparse tables, the matrix store's bytes, time and timers,
and what the part issues. -/

namespace Sys2Proof.Machine

/-! ## Replacing a block -/

/-- The part with its geo block replaced by a function of it. -/
def Part.modGeo (g : Geometry → Geometry) (p : Part) : Part := { p with geo := g p.geo }

/-- The part with its links block replaced by a function of it. -/
def Part.modLinks (g : Four SensorLink → Four SensorLink) (p : Part) : Part := { p with links := g p.links }

/-- The part with its fra block replaced by a function of it. -/
def Part.modFra (g : Fra → Fra) (p : Part) : Part := { p with fra := g p.fra }

/-- The part with its scn block replaced by a function of it. -/
def Part.modScn (g : Scn → Scn) (p : Part) : Part := { p with scn := g p.scn }

/-- The part with its rca block replaced by a function of it. -/
def Part.modRca (g : Rca → Rca) (p : Part) : Part := { p with rca := g p.rca }

/-- The part with its mxs block replaced by a function of it. -/
def Part.modMxs (g : Mxs → Mxs) (p : Part) : Part := { p with mxs := g p.mxs }

/-- The part with its lpc block replaced by a function of it. -/
def Part.modLpc (g : Lpc → Lpc) (p : Part) : Part := { p with lpc := g p.lpc }

/-- The part with its mlt block replaced by a function of it. -/
def Part.modMlt (g : Two MirrorLink → Two MirrorLink) (p : Part) : Part := { p with mlt := g p.mlt }

/-- The part with its xu block replaced by a function of it. -/
def Part.modXu (g : Xu → Xu) (p : Part) : Part := { p with xu := g p.xu }

/-- The part with its tel block replaced by a function of it. -/
def Part.modTel (g : Tel → Tel) (p : Part) : Part := { p with tel := g p.tel }

/-- The part with its sns block replaced by a function of it. -/
def Part.modSns (g : Sns → Sns) (p : Part) : Part := { p with sns := g p.sns }

/-- The part with its tlu block replaced by a function of it. -/
def Part.modTlu (g : Tlu → Tlu) (p : Part) : Part := { p with tlu := g p.tlu }

/-- The part with one sensor link replaced by a function of it. -/
def Part.modLink (i : LinkIx) (g : SensorLink → SensorLink) (p : Part) : Part :=
  p.modLinks fun v => v.set i (g (v.get i))

/-- The part with one mirror link replaced by a function of it. -/
def Part.modMirror (m : MirrorIx) (g : MirrorLink → MirrorLink) (p : Part) : Part :=
  p.modMlt fun v => v.set m (g (v.get m))

/-- The part with one assembly slot replaced by a function of it. -/
def Part.modSlot (i : SlotIx) (g : AsmSlot → AsmSlot) (p : Part) : Part :=
  p.modFra fun f => { f with slots := f.slots.set i (g (f.slots.get i)) }

/-- The part with one frame slope record replaced by a function of it. -/
def Part.modRecord (i : SlotIx) (g : SlopeRecord → SlopeRecord) (p : Part) : Part :=
  p.modScn fun c => { c with records := c.records.set i (g (c.records.get i)) }

/-- The part with one bank record replaced by a function of it. -/
def Part.modBank (b : BankIx) (g : BankRecord → BankRecord) (p : Part) : Part :=
  p.modMxs fun x => { x with banks := x.banks.set b (g (x.banks.get b)) }

/-- The part with one counter set of a sensor link replaced by a function of it (R10). -/
def Part.countSensor (i : LinkIx) (g : SensorCounters → SensorCounters) (p : Part) : Part :=
  p.modLink i fun l => { l with counters := g l.counters }

/-- The part with one counter set of a mirror link replaced by a function of it (R147). -/
def Part.countMirror (m : MirrorIx) (g : MirrorCounters → MirrorCounters) (p : Part) : Part :=
  p.modMirror m fun l => { l with counters := g l.counters }

/-- The part with one more output issued, after all before it (R153). -/
def Part.issue (o : Output) (p : Part) : Part := { p with issued := p.issued ++ [o] }

/-- The part with the next free value drawn. -/
def Part.drawFree (p : Part) : Part := { p with frees := p.frees + 1 }

/-! ## Sparse tables -/

/-- The listed entry of an index. -/
def Sparse.find {α : Type} : Sparse α → Nat → Option α
  | [], _ => none
  | (k, v) :: rest, a => if k = a then some v else Sparse.find rest a

/-- The entry at an index: the listed one, or the table's default. -/
def Sparse.get {α : Type} (d : α) (t : Sparse α) (a : Nat) : α := (Sparse.find t a).getD d

/-- The list with an entry listed at its place. -/
def Sparse.put {α : Type} : Sparse α → Nat → α → Sparse α
  | [], a, v => [(a, v)]
  | (k, w) :: rest, a, v =>
    if a < k then (a, v) :: (k, w) :: rest
    else if a = k then (a, v) :: rest
    else (k, w) :: Sparse.put rest a v

/-- The list without any entry at an index. -/
def Sparse.drop {α : Type} (t : Sparse α) (a : Nat) : Sparse α := t.filter fun e => e.1 ≠ a

/-- The table with one entry written: the default is not listed. -/
def Sparse.set {α : Type} [DecidableEq α] (d : α) (t : Sparse α) (a : Nat) (v : α) : Sparse α :=
  if v = d then Sparse.drop t a else Sparse.put t a v

/-- The table with the entry at each listed index written from a function of the index. -/
def Sparse.setAll {α : Type} [DecidableEq α] (d : α) (t : Sparse α) (ks : List Nat) (f : Nat → α) : Sparse α :=
  ks.foldl (fun acc k => Sparse.set d acc k (f k)) t

/-- The table of another table's entries, each mapped; d is the result's default. -/
def Sparse.mapTo {α β : Type} [DecidableEq β] (d : β) (f : α → β) (t : Sparse α) : Sparse β :=
  (t.map fun e => (e.1, f e.2)).filter fun e => e.2 ≠ d

/-- The table with entries written from index 0 on. -/
def Sparse.setList {α : Type} [DecidableEq α] (d : α) (t : Sparse α) (vs : List α) : Sparse α :=
  Sparse.setAll d t (List.range vs.length) fun k => vs.getD k d

/-- The canonical form: indices strictly rising, and no entry equal to the default. -/
def Sparse.wf {α : Type} [DecidableEq α] (d : α) : Sparse α → Bool
  | [] => true
  | (_, v) :: [] => v ≠ d
  | (k, v) :: (k', v') :: rest => v ≠ d && k < k' && Sparse.wf d ((k', v') :: rest)

/-! ## The matrix store's memory (R75) -/

/-- The byte that a load has written at a store offset, or none where none has since power-on. -/
def Memory.read (m : List Host.Cell) (offset : Nat) : Option Byte := Sparse.find m offset

/-- One byte written. -/
def Memory.write (m : List Host.Cell) (offset : Nat) (b : Byte) : List Host.Cell := Sparse.put m offset b

/-- A run of bytes written from an offset on. -/
def Memory.writeAll (m : List Host.Cell) (offset : Nat) : List Byte → List Host.Cell
  | [] => m
  | b :: rest => Memory.writeAll (Memory.write m offset b) (offset + 1) rest

/-- The canonical form: offsets strictly rising. An unlisted offset reads as no byte, which no entry equals. -/
def Memory.wf : List Host.Cell → Bool
  | [] => true
  | _ :: [] => true
  | (k, _) :: (k', v') :: rest => k < k' && Memory.wf ((k', v') :: rest)

/-- The byte at a store offset: what a load has written there, or the undefined contents of power-on (R75, R92). -/
def Part.storeByte (p : Part) (offset : Nat) : Byte :=
  (Memory.read p.mxs.store offset).getD (Config.undefinedStoreByte p.mxs.epoch offset)

/-- The store offset at which a bank begins: 256 MiB each (R75). -/
def bankBase (b : BankIx) : Nat := 268435456 * b.val

/-- The coefficient at a coefficient position of a bank: signed, least significant byte first (R60, R75). -/
def Part.coefficient (p : Part) (b : BankIx) (position : Nat) : Int :=
  (BitVec.ofNat 16 ((p.storeByte (bankBase b + 2 * position)).toNat
    + 256 * (p.storeByte (bankBase b + 2 * position + 1)).toNat)).toInt

/-! ## Time and timers (R195) -/

/-- The timebase as it stands. -/
def Part.now (p : Part) : Time := p.tlu.timebase

/-- The low 32 bits of a timebase value, for a 32-bit field (R195). -/
def low32 (t : Time) : BitVec 32 := t.setWidth 32

/-- The timebase value now has reached a time that was set: it is not before it, modulo 2^64 (R195; DEDUCED for the
wrap, log entry 10). -/
def reached (now t : Time) : Bool := (now - t).toNat < 2 ^ 63

/-- An event whose time is t is taken: the timebase, where it has not reached t, moves on to it (log entry 10). -/
def Part.advanceTo (t : Time) (p : Part) : Part :=
  p.modTlu fun l => { l with timebase := if reached l.timebase t then l.timebase else t }

/-- One microsecond passes (R195). -/
def Part.tick (p : Part) : Part :=
  p.modTlu fun l => { l with timebase := l.timebase + 1 }

/-- The time that lies a number of microseconds after another. -/
def later (t : Time) (us : Nat) : Time := t + BitVec.ofNat 64 us

/-! ## Host memory (R153) -/

/-- A posted write, which is not issued while memory requests are disabled. -/
def Part.hostWrite (addr : BitVec 64) (data : List Byte) (p : Part) : Part :=
  if p.xu.memRequests then p.issue (.hostWrite addr data) else p

/-- A read issued; while memory requests are disabled the caller takes it as a host access failure at once. -/
def Part.hostRead (addr : BitVec 64) (length : Nat) (p : Part) : Part :=
  if p.xu.memRequests then p.issue (.hostRead addr length) else p

/-- The address at which the exchange area begins: EXCH_BASE with its lowest 12 bits taken as 0 (R152). -/
def Part.area (p : Part) : BitVec 64 := p.xu.base &&& ~~~(0xFFF#64)

/-- A number as little-endian bytes (R209). -/
def leBytes (size n : Nat) : List Byte :=
  (List.range size).map fun i => BitVec.ofNat 8 (n / 256 ^ i)

/-! ## Serial comparison (scope file, section 4.7) -/

/-- X is newer than Y: (X − Y) mod 65,536 lies in 1..32,767. -/
def newer (x y : Serial) : Bool := 1 ≤ (x - y).toNat && (x - y).toNat ≤ 32767

end Sys2Proof.Machine
end

