-- ==== Sys2Proof/Machine/Flags.lean ====
section
/-! DEFINITION. The eight event flags, their mask, and the MSI messages (R205, R206). -/

namespace Sys2Proof.Machine

/-- An event (section 10.4). -/
inductive Event where
  | orderFinished
  | loopState
  | sensorLink
  | mirrorLink
  | telemetryDrop
  | snapshotHeld
  | hostAccess
  | interlock
deriving DecidableEq, Repr

/-- The event's bit in EVENTS and EVENT_MASK (section 11.4). -/
def Event.bit : Event → Nat
  | .orderFinished => 0
  | .loopState => 1
  | .sensorLink => 2
  | .mirrorLink => 3
  | .telemetryDrop => 4
  | .snapshotHeld => 5
  | .hostAccess => 6
  | .interlock => 7

/-- One MSI message, which is not sent, nor held back, while MSI or memory requests are disabled (R206). -/
def Part.sendMsi (p : Part) : Part :=
  if p.xu.memRequests && p.xu.msiEnabled then p.issue .msi else p

/-- The event register with the event's flag set. -/
def withFlag (events : BitVec 8) (e : Event) : BitVec 8 := events ||| BitVec.twoPow 8 e.bit

/-- An event is raised: its flag is set whatever the mask, and one MSI is sent when the flag goes from 0 to 1 with its mask
bit at 1 (R205, R206). -/
def Part.raise (e : Event) (p : Part) : Part :=
  if p.tlu.events.getLsbD e.bit then p
  else
    let q := p.modTlu fun l => { l with events := withFlag l.events e }
    if p.tlu.mask.getLsbD e.bit then q.sendMsi else q

/-- A write to EVENTS clears each flag whose bit is written as 1; bits outside the eight are ignored (R205). -/
def Part.clearEvents (value : BitVec 32) (p : Part) : Part :=
  p.modTlu fun l => { l with events := l.events &&& ~~~(value.setWidth 8) }

/-- A write to EVENT_MASK replaces the eight mask bits, and sends one MSI if it changes a mask bit from 0 to 1 whose flag is
1 (R206). -/
def Part.writeMask (value : BitVec 32) (p : Part) : Part :=
  let opened := value.setWidth 8 &&& ~~~p.tlu.mask &&& p.tlu.events
  let q := p.modTlu fun l => { l with mask := value.setWidth 8 }
  if opened = 0 then q else q.sendMsi

end Sys2Proof.Machine
end

