-- ==== Sys2Proof/Machine/Operands.lean ====
section
/-! DEFINITION. How an order's parameters are judged: structural values, tuning values (R164), windows and buffers (R165,
R166); and the results that orders finish with (R163, R164). -/

namespace Sys2Proof.Machine

/-! ## Results -/

/-- Why an order FAILED (R164). -/
inductive Reason where
  | badKind
  | badParameter
  | wrongState
  | busy
  | badAddress
  | windowCrossing
  | alignment
  | hostAccess
  | aborted
  | exchangeStopped
  | duplicateTicket
  | checkMismatch
  | geometryMismatch
  | bankNotReady
  | bankActive
  | bankBusy
  | swapPending
  | interlock
  | causePresent
  | nothingHeld
  | noTransfer
  | timeout
deriving DecidableEq, Repr

/-- The reason's code (section 11.6); 11 is unused. -/
def Reason.code : Reason → Byte
  | .badKind => 1
  | .badParameter => 2
  | .wrongState => 3
  | .busy => 4
  | .badAddress => 5
  | .windowCrossing => 6
  | .alignment => 7
  | .hostAccess => 8
  | .aborted => 9
  | .exchangeStopped => 10
  | .duplicateTicket => 12
  | .checkMismatch => 13
  | .geometryMismatch => 14
  | .bankNotReady => 15
  | .bankActive => 16
  | .bankBusy => 17
  | .swapPending => 18
  | .interlock => 19
  | .causePresent => 20
  | .nothingHeld => 21
  | .noTransfer => 22
  | .timeout => 23

/-- A result: DONE (no reason) or FAILED, the notes, and the four detail words (R163). -/
structure OrderResult where
  reason : Option Reason
  adjusted : Bool
  renewed : Bool
  d1 : BitVec 32
  d2 : BitVec 32
  d3 : BitVec 32
  d4 : BitVec 32
deriving DecidableEq, Repr

/-- DONE, a detail word for which the owning rule gives nothing being 0 (R164). -/
def OrderResult.done : OrderResult := ⟨none, false, false, 0, 0, 0, 0⟩

/-- DONE, with the ADJUSTED note where a tuning value was clamped (R164). -/
def OrderResult.adjustedDone (adjusted : Bool) : OrderResult := { OrderResult.done with adjusted := adjusted }

/-- FAILED with a reason. -/
def OrderResult.failed (r : Reason) : OrderResult := { OrderResult.done with reason := some r }

/-- FAILED with a reason and a first detail word. -/
def OrderResult.failedWith (r : Reason) (d1 : BitVec 32) : OrderResult :=
  { OrderResult.done with reason := some r, d1 := d1 }

/-- A bulk order's result: the fourth detail word holds the bytes remaining (R164, R169), modulo 2^32 where they exceed 32 bits, as
those of a LOAD_MATRIX refused for its dimensions can (DESIGN CHOICE, log entry 38). -/
def OrderResult.remaining (r : OrderResult) (bytes : Nat) : OrderResult := { r with d4 := BitVec.ofNat 32 bytes }

/-! ## Tuning values -/

/-- A tuning value clamped into its range (R164). -/
def clampTo (lo hi v : Nat) : Nat := max lo (min hi v)

/-- The tuning value lies outside its range, so that clamping it puts the ADJUSTED note in the result (R164). -/
def outside (lo hi v : Nat) : Bool := v < lo || hi < v

/-! ## Codes of parameters (section 11.6) -/

/-- The policy that a code names. -/
def policyOf (code : Byte) : Option Policy :=
  if code = 0 then some .keep
  else if code = 1 then some .zero
  else if code = 2 then some .require
  else none

/-- The policy's code. -/
def Policy.code : Policy → Byte
  | .keep => 0
  | .zero => 1
  | .require => 2

/-- The index below a bound that a byte names. -/
def indexOf (n : Nat) (code : Byte) : Option (Fin n) :=
  if h : code.toNat < n then some ⟨code.toNat, h⟩ else none

/-- A flag byte: 0 or 1. -/
def flagOf (code : Byte) : Option Bool :=
  if code = 0 then some false
  else if code = 1 then some true
  else none

/-- A power of two with its exponent in lo..hi. -/
def isPowerIn (lo hi v : Nat) : Bool := (List.range (hi + 1)).any fun k => lo ≤ k && v = 2 ^ k

/-! ## Windows and buffers -/

/-- The window is enabled and covers a part address (R165). -/
def Window.covers (w : Window) (addr : BitVec 64) : Bool :=
  w.enable && w.partBase.toNat ≤ addr.toNat && addr.toNat < w.partBase.toNat + w.size.toNat

/-- The enabled window of lowest index that covers a part address (R165). -/
def Part.windowFor (p : Part) (addr : BitVec 64) : Option Window :=
  let w := p.xu.windows
  [w.f0, w.f1, w.f2, w.f3].find? fun x => x.covers addr

/-- The host address of a part address within a window (R165). -/
def Window.translate (w : Window) (addr : BitVec 64) : BitVec 64 := w.hostAddr + (addr - w.partBase)

/-- The checks of R166 on one buffer, in their order; sizeAligned says that a READ_BACK destination size is a multiple of 64
and not 0 (true for the others). A buffer that passes is translated to its host address. -/
def Part.checkBuffer (p : Part) (addr : BitVec 64) (length : Nat) (sizeAligned : Bool) : Except Reason (BitVec 64) :=
  if addr.toNat % 64 ≠ 0 || !sizeAligned then .error .alignment
  else
    match p.windowFor addr with
    | none => .error .badAddress
    | some w =>
      if w.partBase.toNat + w.size.toNat < addr.toNat + length then .error .windowCrossing
      else .ok (w.translate addr)

/-! ## Geometry (R21, R22) -/

/-- S, the slopes per frame (R21). -/
def Geometry.slopes (g : Geometry) : Nat := 2 * (g.n.f0 + g.n.f1 + g.n.f2 + g.n.f3)

/-- A, the actuators in total (section 3 of the scope file). -/
def Geometry.actuators (g : Geometry) : Nat := g.a0 + g.a1

/-- The actuators of a mirror. -/
def Geometry.mirror (g : Geometry) (m : MirrorIx) : Nat :=
  match m with
  | 0 => g.a0
  | 1 => g.a1

/-- base_s, the first slope of a sensor (R22). -/
def Geometry.base (g : Geometry) (s : LinkIx) : Nat :=
  match s with
  | 0 => 0
  | 1 => 2 * g.n.f0
  | 2 => 2 * g.n.f0 + 2 * g.n.f1
  | 3 => 2 * g.n.f0 + 2 * g.n.f1 + 2 * g.n.f2

/-- The segments of a sensor's frame, ceil(n_s / 64) (R5). -/
def segmentCount (n : Nat) : Nat := (n + 63) / 64

/-- The record count of a segment, min(64, n_s − 64k) (R5). -/
def recordCount (n k : Nat) : Nat := min 64 (n - 64 * k)

/-- The mirror of an actuator (R22). -/
def Geometry.mirrorOf (g : Geometry) (a : Nat) : MirrorIx := if a < g.a0 then 0 else 1

/-- The slopes in ascending order, each with its sensor (R22). -/
def Geometry.slopeList (g : Geometry) : List (Nat × LinkIx) :=
  [0, 1, 2, 3].flatMap fun s : LinkIx =>
    (List.range (2 * g.n.get s)).map fun k => (g.base s + k, s)

end Sys2Proof.Machine
end

