-- ==== Sys2Proof/Machine/Arithmetic.lean ====
section
/-! DEFINITION. The arithmetic of conditioning, substitution, reconstruction, the integrator and shaping, down to rounding
and saturation. Products and sums are formed exactly, and narrowed where the manual says so. -/

namespace Sys2Proof.Machine

/-- Saturation to a range (scope file, section 4.5). -/
def saturate (lo hi v : Int) : Int := max lo (min hi v)

/-- Rounding half up: half of the divisor 2^k is added, and the sum is shifted right k places arithmetically (scope file,
section 4.5). -/
def roundShift (k : Nat) (v : Int) : Int := (v + 2 ^ (k - 1)) / 2 ^ k

/-! ## Conditioning (R52) -/

/-- A conditioned slope, and whether either step saturated. -/
structure Conditioned where
  value : BitVec 16
  saturated : Bool
deriving DecidableEq, Repr

/-- A flux-valid slope x with its reference and its sensor's weight (R52). -/
def conditionSlope (x ref w : BitVec 16) : Conditioned :=
  let diff := x.toInt - ref.toInt
  let d := saturate (-32768) 32767 diff
  let shifted := roundShift 14 (d * (w.toNat : Int))
  let c := saturate (-32768) 32767 shifted
  ⟨BitVec.ofInt 16 c, d ≠ diff || c ≠ shifted⟩

/-! ## Substitution (R54) -/

/-- What substitution does with one slope: its status afterwards, its kept entry afterwards, and the substituted value where
it receives one. -/
structure Substituted where
  status : SlopeStatus
  kept : Kept
  value : Option (BitVec 16)
deriving DecidableEq, Repr

/-- The kept entry one frame older; an age of 255 stays 255 (R54). -/
def Kept.older (k : Kept) : Kept := { k with age := min 255 (k.age + 1) }

/-- The value that stands in for a MISSING or INVALID slope (R54). -/
def standIn (par : SensorParam) (k : Kept) : BitVec 16 :=
  match par.policy with
  | .keep => if k.age < par.keepLimit then k.value else 0
  | .zero => 0
  | .require => 0

/-- One visit of substitution (R54). -/
def substituteSlope (par : SensorParam) (k : Kept) (status : SlopeStatus) : Substituted :=
  match status with
  | .valid c => ⟨.valid c, ⟨c, 0⟩, none⟩
  | .substituted c => ⟨.substituted c, k, none⟩
  | .missing | .invalid => ⟨.substituted (standIn par k), k.older, some (standIn par k)⟩

/-! ## Reconstruction (R63, R65) -/

/-- A product added into a 48-bit accumulator (R63). -/
def accumulate (acc : BitVec 48) (c : BitVec 16) (coefficient : Int) : BitVec 48 :=
  BitVec.ofInt 48 (acc.toInt + c.toInt * coefficient)

/-- The shifted accumulator before saturation (R65, steps 1 and 2). -/
def scaleResidual (e : Nat) (acc : BitVec 48) : Int :=
  if e = 0 then acc.toInt else roundShift e acc.toInt

/-- The residual of an accumulator (R65). -/
def residualOf (e : Nat) (acc : BitVec 48) : Int := saturate (-8388608) 8388607 (scaleResidual e acc)

/-- Step 3 of R65 clamps the value (R66). -/
def residualSaturates (e : Nat) (acc : BitVec 48) : Bool := residualOf e acc ≠ scaleResidual e acc

/-! ## The integrator (R105, R113, R114) -/

/-- The limits entry in fine units: 256·lo. -/
def Limits.loFine (l : Limits) : Nat := 256 * l.lo.toNat
/-- 256·hi. -/
def Limits.hiFine (l : Limits) : Nat := 256 * l.hi.toNat
/-- 256·b, the rest position in fine units. -/
def Limits.flatFine (l : Limits) : Nat := 256 * l.flat.toNat

/-- An integrator value brought within a limits entry (R105): to flat where inactive, clamped where active. -/
def bringWithin (l : Limits) (u : Nat) : Nat :=
  if l.active then clampTo l.loFine l.hiFine u else l.flatFine

/-- The effective gain under the ramp (R114). -/
def effectiveGain (g k rampLength : Nat) : Nat :=
  if 0 < rampLength && k ≤ rampLength then g * k / rampLength else g

/-- The unclamped result of R113: flat, plus the leaked deviation, plus the gained residual. -/
def integrated (l : Limits) (u : Nat) (e : Int) (leak gain : Nat) : Int :=
  let v : Int := (u : Int) - l.flatFine
  (l.flatFine : Int) + roundShift 15 (v * leak) + roundShift 15 (e * gain)

/-- u' of one actuator (R113). -/
def integrate (l : Limits) (u : Nat) (e : Int) (leak gain : Nat) : Nat :=
  if l.active then (saturate l.loFine l.hiFine (integrated l u e leak gain)).toNat else l.flatFine

/-- Step 4 of R113 clamps the value. -/
def integrateClamps (l : Limits) (u : Nat) (e : Int) (leak gain : Nat) : Bool :=
  l.active && saturate l.loFine l.hiFine (integrated l u e leak gain) ≠ integrated l u e leak gain

/-! ## Shaping (R115 to R117) -/

/-- The code of a fine-unit value (R115). -/
def codeOf (w : Nat) : Nat := (w + 128) / 256

/-- The codes as the neighbour pass leaves them, and how many pairs it adjusted. -/
structure PassState where
  codes : List Nat
  adjusted : Nat
deriving DecidableEq, Repr

/-- One pair of the neighbour pass on the codes as they stand (R116). -/
def passPair (limits : Sparse Limits) (a : Nat) (s : PassState) (pr : ActuatorPair) : PassState :=
  let activeP := (Sparse.get Limits.powerOn limits pr.p).active
  let activeR := (Sparse.get Limits.powerOn limits pr.r).active
  let qp := s.codes.getD pr.p 0
  let qr := s.codes.getD pr.r 0
  let excess := (max qp qr - min qp qr) - pr.d
  if a ≤ pr.p || a ≤ pr.r || (!activeP && !activeR) || excess = 0 then s
  else
    let big := if qr ≤ qp then pr.p else pr.r
    let small := if qr ≤ qp then pr.r else pr.p
    let down := if activeP && activeR then (excess + 1) / 2
      else if (if qr ≤ qp then activeP else activeR) then excess else 0
    let up := excess - down
    ⟨(s.codes.set big (max qp qr - down)).set small (min qp qr + up), s.adjusted + 1⟩

/-- The neighbour pass, once over the pair table from first to last (R116). -/
def neighbourPass (limits : Sparse Limits) (pairs : List ActuatorPair) (a : Nat) (codes : List Nat) : PassState :=
  pairs.foldl (passPair limits a) ⟨codes, 0⟩

/-- What shaping leaves: the shaped vector, the codes, the CLAMP count of the final clamp and the NEIGHBOUR count. -/
structure Shaped where
  vector : List Nat
  codes : List Nat
  clamps : Nat
  neighbours : Nat
deriving DecidableEq, Repr

/-- The final clamp of one code (R117). -/
def finalCode (limits : Sparse Limits) (a q : Nat) : Nat :=
  let l := Sparse.get Limits.powerOn limits a
  clampTo l.lo.toNat l.hi.toNat q

/-- Write-back: where the final code differs from the starting code, the value becomes 256 times it (R117). -/
def writeBack (w final : Nat) : Nat := if final = codeOf w then w else 256 * final

/-- Shaping of a working vector, actuator 0 first (R115 to R117). -/
def shapeVector (limits : Sparse Limits) (pairs : List ActuatorPair) (w : List Nat) : Shaped :=
  let pass := neighbourPass limits pairs w.length (w.map codeOf)
  let final := pass.codes.zipIdx.map fun x => finalCode limits x.2 x.1
  { vector := List.zipWith writeBack w final
    codes := final
    clamps := pass.codes.zipIdx.countP fun x => finalCode limits x.2 x.1 ≠ x.1
    neighbours := pass.adjusted }

end Sys2Proof.Machine
end

