-- ==== Sys2Proof/Machine/Formats.lean ====
section
/-! DEFINITION. The byte layouts that the part writes (chapter 11): link packets, results, the status block, telemetry
records, the snapshot image and the table images; and the registers as they read. Bytes and bits that carry no field are
0 (R209). -/

namespace Sys2Proof.Machine

/-- Bytes that carry no field. -/
def zeros (n : Nat) : List Byte := List.replicate n 0

/-- A bit as a number at its place. -/
def bitAt (place : Nat) (b : Bool) : Nat := if b then 2 ^ place else 0

/-! ## Link packets (R127, R210, R212) -/

/-- A packet closed by its CRC-16, least significant byte first (R210). -/
def withCrc (body : List Byte) : List Byte := body ++ leBytes 2 (crc16 body).toNat

/-- One COMMAND segment (R127, R212). -/
def commandSegment (m : MirrorIx) (seq : Serial) (count index : Nat) (codes : List Nat) : List Byte :=
  withCrc (leBytes 1 0x61 ++ leBytes 1 m.val ++ leBytes 2 seq.toNat ++ leBytes 1 index ++ leBytes 1 count
    ++ leBytes 2 codes.length ++ codes.flatMap (leBytes 2))

/-- The segments of a command frame: segment k carries codes 256k to 256k + c − 1 (R127). -/
def commandFrame (m : MirrorIx) (seq : Serial) (codes : List Nat) : List (List Byte) :=
  let count := (codes.length + 255) / 256
  (List.range count).map fun k => commandSegment m seq count k ((codes.drop (256 * k)).take 256)

/-- A QUERY (R212). -/
def queryPacket (m : MirrorIx) : List Byte := withCrc (leBytes 1 0x62 ++ leBytes 1 m.val)

/-! ## Results (section 11.6) -/

/-- The 32 bytes of a result, from slot offset 0x60 to 0x7F (R163, R214). -/
def resultBytes (r : OrderResult) (completion : BitVec 32) : List Byte :=
  [((r.reason.map Reason.code).getD 0)]
    ++ leBytes 1 (bitAt 0 r.adjusted + bitAt 1 r.renewed) ++ zeros 2
    ++ leBytes 4 r.d1.toNat ++ leBytes 4 r.d2.toNat ++ leBytes 4 r.d3.toNat ++ leBytes 4 r.d4.toNat
    ++ leBytes 4 completion.toNat ++ zeros 8

/-- The state byte of a finished order: DONE 3, FAILED 4 (R214). -/
def finishedState (r : OrderResult) : Byte := if r.reason.isNone then 3 else 4

/-! ## Codes (section 11.7) -/

/-- The loop state's code. -/
def LoopState.code : LoopState → Nat
  | .stopped => 0
  | .opened => 1
  | .closed => 2
  | .held => 3

/-- The hold cause set's bits. -/
def CauseSet.code (c : CauseSet) : Nat :=
  bitAt 0 c.interlock + bitAt 1 c.mirrorLink + bitAt 2 c.sensorLoss + bitAt 3 c.divergence

/-- The first cause's code. -/
def firstCauseCode : Option HoldCause → Nat
  | none => 0
  | some .interlock => 1
  | some .mirrorLink => 2
  | some .sensorLoss => 3
  | some .divergence => 4

/-- The bank state's code. -/
def BankState.code : BankState → Nat
  | .empty => 0
  | .loading => 1
  | .ready => 2
  | .active => 3

/-- The sensor link state's code. -/
def LinkState.code : LinkState → Nat
  | .off => 0
  | .acquiring => 1
  | .tracking => 2
  | .quiet => 3

/-- The mirror link state's code. -/
def MirrorState.code : MirrorState → Nat
  | .off => 0
  | .idle => 1
  | .running => 2
  | .checking => 3
  | .blocked => 4
  | .fault => 5

/-- The seal kind's code (sections 11.7 and 11.9). -/
def SealKind.code : SealKind → Nat
  | .complete => 1
  | .partialSeal => 2
  | .abandoned => 3
  | .discarded => 4

/-! ## The status block (R162, section 11.7) -/

/-- The 16 bytes of a bank record. -/
def bankBytes (b : BankRecord) : List Byte :=
  leBytes 1 b.state.code ++ leBytes 1 b.e ++ leBytes 2 b.s ++ leBytes 2 b.a ++ leBytes 2 b.progress
    ++ leBytes 4 b.check.toNat ++ zeros 4

/-- The 4 bytes of a sensor link in the summary. -/
def sensorLinkBytes (l : SensorLink) : List Byte :=
  leBytes 1 l.state.code ++ leBytes 1 (bitAt 0 l.lastFrame.isSome) ++ leBytes 2 (l.lastFrame.getD 0).toNat

/-- The 4 bytes of a mirror link in the summary. -/
def mirrorLinkBytes (l : MirrorLink) : List Byte :=
  leBytes 1 l.state.code ++ leBytes 1 l.outstanding.length ++ leBytes 2 l.nextSeq.toNat

/-- The waiting marks' bits. -/
def Part.waitingCode (p : Part) : Nat :=
  bitAt 0 p.scn.refWaiting + bitAt 1 p.scn.parWaiting + bitAt 2 p.lpc.limWaiting + bitAt 3 p.lpc.pairWaiting
    + bitAt 4 p.lpc.gainWaiting

/-- The pending swap's code: none 0, bank A 1, bank B 2. -/
def Part.pendingSwapCode (p : Part) : Nat :=
  match p.mxs.pendingSwap with
  | none => 0
  | some w => w.target.val + 1

/-- The last sealed kind and frame number. -/
def lastSealedBytes : Option (Serial × SealKind) → List Byte
  | none => zeros 4
  | some (f, k) => leBytes 1 k.code ++ zeros 1 ++ leBytes 2 f.toNat

/-- The ticket and flags of the transfer lane. -/
def Part.laneBytes (p : Part) : List Byte :=
  match p.xu.lane with
  | none => leBytes 1 0 ++ leBytes 1 (16 * p.xu.queue.length)
  | some r => [r.bulk.order.ticket] ++ leBytes 1 (1 + 16 * p.xu.queue.length)

/-- The summary part of the status block: 256 bytes. -/
def Part.summaryBytes (p : Part) : List Byte :=
  let l := p.links
  leBytes 4 p.xu.sweepCount.toNat ++ leBytes 4 (low32 p.now).toNat
    ++ leBytes 1 p.lpc.loop.code ++ leBytes 1 p.lpc.causes.code ++ leBytes 1 (firstCauseCode p.lpc.firstCause)
    ++ leBytes 1 p.waitingCode ++ leBytes 1 p.pendingSwapCode ++ [p.xu.nextTicket] ++ p.laneBytes
    ++ lastSealedBytes p.fra.lastSealed
    ++ leBytes 4 p.tel.written.toNat ++ leBytes 4 p.tel.dropped.toNat ++ leBytes 4 p.xu.hostFailures.toNat
    ++ bankBytes p.mxs.banks.t0 ++ bankBytes p.mxs.banks.t1
    ++ sensorLinkBytes l.f0 ++ sensorLinkBytes l.f1 ++ sensorLinkBytes l.f2 ++ sensorLinkBytes l.f3
    ++ mirrorLinkBytes p.mlt.t0 ++ mirrorLinkBytes p.mlt.t1
    ++ zeros 164 ++ leBytes 4 p.xu.sweepCount.toNat

/-- The 64-byte counter block of a sensor link. -/
def sensorCounterBytes (c : SensorCounters) : List Byte :=
  [c.valid, c.delivered, c.untracked, c.overrun, c.stopped, c.format, c.crc, c.foreign, c.geometry, c.duplicate,
    c.late, c.noSlot, c.incomplete].flatMap (fun x : BitVec 32 => leBytes 4 x.toNat) ++ zeros 12

/-- The 64-byte counter block of a mirror link. -/
def mirrorCounterBytes (c : MirrorCounters) : List Byte :=
  [c.sent, c.skipped, c.accepted, c.clipped, c.rejected, c.busy, c.implicitly, c.lost, c.cleared, c.queries, c.stray,
    c.format, c.crc, c.foreign].flatMap (fun x : BitVec 32 => leBytes 4 x.toNat) ++ zeros 8

/-- The counter part of the status block: 512 bytes. -/
def Part.counterBytes (p : Part) : List Byte :=
  sensorCounterBytes p.links.f0.counters ++ sensorCounterBytes p.links.f1.counters
    ++ sensorCounterBytes p.links.f2.counters ++ sensorCounterBytes p.links.f3.counters
    ++ mirrorCounterBytes p.mlt.t0.counters ++ mirrorCounterBytes p.mlt.t1.counters ++ zeros 128

/-! ## Telemetry records (R179, section 11.9) -/

/-- A 16-bit count of a record, which saturates at 65,535 (R179). -/
def recordCount16 (n : Nat) : List Byte := leBytes 2 (min 65535 n)

/-- The 64 bytes of a record, with the MARK edges and the dropped-since count filled in at the write (R181). -/
def recordBytes (r : TelRecord) (markEdges droppedSince : Nat) : List Byte :=
  leBytes 2 r.frame.toNat ++ leBytes 1 r.kind.code ++ leBytes 1 r.loop.code
    ++ leBytes 1 (bitAt 0 r.present.f0 + bitAt 1 r.present.f1 + bitAt 2 r.present.f2 + bitAt 3 r.present.f3)
    ++ leBytes 1 (bitAt 0 r.complete.f0 + bitAt 1 r.complete.f1 + bitAt 2 r.complete.f2 + bitAt 3 r.complete.f3)
    ++ leBytes 1 (r.bank.val + bitAt 1 r.swapFrame + bitAt 2 r.updateDiscarded + bitAt 3 r.snapshot)
    ++ leBytes 1 (bitAt 0 r.sealOffset.isSome + bitAt 1 r.endOffset.isSome + bitAt 2 r.seq0.isSome
        + bitAt 3 r.seq1.isSome + bitAt 4 r.energy.isSome)
    ++ leBytes 4 r.openTime.toNat ++ leBytes 4 (r.sealOffset.getD 0).toNat ++ leBytes 4 (r.endOffset.getD 0).toNat
    ++ leBytes 2 (r.seq0.getD 0).toNat ++ leBytes 2 (r.seq1.getD 0).toNat
    ++ recordCount16 r.invalidPairs ++ recordCount16 r.slopeSat ++ recordCount16 r.substituted
    ++ recordCount16 r.resSat ++ recordCount16 r.clamps ++ recordCount16 r.neighbours
    ++ recordCount16 markEdges ++ recordCount16 droppedSince
    ++ leBytes 8 (r.energy.getD 0).toNat ++ zeros 16

/-! ## The snapshot image (R186, section 11.10) -/

/-- The image's length. -/
def imageLength : Nat := 65600

/-- The 64 bytes of the snapshot header. -/
def Sns.headerBytes (x : Sns) : List Byte :=
  leBytes 2 x.frame.toNat ++ leBytes 2 x.s ++ leBytes 2 x.a ++ leBytes 1 x.bank.val
    ++ leBytes 1 (bitAt 0 x.swapFrame + bitAt 1 x.ramp) ++ leBytes 1 x.loop.code ++ zeros 1
    ++ leBytes 2 x.headerOverwritten ++ zeros 52

/-- The byte of a number at a place of its little-endian layout. -/
def byteOf (n place : Nat) : Byte := BitVec.ofNat 8 (n / 256 ^ place)

/-- One byte of the snapshot image. -/
def Sns.imageByte (x : Sns) (i : Nat) : Byte :=
  if i < 64 then x.headerBytes.getD i 0
  else if i < 41024 then byteOf (Sparse.get 0 x.slopes ((i - 64) / 2)).toNat ((i - 64) % 2)
  else if i < 57408 then byteOf (Sparse.get 0 x.residuals ((i - 41024) / 4)).toNat ((i - 41024) % 4)
  else byteOf (Sparse.get 0 x.commands ((i - 57408) / 2)).toNat ((i - 57408) % 2)

/-- A run of bytes of the snapshot image. -/
def Sns.imageBytes (x : Sns) (first count : Nat) : List Byte :=
  (List.range count).map fun k => x.imageByte (first + k)

/-! ## Table images (section 11.8) -/

/-- The entry of a sensor's parameters. -/
def sensorEntryBytes (x : SensorParam) : List Byte :=
  leBytes 2 x.fluxFloor.toNat ++ leBytes 2 x.weight.toNat ++ [x.policy.code] ++ zeros 1 ++ leBytes 2 x.keepLimit

/-- The entry of an actuator's limits. -/
def limitsEntryBytes (x : Limits) : List Byte :=
  leBytes 2 x.lo.toNat ++ leBytes 2 x.hi.toNat ++ leBytes 2 x.flat.toNat ++ leBytes 1 (bitAt 0 x.active) ++ zeros 1

/-- The entry of a pair. -/
def pairEntryBytes (x : ActuatorPair) : List Byte := leBytes 2 x.p ++ leBytes 2 x.r ++ leBytes 2 x.d

/-- The image of the live or the shadow copy of a table as it stands (R86, R88). -/
def Part.tableImage (p : Part) (t : TableSource) (shadow : Bool) : List Byte :=
  match t with
  | .reference =>
    (List.range 20480).flatMap fun j =>
      leBytes 2 (Sparse.get (0 : BitVec 16) (if shadow then p.scn.refShadow else p.scn.refLive) j).toNat
  | .sensors =>
    let v := if shadow then p.scn.parShadow else p.scn.parLive
    sensorEntryBytes v.f0 ++ sensorEntryBytes v.f1 ++ sensorEntryBytes v.f2 ++ sensorEntryBytes v.f3
  | .limits =>
    (List.range 4096).flatMap fun a =>
      limitsEntryBytes (Sparse.get Limits.powerOn (if shadow then p.lpc.limShadow else p.lpc.limLive) a)
  | .pairs => (if shadow then p.lpc.pairShadow else p.lpc.pairLive).flatMap pairEntryBytes

/-! ## Registers as they read (R150 to R152, R196, R205, R206, R213) -/

/-- The whole register at an offset as it reads, without the effect that a read of TIME_LO has; 0 at an unused offset. -/
def Part.readRegister (p : Part) (offset : Nat) : BitVec 32 :=
  if offset = 0x00 then 0x21B8DB01
  else if offset = 0x04 then (if p.xu.exchEn then 1 else 0)
  else if offset = 0x08 then p.area.setWidth 32
  else if offset = 0x0C then (p.area >>> 32).setWidth 32
  else if offset = 0x10 then p.tlu.events.setWidth 32
  else if offset = 0x14 then p.tlu.mask.setWidth 32
  else if offset = 0x18 then low32 p.now
  else if offset = 0x1C then p.tlu.latch
  else 0

/-- The bytes that a read returns, from byte first of the register at an offset: a read of fewer than four bytes returns the bytes
addressed (R213). A read that leaves the register's four bytes is no command (DESIGN CHOICE, log entry 39). -/
def Part.readBytes (p : Part) (offset first count : Nat) : List Byte :=
  ((leBytes 4 (p.readRegister offset).toNat).drop first).take count

/-- The bytes that a read of count bytes at an address of the register region returns (R213). -/
def Part.readAt (p : Part) (addr count : Nat) : List Byte := p.readBytes (addr - addr % 4) (addr % 4) count

end Sys2Proof.Machine
end

