-- ==== Sys2Proof/Machine/Results.lean ====
section
/-! DEFINITION. Finishing an order (R163), the in-flight record (R155), and the loop state with its hold causes (R94,
R99). -/

namespace Sys2Proof.Machine

/-! ## Results of orders -/

/-- The host address of an order slot (section 11.5). -/
def Part.slotAddr (p : Part) (slot : Fin 32) : BitVec 64 := p.area + BitVec.ofNat 64 (0x1000 + 128 * slot.val)

/-- The result area and then the state are written into an order's slot (R163, R214). -/
def Part.writeResult (ref : OrderRef) (r : OrderResult) (p : Part) : Part :=
  (p.hostWrite (p.slotAddr ref.slot + 0x60) (resultBytes r (low32 p.now))).hostWrite (p.slotAddr ref.slot)
    [finishedState r]

/-- An order finishes: its result is written, and ORDER_FINISHED is raised when its notify flag is 1 (R163). The block that
held the order has let it go, which takes it out of the in-flight record. -/
def Part.finish (ref : OrderRef) (r : OrderResult) (p : Part) : Part :=
  let q := p.writeResult ref r
  if ref.notify then q.raise .orderFinished else q

/-- TAKEN is written into an order's slot (R158, R214). -/
def Part.writeTaken (slot : Fin 32) (p : Part) : Part := p.hostWrite (p.slotAddr slot) [2]

/-- The orders that the transfer lane holds, running first, then queued. -/
def Xu.bulkOrders (x : Xu) : List OrderRef :=
  (x.lane.toList.map fun r => r.bulk.order) ++ x.queue.map Bulk.order

/-- The in-flight record: every order taken and not yet finished stands at the block that holds it (R155). -/
def Part.inFlight (p : Part) : List OrderRef :=
  (p.mxs.pendingSwap.toList.map PendingSwap.order)
    ++ (p.mlt.t0.probe.toList.map Probe.order) ++ (p.mlt.t1.probe.toList.map Probe.order)
    ++ p.xu.bulkOrders

/-- The order's slot is named in the in-flight record, so that it is passed over at taking (R155). -/
def Part.slotInFlight (p : Part) (slot : Fin 32) : Bool := p.inFlight.any fun o => o.slot = slot

/-! ## The loop state -/

/-- The loop state is set; any change while an update runs clears its closed-throughout mark (R94, R110). -/
def Part.putLoop (st : LoopState) (p : Part) : Part :=
  p.modLpc fun l => { l with loop := st, update := l.update.map fun u => { u with closed := false } }

/-- A change of the loop state, which raises LOOP_STATE; a state left as it was raises nothing (R94). -/
def Part.setLoop (st : LoopState) (p : Part) : Part :=
  if p.lpc.loop = st then p else (p.putLoop st).raise .loopState

/-- The LOOP_CLOSED output: asserted while the loop state is CLOSED (R94). -/
def Part.loopClosedPin (p : Part) : Bool := p.lpc.loop = .closed

/-- The set with one cause more (R99). -/
def CauseSet.add (c : CauseSet) : HoldCause → CauseSet
  | .interlock => { c with interlock := true }
  | .mirrorLink => { c with mirrorLink := true }
  | .sensorLoss => { c with sensorLoss := true }
  | .divergence => { c with divergence := true }

/-- The LPC takes a hold cause (R99): in OPEN or CLOSED it moves the loop to HELD, in HELD it joins the set, in STOPPED it is
not recorded. -/
def Part.takeHold (c : HoldCause) (p : Part) : Part :=
  match p.lpc.loop with
  | .stopped => p
  | .held => p.modLpc fun l => { l with causes := l.causes.add c }
  | .opened | .closed =>
    (p.modLpc fun l => { l with causes := CauseSet.empty.add c, firstCause := some c }).setLoop .held

end Sys2Proof.Machine
end

