-- ==== Sys2Proof/Machine/Mirror.lean ====
section
/-! DEFINITION. The Mirror Link Transmitters (chapter 7): command frames, receipts, queries, CHECKING, BLOCKED, FAULT and
probes; and the commands MIRROR_PACKET_ARRIVAL, PACKET_TRANSMIT_END and RECEIPT_TIMER_EXPIRY. -/

namespace Sys2Proof.Machine

/-! ## Sending -/

/-- A QUERY is issued: it goes out after the packets issued before it, and counts QUERIES (R127, R147). -/
def Part.issueQuery (m : MirrorIx) (forProbe : Bool) (p : Part) : Part :=
  (p.modMirror m fun l => { l with tx := l.tx ++ [.query forProbe] }).countMirror m fun c =>
    { c with queries := c.queries + 1 }

/-- A frame is issued (R127, R128): it takes the next sequence, is appended to the outstanding list with its mark that it is
still being sent, counts SENT, and the link is RUNNING. -/
def Part.sendFrame (m : MirrorIx) (codes : List Nat) (p : Part) : Part :=
  p.modMirror m fun l =>
    { l with
      state := .running
      nextSeq := l.nextSeq + 1
      outstanding := l.outstanding ++ [⟨l.nextSeq, none⟩]
      tx := l.tx ++ [.frame l.nextSeq codes]
      counters := { l.counters with sent := l.counters.sent + 1 } }

/-- The link's receipt timer started with an expiry one receipt timeout from now (R137, R138, R141). -/
def Part.startMirrorTimer (m : MirrorIx) (p : Part) : Part :=
  p.modMirror m fun l => { l with timer := some (later p.now l.timeoutUs) }

/-- A QUERY no longer belongs to a probe (R146). -/
def TxPacket.forget : TxPacket → TxPacket
  | .frame s c => .frame s c
  | .query _ => .query false

/-- A pending probe ends with a result: the timer stops, and the QUERY, if it is still being sent, records no send time
(R146). Without a pending probe nothing happens. -/
def Part.endProbe (m : MirrorIx) (r : OrderResult) (p : Part) : Part :=
  match (p.mlt.get m).probe with
  | none => p
  | some pr =>
    (p.modMirror m fun l => { l with probe := none, timer := none, tx := l.tx.map TxPacket.forget }).finish pr.order r

/-- What became of a hand-over: the sequence number of the frame sent, or none. -/
structure HandOver where
  part : Part
  seq : Option Serial

/-- The frame is not sent, and counts SKIPPED (R129). -/
def Part.skipFrame (m : MirrorIx) (p : Part) : Part :=
  p.countMirror m fun c => { c with skipped := c.skipped + 1 }

/-- A link is about to leave IDLE for a frame: a pending probe ends ABORTED, and the timer stops (R136, R146). -/
def Part.leaveIdle (m : MirrorIx) (p : Part) : Part :=
  (p.endProbe m (.failed .aborted)).modMirror m fun l => { l with timer := none }

/-- The MLT takes a mirror's codes according to its state (R129). From IDLE a pending probe ends ABORTED first, and the timer
is then stopped until the frame's last segment has left (R136, R146). -/
def Part.handOver (m : MirrorIx) (codes : List Nat) (p : Part) : HandOver :=
  let l := p.mlt.get m
  match l.state with
  | .idle => ⟨(p.leaveIdle m).sendFrame m codes, some l.nextSeq⟩
  | .running => if l.outstanding.length < 2 then ⟨p.sendFrame m codes, some l.nextSeq⟩ else ⟨p.skipFrame m, none⟩
  | .checking | .blocked => ⟨p.skipFrame m, none⟩
  | .off | .fault => ⟨p, none⟩

/-! ## BLOCKED and FAULT -/

/-- The link enters BLOCKED (R141). -/
def Part.enterBlocked (m : MirrorIx) (p : Part) : Part :=
  (p.modMirror m fun l =>
    { l with
      state := .blocked
      blockCount := 0
      awaiting := false
      queryCount := 0
      timer := some (later p.now l.timeoutUs) }).raise .mirrorLink

/-- A packet being transmitted is cut off, and those issued behind it are not sent (R131, R143, R149; log
entry 17). -/
def Part.cutOff (m : MirrorIx) (p : Part) : Part :=
  let q := p.modMirror m fun l => { l with tx := [] }
  if (p.mlt.get m).tx = [] then q else q.issue (.cutOff m)

/-- The link enters FAULT: it sends nothing more, the timer stops, the query-awaiting mark is cleared, the outstanding list keeps
its entries, MIRROR_LINK is raised, and the LPC takes the MIRROR_LINK hold cause (R143). What becomes of the packets issued and not
yet sent is the model's choice (DESIGN CHOICE, log entry 34); the query count is cleared, as section 7.1 has it of the end of
CHECKING, though R143 does not list it (DEDUCED, log entry 35). -/
def Part.enterFault (m : MirrorIx) (p : Part) : Part :=
  (((p.cutOff m).modMirror m fun l => { l with state := .fault, timer := none, awaiting := false, queryCount := 0 }).raise
    .mirrorLink).takeHold .mirrorLink

/-- The state that a ready driver moves the link to: RUNNING while the loop is CLOSED, IDLE otherwise (R139, R142). -/
def Part.readyState (p : Part) : MirrorState := if p.lpc.loop = .closed then .running else .idle

/-! ## Receipts (R133 to R135) -/

/-- The counters after a frame is retired with a receipt's status (R133). -/
def MirrorCounters.retire (c : MirrorCounters) : ReceiptStatus → MirrorCounters
  | .accepted => { c with accepted := c.accepted + 1 }
  | .clipped => { c with clipped := c.clipped + 1 }
  | .rejected => { c with rejected := c.rejected + 1 }
  | .busy => { c with busy := c.busy + 1 }

/-- The outstanding frames older than the one with sequence X. -/
def olderThan (x : Serial) (o : List Outstanding) : List Outstanding := o.takeWhile fun e => e.seq ≠ x

/-- The outstanding frames newer than the one with sequence X. -/
def newerThan (x : Serial) (o : List Outstanding) : List Outstanding := (o.dropWhile fun e => e.seq ≠ x).tail

/-- Frame X is retired with the receipt's status, and every older outstanding frame as IMPLICIT (R133). -/
def Part.retire (m : MirrorIx) (x : Serial) (st : ReceiptStatus) (p : Part) : Part :=
  p.modMirror m fun l =>
    let c := l.counters.retire st
    { l with
      outstanding := newerThan x l.outstanding
      counters := { c with implicitly := c.implicitly + BitVec.ofNat 32 (olderThan x l.outstanding).length } }

/-- A receipt or reply that is not taken (R133, R135, R139, R143, R146). -/
def Part.countStray (m : MirrorIx) (p : Part) : Part :=
  p.countMirror m fun c => { c with stray := c.stray + 1 }

/-- The receipt timer of a RUNNING link for its oldest outstanding frame: one receipt timeout after its last segment left,
stopped while it is still being sent or nothing is outstanding (R135, R136). -/
def MirrorLink.runTimer (l : MirrorLink) : Option Time :=
  match l.outstanding with
  | [] => none
  | o :: _ => o.sent.map fun t => later t l.timeoutUs

/-- What a matching receipt does to timer and state after R134 (R135). -/
def Part.receiptAfter (m : MirrorIx) (p : Part) : Part :=
  match (p.mlt.get m).state with
  | .running => p.modMirror m fun l => { l with timer := l.runTimer }
  | .checking =>
    if (p.mlt.get m).outstanding = [] then
      p.modMirror m fun l => { l with state := .running, queryCount := 0, timer := none }
    else p
  | .off | .idle | .blocked | .fault => p

/-- The consecutive-reject count after a receipt's status (R134); it counts to 15 at most. -/
def rejectsAfter (st : ReceiptStatus) (count : Nat) : Nat :=
  match st with
  | .rejected => min 15 (count + 1)
  | .accepted | .clipped => 0
  | .busy => count

/-- The effects of a matching receipt after the retirement (R134, R135). -/
def Part.judgeReceipt (m : MirrorIx) (st : ReceiptStatus) (fault : Bool) (p : Part) : Part :=
  if fault then p.enterFault m
  else
    let q := p.modMirror m fun l => { l with rejectCount := rejectsAfter st l.rejectCount }
    if st = .rejected && (q.mlt.get m).rejectLimit ≤ (q.mlt.get m).rejectCount then q.enterFault m
    else if st = .busy then
      if (q.mlt.get m).state = .blocked then q else q.enterBlocked m
    else q.receiptAfter m

/-- A receipt that has passed the checks (R133 to R135, R143). -/
def Part.takeReceipt (m : MirrorIx) (x : Serial) (st : ReceiptStatus) (fault : Bool) (p : Part) : Part :=
  let l := p.mlt.get m
  if l.state = .fault || !(l.outstanding.any fun o => o.seq = x) then p.countStray m
  else (p.retire m x st).judgeReceipt m st fault

/-! ## Replies (R139, R142, R146) -/

/-- The frame is at or older than the driver's last accepted sequence Y (R139). -/
def atOrOlder (y x : Serial) : Bool := x = y || newer y x

/-- The outstanding list is reconciled with the last accepted sequence Y: the list is empty afterwards (R139, R142). A frame exactly
32,768 away from Y, which is neither newer nor older, counts LOST (DESIGN CHOICE, log entry 36). -/
def Part.reconcile (m : MirrorIx) (y : Serial) (p : Part) : Part :=
  p.modMirror m fun l =>
    let accepted := (l.outstanding.filter fun o => atOrOlder y o.seq).length
    let lost := (l.outstanding.filter fun o => !atOrOlder y o.seq).length
    { l with
      outstanding := []
      rejectCount := if 0 < accepted then 0 else l.rejectCount
      counters := { l.counters with
        accepted := l.counters.accepted + BitVec.ofNat 32 accepted
        lost := l.counters.lost + BitVec.ofNat 32 lost } }

/-- A REPLY in CHECKING (R139). -/
def Part.replyInChecking (m : MirrorIx) (ready fault : Bool) (y : Serial) (p : Part) : Part :=
  let q := (p.reconcile m y).modMirror m fun l => { l with queryCount := 0, timer := none }
  if fault then q.enterFault m
  else if ready then q.modMirror m fun l => { l with state := q.readyState }
  else q.enterBlocked m

/-- A REPLY in BLOCKED (R142). -/
def Part.replyInBlocked (m : MirrorIx) (ready fault : Bool) (y : Serial) (p : Part) : Part :=
  let q := (p.modMirror m fun l => { l with awaiting := false }).reconcile m y
  if fault then q.enterFault m
  else if ready then q.modMirror m fun l => { l with state := q.readyState, timer := none }
  else
    let r := q.modMirror m fun l => { l with blockCount := min 255 (l.blockCount + 1) }
    if (r.mlt.get m).blockLimit ≤ (r.mlt.get m).blockCount then r.enterFault m else r

/-- The result of a probe that a REPLY ends (R146): the round-trip time, which is open where no send time was recorded
(log entry 7), the last accepted sequence and the two flags. -/
def Part.probeResult (p : Part) (pr : Probe) (ready fault : Bool) (y : Serial) : OrderResult :=
  { OrderResult.done with
    d1 := match pr.sendTime with
      | some t => low32 (p.now - t)
      | none => Config.roundTripWithoutSendTime p.frees
    d2 := y.setWidth 32
    d3 := if ready then 1 else 0
    d4 := if fault then 1 else 0 }

/-- A REPLY that ends a pending probe on an IDLE link (R146). -/
def Part.replyToProbe (m : MirrorIx) (pr : Probe) (ready fault : Bool) (y : Serial) (p : Part) : Part :=
  let q := (if pr.sendTime.isNone then p.drawFree else p).endProbe m (p.probeResult pr ready fault y)
  if fault then q.enterFault m else q

/-- A reply that has passed the checks (R139, R142, R143, R146). -/
def Part.takeReply (m : MirrorIx) (ready fault : Bool) (y : Serial) (p : Part) : Part :=
  match (p.mlt.get m).state with
  | .checking => p.replyInChecking m ready fault y
  | .blocked => p.replyInBlocked m ready fault y
  | .idle =>
    match (p.mlt.get m).probe with
    | some pr => p.replyToProbe m pr ready fault y
    | none => p.countStray m
  | .off | .running | .fault => p.countStray m

/-! ## Arrivals (R130) -/

/-- A packet taken whole: format, CRC and mirror id are checked in order, and the first check that fails counts it (R130,
R212). -/
def Part.takeMirrorPacket (m : MirrorIx) (packet : List Byte) (p : Part) : Part :=
  match driverPacket packet with
  | none => p.countMirror m fun c => { c with format := c.format + 1 }
  | some d =>
    if !crcMatches packet then p.countMirror m fun c => { c with crc := c.crc + 1 }
    else
      match d with
      | .receipt id x st fault =>
        if id.toNat ≠ m.val then p.countMirror m fun c => { c with foreign := c.foreign + 1 }
        else p.takeReceipt m x st fault
      | .reply ready fault y => p.takeReply m ready fault y

/-- MIRROR_PACKET_ARRIVAL (R130): in OFF, or where reception began before the link left OFF, nothing is looked at. -/
def Part.mirrorPacketArrival (m : MirrorIx) (early : Bool) (packet : List Byte) (p : Part) : Part :=
  if early || (p.mlt.get m).state = .off then p else p.takeMirrorPacket m packet

/-- MIRROR_PACKET_ARRIVAL (R130). -/
def execMirrorPacketArrival (m : MirrorIx) (early : Bool) (packet : List Byte) (s : State) :
    Host.Outcome State Fault Refusal :=
  .next { s with part := s.part.mirrorPacketArrival m early packet }

/-! ## The end of a transmission (R127, R136, R145) -/

/-- The outstanding list with the time at which a frame's last segment left. -/
def markSent (seq : Serial) (t : Time) : List Outstanding → List Outstanding
  | [] => []
  | o :: rest => if o.seq = seq && o.sent.isNone then ⟨seq, some t⟩ :: rest else o :: markSent seq t rest

/-- The last segment of a frame has left: the time is recorded, and in RUNNING the receipt timer starts when the frame is the
oldest outstanding (R127, R136). -/
def Part.frameSent (m : MirrorIx) (seq : Serial) (p : Part) : Part :=
  p.modMirror m fun l =>
    { l with
      outstanding := markSent seq p.now l.outstanding
      timer := match l.state, l.outstanding with
        | .running, o :: _ => if o.seq = seq && o.sent.isNone then some (later p.now l.timeoutUs) else l.timer
        | _, _ => l.timer }

/-- The last byte of a QUERY has left: for a pending probe the send time is recorded and the timer starts (R145). -/
def Part.querySent (m : MirrorIx) (forProbe : Bool) (p : Part) : Part :=
  match (p.mlt.get m).probe with
  | some pr =>
    if forProbe then
      p.modMirror m fun l =>
        { l with probe := some { pr with sendTime := some p.now }, timer := some (later p.now l.timeoutUs) }
    else p
  | none => p

/-- Packets leave a link whole, one after the other (R127). -/
def Part.issuePackets (m : MirrorIx) (packets : List (List Byte)) (p : Part) : Part :=
  { p with issued := p.issued ++ packets.map fun d => .packet m d }

/-- PACKET_TRANSMIT_END: the packet being sent has left the link whole. Where no packet is being sent, nothing happens. -/
def Part.packetTransmitEnd (m : MirrorIx) (p : Part) : Part :=
  match (p.mlt.get m).tx with
  | [] => p
  | .frame seq codes :: rest =>
    ((p.modMirror m fun l => { l with tx := rest }).issuePackets m (commandFrame m seq codes)).frameSent m seq
  | .query forProbe :: rest =>
    ((p.modMirror m fun l => { l with tx := rest }).issue (.packet m (queryPacket m))).querySent m forProbe

/-- PACKET_TRANSMIT_END (R127). -/
def execPacketTransmitEnd (m : MirrorIx) (s : State) : Host.Outcome State Fault Refusal :=
  .next { s with part := s.part.packetTransmitEnd m }

/-! ## The receipt timer's expiry (R137, R138, R141, R146) -/

/-- The expiry in RUNNING (R137). -/
def Part.expiryInRunning (m : MirrorIx) (p : Part) : Part :=
  ((p.modMirror m fun l => { l with state := .checking, queryCount := 1 }).issueQuery m false).startMirrorTimer m

/-- The expiry in CHECKING (R138). -/
def Part.expiryInChecking (m : MirrorIx) (p : Part) : Part :=
  let l := p.mlt.get m
  if l.queryCount < l.queryLimit then
    ((p.modMirror m fun l => { l with queryCount := l.queryCount + 1 }).issueQuery m false).startMirrorTimer m
  else p.enterFault m

/-- The expiry in BLOCKED (R141). -/
def Part.expiryInBlocked (m : MirrorIx) (p : Part) : Part :=
  let q := p.modMirror m fun l => { l with blockCount := if l.awaiting then min 255 (l.blockCount + 1) else l.blockCount }
  let l := q.mlt.get m
  if l.blockLimit ≤ l.blockCount then q.enterFault m
  else ((q.modMirror m fun l => { l with awaiting := true }).issueQuery m false).startMirrorTimer m

/-- The receipt timer of a link expires (R137, R138, R141, R146). Where it is not running, nothing happens. -/
def Part.receiptTimerExpiry (m : MirrorIx) (p : Part) : Part :=
  match (p.mlt.get m).timer with
  | none => p
  | some t =>
    let q := (p.advanceTo t).modMirror m fun l => { l with timer := none }
    match (p.mlt.get m).state with
    | .running => q.expiryInRunning m
    | .checking => q.expiryInChecking m
    | .blocked => q.expiryInBlocked m
    | .idle => q.endProbe m (.failed .timeout)
    | .off | .fault => q

/-- RECEIPT_TIMER_EXPIRY (R137). -/
def execReceiptTimerExpiry (m : MirrorIx) (s : State) : Host.Outcome State Fault Refusal :=
  .next { s with part := s.part.receiptTimerExpiry m }

/-! ## Orders of the mirror links (R131, R132, R144, R145) -/

/-- The dynamic items of a link that is enabled, disabled or reset: nothing outstanding, the timer stopped, the counts 0
(R131, R144). -/
def MirrorLink.quieted (l : MirrorLink) : MirrorLink :=
  { l with outstanding := [], timer := none, queryCount := 0, awaiting := false, blockCount := 0, rejectCount := 0 }

/-- Every outstanding frame is removed and counts CLEARED, and the link is quieted (R131, R144). -/
def MirrorLink.clearedOut (l : MirrorLink) : MirrorLink :=
  { l.quieted with counters := { l.counters with
      cleared := l.counters.cleared + BitVec.ofNat 32 l.outstanding.length } }

/-- A link that is not OFF is disabled (R131). A probe that it ends has its result before SET_MIRROR's own (DESIGN CHOICE, log entry
37). -/
def Part.disableMirror (m : MirrorIx) (p : Part) : Part :=
  (((p.endProbe m (.failed .aborted)).cutOff m).modMirror m fun l => { l.clearedOut with state := .off, enable := false })

/-- An OFF link is enabled (R131). -/
def Part.enableMirror (m : MirrorIx) (p : Part) : Part :=
  p.modMirror m fun l => { l.quieted with state := .idle, enable := true }

/-- SET_MIRROR on a link, its checks passed (R131, R132). -/
def Part.applySetMirror (m : MirrorIx) (enable : Bool) (q : MirrorOrderParams) (p : Part) : Part :=
  let p := p.modMirror m fun l =>
    { l with
      timeoutUs := clampTo 50 5000 q.timeoutUs.toNat
      queryLimit := clampTo 1 7 q.queryLimit.toNat
      blockLimit := clampTo 1 255 q.blockLimit.toNat
      rejectLimit := clampTo 1 15 q.rejectLimit.toNat }
  if enable then
    if (p.mlt.get m).state = .off then p.enableMirror m else p
  else if (p.mlt.get m).state = .off then p
  else p.disableMirror m

/-- Some tuning value of SET_MIRROR was clamped (R132). -/
def setMirrorAdjusts (q : MirrorOrderParams) : Bool :=
  outside 50 5000 q.timeoutUs.toNat || outside 1 7 q.queryLimit.toNat || outside 1 255 q.blockLimit.toNat
    || outside 1 15 q.rejectLimit.toNat

/-- SET_MIRROR (R131, R132). -/
def Part.setMirror (q : MirrorOrderParams) (p : Part) : OrderResult × Part :=
  match indexOf 2 q.mirror, flagOf q.enable with
  | some m, some enable =>
    if !enable && (p.mlt.get m).state ≠ .off && p.lpc.loop = .closed && 0 < p.geo.mirror m then
      (.failed .wrongState, p)
    else (.adjustedDone (setMirrorAdjusts q), p.applySetMirror m enable q)
  | _, _ => (.failed .badParameter, p)

/-- MIRROR_RESET (R144). The packets issued behind the one being transmitted are kept too, and go out after it (DESIGN CHOICE, log
entry 34). A probe that it ends has its result before its own (DESIGN CHOICE, log entry 37). -/
def Part.mirrorReset (mirror : Byte) (p : Part) : OrderResult × Part :=
  match indexOf 2 mirror with
  | none => (.failed .badParameter, p)
  | some m =>
    if (p.mlt.get m).state = .off then (.failed .wrongState, p)
    else (.done, (p.endProbe m (.failed .aborted)).modMirror m fun l => { l.clearedOut with state := .idle })

/-- MIRROR_PROBE (R145): none for the result says that the order stays TAKEN until the probe ends. -/
def Part.mirrorProbe (mirror : Byte) (ref : OrderRef) (p : Part) : Option OrderResult × Part :=
  match indexOf 2 mirror with
  | none => (some (.failed .badParameter), p)
  | some m =>
    if (p.mlt.get m).state ≠ .idle then (some (.failed .wrongState), p)
    else if (p.mlt.get m).probe.isSome then (some (.failed .busy), p)
    else (none, (p.modMirror m fun l => { l with probe := some ⟨ref, none⟩ }).issueQuery m true)

/-- A link in FAULT that is enabled (R97, R99, R101). -/
def Part.inFault (p : Part) (m : MirrorIx) : Bool := (p.mlt.get m).enable && (p.mlt.get m).state = .fault

end Sys2Proof.Machine
end

