-- ==== Sys2Proof/Machine/Telemetry.lean ====
section
/-! DEFINITION. The telemetry ring (R177 to R184): forming a record, the record queue, writing and dropping; SET_TELEMETRY;
and the snapshot store's captures and fills (R186 to R189), with CAPTURE. -/

namespace Sys2Proof.Machine

/-! ## The ring -/

/-- A record is dropped (R182). -/
def Part.dropRecord (p : Part) : Part :=
  (p.modTel fun t => { t with dropped := t.dropped + 1, droppedSince := min 65535 (t.droppedSince + 1) }).raise
    .telemetryDrop

/-- The ring has room: the written count minus the last-read consumed count is less than the capacity (R181). -/
def Tel.hasRoom (t : Tel) : Bool := (t.written - t.consumed).toNat < t.capacity

/-- A record can be written (R181). -/
def Part.canWrite (p : Part) : Bool := p.xu.exchEn && p.tel.ringSet && p.tel.hasRoom

/-- The host address of the next record (R177, R181). -/
def Tel.nextAddr (t : Tel) : BitVec 64 := t.ringAddr + BitVec.ofNat 64 (64 * (t.written.toNat % t.capacity))

/-- A record is written: it takes the dropped-since count and the MARK edges, which become 0, and the written count rises
(R181). -/
def Part.writeRecord (r : TelRecord) (p : Part) : Part :=
  ((p.hostWrite p.tel.nextAddr (recordBytes r p.tlu.markEdges p.tel.droppedSince)).modTlu fun l =>
    { l with markEdges := 0 }).modTel fun t => { t with written := t.written + 1, droppedSince := 0 }

/-- A record at the write point (R181, R182). -/
def Part.writePoint (r : TelRecord) (p : Part) : Part :=
  if p.canWrite then p.writeRecord r else p.dropRecord

/-- The slot holds a frame older than F and is SEALED or UPDATING (R180). -/
def AsmSlot.holdsBack (x : AsmSlot) (f : Serial) : Bool :=
  (x.state = .sealed || x.state = .updating) && newer f x.frame

/-- Some slot holds the record of frame F back (R180). -/
def Part.heldBack (p : Part) (f : Serial) : Bool :=
  p.fra.slots.t0.holdsBack f || p.fra.slots.t1.holdsBack f

/-- The records at the head of the record queue go to the write point in turn, for as long as no older frame holds the head
back (R180); n bounds their number. -/
def Part.releaseRecords : Nat → Part → Part
  | 0, p => p
  | n + 1, p =>
    match p.tel.queue with
    | [] => p
    | r :: rest =>
      if p.heldBack r.frame then p
      else Part.releaseRecords n ((p.modTel fun t => { t with queue := rest }).writePoint r)

/-- A record that has been formed is judged against the slots in use (R180). -/
def Part.submitRecord (r : TelRecord) (p : Part) : Part :=
  if p.heldBack r.frame then
    if p.tel.queue.length < 4 then p.modTel fun t => { t with queue := t.queue ++ [r] }
    else p.dropRecord
  else
    let q := p.writePoint r
    Part.releaseRecords q.tel.queue.length q

/-! ## Records -/

/-- Every segment index of a sensor's frame is received (R30). -/
def wholeSensor (n : Nat) (received : List Nat) : Bool :=
  (List.range (segmentCount n)).all fun k => received.contains k

/-- The sensor is present, and every segment index of it is received (R30, R179). -/
def AsmSlot.sensorWhole (x : AsmSlot) (g : Geometry) (s : LinkIx) : Bool :=
  x.present.get s && wholeSensor (g.n.get s) (x.received.get s)

/-- What an update adds to a frame's record (R120, R179). -/
structure UpdateReport where
  discarded : Bool
  clamps : Nat
  neighbours : Nat
  seq0 : Option Serial
  seq1 : Option Serial
deriving DecidableEq, Repr

/-- The record of a slot's frame, as its fields stand at the event that forms it, before an update's share (R178, R179). g is
the geometry that the frame was collected under. -/
def Part.frameRecord (i : SlotIx) (kind : SealKind) (g : Geometry) (p : Part) : TelRecord :=
  let x := p.fra.slots.get i
  let f := p.scn.records.get i
  { frame := x.frame
    kind := kind
    loop := p.lpc.loop
    present := x.present
    complete := Four.make (x.sensorWhole g)
    bank := x.bank
    swapFrame := x.swapFrame
    updateDiscarded := false
    snapshot := false
    openTime := low32 x.openTime
    sealOffset := none
    endOffset := none
    seq0 := none
    seq1 := none
    invalidPairs := f.invalidPairs
    slopeSat := f.slopeSat
    substituted := f.substituted
    resSat := 0
    clamps := 0
    neighbours := 0
    energy := none }

/-- The record of an ABANDONED frame (R57, R178). -/
def Part.abandonedRecord (i : SlotIx) (p : Part) : TelRecord :=
  let x := p.fra.slots.get i
  { p.frameRecord i .abandoned p.geo with sealOffset := some (low32 (x.sealTime - x.openTime)), substituted := 0 }

/-- The record of a DISCARDED frame, in loop state STOPPED (R178). -/
def Part.discardedRecord (i : SlotIx) (p : Part) : TelRecord :=
  { p.frameRecord i .discarded p.geo with loop := .stopped }

/-- The record of a COMPLETE or PARTIAL frame at the end of its update (R178, R179). -/
def Part.updateRecord (i : SlotIx) (g : Geometry) (u : UpdateReport) (snapshot : Bool) (p : Part) : TelRecord :=
  let x := p.fra.slots.get i
  let e := p.rca.residual.get i
  { p.frameRecord i (x.sealKind.getD .complete) g with
    updateDiscarded := u.discarded
    snapshot := snapshot
    sealOffset := some (low32 (x.sealTime - x.openTime))
    endOffset := some (low32 (p.now - x.openTime))
    seq0 := u.seq0
    seq1 := u.seq1
    resSat := if e.valid then e.resSat else 0
    clamps := u.clamps
    neighbours := u.neighbours
    energy := if e.valid then some e.energy else none }

/-! ## SET_TELEMETRY (R177) -/

/-- The ring is placed and sized, and its counts are zeroed; the record queue keeps its records, and those that nothing holds
back are written into the new ring (R177, R180). -/
def Part.placeRing (addr : BitVec 64) (capacity : Nat) (p : Part) : Part :=
  let q := p.modTel fun t =>
    { t with
      ringSet := true
      ringAddr := addr
      capacity := capacity
      written := 0
      consumed := 0
      dropped := 0
      droppedSince := 0 }
  Part.releaseRecords q.tel.queue.length q

/-- SET_TELEMETRY, its checks in order (R177). -/
def Part.setTelemetry (ring : BitVec 64) (capacity : BitVec 32) (p : Part) : OrderResult × Part :=
  if !isPowerIn 4 16 capacity.toNat then (.failed .badParameter, p)
  else if p.lpc.loop ≠ .stopped then (.failed .wrongState, p)
  else
    match p.checkBuffer ring (64 * capacity.toNat) true with
    | .error r => (.failed r, p)
    | .ok addr => (.done, p.placeRing addr capacity.toNat)

/-! ## Snapshots (R186 to R189) -/

/-- A capture request sets the capture-pending mark (R187). -/
def Part.requestCapture (p : Part) : Part := p.modSns fun x => { x with capturePending := true }

/-- CAPTURE (R187). -/
def Part.captureOrder (p : Part) : OrderResult × Part :=
  ({ OrderResult.done with d1 := if p.sns.capturePending then 1 else 0 }, p.requestCapture)

/-- The value that a slope's status gives the snapshot (R186). -/
def SlopeStatus.snapshotValue : SlopeStatus → BitVec 16
  | .valid c => c
  | .substituted c => c
  | .missing | .invalid => 0

/-- A fill takes its contents from the updated slot and the integrator's codes, at one event (R188, R189, steps 1 to 4). -/
def Part.fillSnapshot (i : SlotIx) (g : Geometry) (ramp : Bool) (p : Part) : Part :=
  let x := p.fra.slots.get i
  let replaced := if p.sns.filled then min 65535 (p.sns.overwritten + 1) else p.sns.overwritten
  p.modSns fun n =>
    { n with
      filled := true
      frame := x.frame
      s := g.slopes
      a := g.actuators
      bank := x.bank
      swapFrame := x.swapFrame
      ramp := ramp
      loop := p.lpc.loop
      headerOverwritten := replaced
      slopes := Sparse.setAll 0 [] (List.range g.slopes) fun j =>
        (Sparse.get SlopeStatus.missing (p.scn.records.get i).status j).snapshotValue
      residuals := Sparse.setAll 0 [] (List.range g.actuators) fun a =>
        BitVec.ofInt 32 (Sparse.get 0 (p.rca.residual.get i).e a)
      commands := Sparse.setAll 0 [] (List.range g.actuators) fun a =>
        BitVec.ofNat 16 (codeOf (Sparse.get integratorPowerOn p.lpc.u a))
      overwritten := replaced
      capturePending := false
      renewed := if n.copying then true else n.renewed }

end Sys2Proof.Machine
end

