-- ==== Sys2Proof/Machine/Matrix.lean ====
section
/-! DEFINITION. The Matrix Store (chapter 5): bank records and swaps, SWAP_MATRIX and SET_STORE, and the arbiter with the
command ARBITER_GRANT. The loads and readbacks that the transfer lane runs stand in Machine/Transfer.lean. -/

namespace Sys2Proof.Machine

/-! ## Banks -/

/-- The ACTIVE bank, if one is. -/
def Mxs.activeBank (x : Mxs) : Option BankIx :=
  if x.banks.t0.state = .active then some 0
  else if x.banks.t1.state = .active then some 1
  else none

/-- The other of two. -/
def other (i : Fin 2) : Fin 2 := if i = 0 then 1 else 0

/-- A bank in ACTIVE becomes READY; any other state stays. -/
def BankRecord.retired (b : BankRecord) : BankRecord :=
  if b.state = .active then { b with state := .ready } else b

/-- A swap takes effect: the old ACTIVE bank becomes READY, the target ACTIVE, and the fresh-bank mark is set (R29, R82,
R83). -/
def Part.makeActive (target : BankIx) (p : Part) : Part :=
  ((p.modBank (other target) BankRecord.retired).modBank target fun b => { b with state := .active }).modFra fun f =>
    { f with freshBank := true }

/-- The pending swap is let go. -/
def Part.dropSwap (p : Part) : Part := p.modMxs fun x => { x with pendingSwap := none }

/-- A pending swap is cancelled, and its order finishes FAILED; the records and the fresh-bank mark stay (R84, R85). -/
def Part.cancelSwap (r : Reason) (p : Part) : Part :=
  match p.mxs.pendingSwap with
  | none => p
  | some w => p.dropSwap.finish w.order (.failed r)

/-- A pending swap takes effect at a frame open, and its order finishes DONE (R29, R83). -/
def Part.swapAtOpen (p : Part) : Part :=
  match p.mxs.pendingSwap with
  | none => p
  | some w => (p.dropSwap.makeActive w.target).finish w.order .done

/-- A bank's dimensions equal the geometry's S and A (R82, R84, R95). -/
def BankRecord.matches (b : BankRecord) (g : Geometry) : Bool := b.s = g.slopes && b.a = g.actuators

/-- SWAP_MATRIX, its conditions in order (R82): none for the result says that the order stays TAKEN. -/
def Part.swapMatrix (target : Byte) (ref : OrderRef) (p : Part) : Option OrderResult × Part :=
  match indexOf 2 target with
  | none => (some (.failed .badParameter), p)
  | some b =>
    let r := p.mxs.banks.get b
    if r.state = .active then (some .done, p)
    else if r.state ≠ .ready then (some (.failed .bankNotReady), p)
    else if !r.matches p.geo then (some (.failed .geometryMismatch), p)
    else if p.mxs.pendingSwap.isSome then (some (.failed .swapPending), p)
    else if p.lpc.loop = .stopped then (some .done, p.makeActive b)
    else (none, p.modMxs fun x => { x with pendingSwap := some ⟨b, ref⟩ })

/-- SET_STORE (R91). -/
def Part.setStore (pairMode : Byte) (p : Part) : OrderResult × Part :=
  match flagOf pairMode with
  | none => (.failed .badParameter, p)
  | some m => (.done, p.modMxs fun x => { x with pairMode := m })

/-! ## Columns and bursts (R62, R75) -/

/-- The bank of a slot's frame (R26). -/
def Part.slotBank (p : Part) (i : SlotIx) : BankIx := (p.fra.slots.get i).bank

/-- The record of a slot's bank. -/
def Part.slotRecord (p : Part) (i : SlotIx) : BankRecord := p.mxs.banks.get (p.slotBank i)

/-- The number of bursts that cover column j of A coefficients: one for each 256-byte block, of 128 coefficients, that it
touches (R62, R75). -/
def columnBursts (a j : Nat) : Nat :=
  if a = 0 then 0 else (j * a + a - 1) / 128 - j * a / 128 + 1

/-- The first coefficient position of burst k of a column. -/
def burstFirst (a j k : Nat) : Nat := max (j * a) (128 * (j * a / 128 + k))

/-- The coefficient position after the last of burst k of a column. -/
def burstEnd (a j k : Nat) : Nat := min (j * a + a) (128 * (j * a / 128 + k + 1))

/-- The size in bytes of a bank's matrix, 2·S·A (R75). -/
def BankRecord.imageBytes (b : BankRecord) : Nat := 2 * b.s * b.a

/-- The requester that a burst serves. -/
def Burst.requester : Burst → Requester
  | .stream _ _ _ _ _ _ _ => .stream
  | .loader _ _ _ => .loader
  | .reader _ _ _ => .reader

/-- A requester's outstanding bursts, granted and not yet completed (R89). -/
def Mxs.outstanding (x : Mxs) (r : Requester) : Nat := x.bursts.countP fun b => b.requester = r

/-! ## Requests (R89) -/

/-- The first stream list entry with a burst still to be granted: the columns are requested in list order (R62). -/
def Part.nextColumn (p : Part) : Option StreamEntry :=
  p.rca.stream.find? fun e => e.granted < columnBursts (p.slotRecord e.slot).a e.slope

/-- The bytes of the next block that a load has to write: a whole block, or what is left of the image (R79). -/
def Part.nextBlock (p : Part) (l : MatrixLoad) : Nat :=
  min 256 ((p.mxs.banks.get l.bank).imageBytes - l.granted)

/-- A requester has a burst to issue and fewer than 2 outstanding (R89). -/
def Part.requesting (p : Part) (r : Requester) : Bool :=
  p.mxs.outstanding r < 2 &&
    match r with
    | .stream => p.nextColumn.isSome
    | .loader =>
      match p.mxs.load with
      | some l => 0 < p.nextBlock l && p.nextBlock l ≤ l.buffer.length
      | none => false
    | .reader =>
      match p.mxs.readback with
      | some b => b.next < b.stop
      | none => false

/-- STREAM is urgent while any slot is ASSEMBLING (R89). -/
def Part.streamUrgent (p : Part) : Bool :=
  p.fra.slots.t0.state = .assembling || p.fra.slots.t1.state = .assembling

/-- A grant: its requester, and whether step 1 of R90 chose it. -/
structure Grant where
  requester : Requester
  paired : Bool
deriving DecidableEq, Repr

/-- The choice of R90: the pair, then an urgent STREAM, then the rotation order; none when no requester is requesting. -/
def Part.chooseGrant (p : Part) : Option Grant :=
  if p.mxs.pairMode && p.mxs.pairNext && p.requesting .loader then some ⟨.loader, true⟩
  else if p.requesting .stream && p.streamUrgent then some ⟨.stream, false⟩
  else (p.mxs.rotation.find? fun r => p.requesting r).map fun r => ⟨r, false⟩

/-- The rotation order after a grant: the granted requester moves to the bottom (R90). -/
def rotate (r : Requester) (order : List Requester) : List Requester := (order.filter fun x => x ≠ r) ++ [r]

/-! ## Grants -/

/-- The list with the first entry of the same slot and slope replaced by a function of it. -/
def modStream (slot : SlotIx) (slope : Nat) (g : StreamEntry → StreamEntry) : List StreamEntry → List StreamEntry
  | [] => []
  | e :: rest => if e.slot = slot && e.slope = slope then g e :: rest else e :: modStream slot slope g rest

/-- STREAM's next column burst is granted (R62). -/
def Part.grantStream (p : Part) : Part :=
  match p.nextColumn with
  | none => p
  | some e =>
    let a := (p.slotRecord e.slot).a
    let first := burstFirst a e.slope e.granted
    let b := Burst.stream e.slot e.slope e.value (p.slotBank e.slot) first (burstEnd a e.slope e.granted - first) false
    (p.modMxs fun x => { x with bursts := x.bursts ++ [b] }).modRca fun r =>
      { r with stream := modStream e.slot e.slope (fun y => { y with granted := y.granted + 1 }) r.stream }

/-- LOADER's next block is granted (R79). That it leaves the gathering buffer at the grant, so that its room is free while the burst
is outstanding, is the model's choice (DESIGN CHOICE, log entry 40). -/
def Part.grantLoader (p : Part) : Part :=
  match p.mxs.load with
  | none => p
  | some l =>
    let n := p.nextBlock l
    p.modMxs fun x =>
      { x with
        bursts := x.bursts ++ [.loader (bankBase l.bank + l.granted) (l.buffer.take n) true]
        load := some { l with granted := l.granted + n, buffer := l.buffer.drop n } }

/-- READER's next block is granted (R87). -/
def Part.grantReader (p : Part) : Part :=
  match p.mxs.readback with
  | none => p
  | some b =>
    let stop := min b.stop (256 * (b.next / 256 + 1))
    p.modMxs fun x =>
      { x with
        bursts := x.bursts ++ [.reader b.next (stop - b.next) false]
        readback := some { b with next := stop } }

/-- The granted burst enters the store. -/
def Part.grantTo (r : Requester) (p : Part) : Part :=
  match r with
  | .stream => p.grantStream
  | .loader => p.grantLoader
  | .reader => p.grantReader

/-- ARBITER_GRANT: one burst is granted, the rotation order moves, and a LOADER grant that step 1 did not choose gives rise
to a pair in pair mode (R89 to R91). With no requester requesting, nothing happens. -/
def Part.arbiterGrant (p : Part) : Part :=
  match p.chooseGrant with
  | none => p
  | some g =>
    (p.grantTo g.requester).modMxs fun x =>
      { x with
        rotation := rotate g.requester x.rotation
        pairNext := x.pairMode && g.requester = .loader && !g.paired }

/-- ARBITER_GRANT (R90). -/
def execArbiterGrant (s : State) : Host.Outcome State Fault Refusal :=
  .next { s with part := s.part.arbiterGrant }

/-- The burst that the store completes next: it carries out granted bursts in grant order (section 5.6). -/
def Mxs.dropBurst (x : Mxs) : Mxs := { x with bursts := x.bursts.tail }

end Sys2Proof.Machine
end

