-- ==== Sys2Proof/Machine/Reconstruction.lean ====
section
/-! DEFINITION. The Reconstruction Array (chapter 4): adding the products of an arriving burst, residual extraction and the
residual energy, clearing and discarding; and the command EXTRACTION_END. -/

namespace Sys2Proof.Machine

/-- The products of a column burst, added into the accumulators of a slot (R63). -/
def Part.addBurst (slot : SlotIx) (slope : Nat) (value : BitVec 16) (bank : BankIx) (first count : Nat) (p : Part) : Part :=
  let a := (p.mxs.banks.get bank).a
  p.modRca fun r =>
    { r with
      acc := r.acc.set slot
        (Sparse.setAll 0 (r.acc.get slot) ((List.range count).map fun k => first + k - slope * a) fun i =>
          accumulate (Sparse.get 0 (r.acc.get slot) i) value (p.coefficient bank (slope * a + i))) }

/-- A burst of an entry has arrived; a column whose every burst has arrived retires its entry (R63). -/
def Part.burstArrived (slot : SlotIx) (slope : Nat) (p : Part) : Part :=
  let bursts := columnBursts (p.slotRecord slot).a slope
  p.modRca fun r =>
    { r with stream := (modStream slot slope (fun e => { e with arrived := e.arrived + 1 }) r.stream).filter fun e =>
        !(e.slot = slot && e.slope = slope && bursts ≤ e.arrived) }

/-- The accumulator set of a slot set to 0 in all 4,096 accumulators (R61, R70, R71). -/
def Part.clearAccumulators (i : SlotIx) (p : Part) : Part :=
  p.modRca fun r => { r with acc := r.acc.set i [] }

/-- The residuals of a slot, extracted with its bank's scale exponent (R65, R66). -/
def Part.extract (i : SlotIx) (p : Part) : Part :=
  let e := (p.slotRecord i).e
  let acc := p.rca.acc.get i
  let actuators := List.range p.geo.actuators
  p.modRca fun r =>
    { r with
      residual := r.residual.set i
        { r.residual.get i with
          e := Sparse.setAll 0 [] actuators fun a => residualOf e (Sparse.get 0 acc a)
          resSat := actuators.countP fun a => residualSaturates e (Sparse.get 0 acc a) } }

/-- Residual extraction begins on a slot (R65). -/
def Part.beginExtraction (i : SlotIx) (p : Part) : Part :=
  (p.extract i).modRca fun r => { r with extracting := some i }

/-- The residual energy: the sum of e² over the active actuators of the live limits table (R67). -/
def Part.energyOf (i : SlotIx) (p : Part) : Nat :=
  ((List.range p.geo.actuators).map fun a =>
    if (Sparse.get Limits.powerOn p.lpc.limLive a).active then
      (Sparse.get 0 (p.rca.residual.get i).e a).natAbs ^ 2
    else 0).sum

/-- Extraction ends on a slot: the energy is formed, the residual record is valid, and the slot is SEALED with its sealing
mark cleared (R34, R67, R68). -/
def Part.endExtraction (i : SlotIx) (p : Part) : Part :=
  let energy := BitVec.ofNat 64 (p.energyOf i)
  (p.modRca fun r =>
    { r with
      residual := r.residual.set i { r.residual.get i with valid := true, energy := energy }
      extracting := none }).modSlot i fun x => { x with state := .sealed, sealing := false }

/-- EXTRACTION_END (R68). Where no extraction is in progress, nothing happens. -/
def Part.extractionEnd (p : Part) : Part :=
  match p.rca.extracting with
  | none => p
  | some i => p.endExtraction i

/-- EXTRACTION_END (R68). -/
def execExtractionEnd (s : State) : Host.Outcome State Fault Refusal :=
  .next { s with part := s.part.extractionEnd }

/-- The burst's data will not be added when it arrives (R71). -/
def Burst.dropFor (i : SlotIx) : Burst → Burst
  | .stream slot slope value bank first count dropped => .stream slot slope value bank first count (dropped || slot = i)
  | .loader offset data live => .loader offset data live
  | .reader offset count dropped => .reader offset count dropped

/-- What LOOP_STOP's discard of a slot does to the RCA (R71). -/
def Part.discardReconstruction (i : SlotIx) (p : Part) : Part :=
  (p.modRca fun r =>
    { r with
      stream := r.stream.filter fun e => e.slot ≠ i
      acc := r.acc.set i []
      residual := r.residual.set i { r.residual.get i with valid := false }
      extracting := if r.extracting = some i then none else r.extracting }).modMxs fun x =>
    { x with bursts := x.bursts.map (Burst.dropFor i) }

end Sys2Proof.Machine
end

