-- ==== Sys2Proof/Machine/Conditioning.lean ====
section
/-! DEFINITION. The Slope Conditioner (chapter 3): commits and shadow writes of the slope-side tables, the processing of a
work-queue entry, and substitution at a seal; and the commands PROCESS_ENTRY, HAND_ON_VALUE, COLUMN_BURST_ARRIVAL and
SUBSTITUTION_END. -/

namespace Sys2Proof.Machine

/-! ## Live tables and shadows (R44, R45) -/

/-- The reference shadow becomes live, and waits no longer (R44). -/
def Part.commitReference (p : Part) : Part :=
  p.modScn fun c => { c with refLive := c.refShadow, refWaiting := false }

/-- The sensor-parameter shadow becomes live, and waits no longer (R44). -/
def Part.commitParameters (p : Part) : Part :=
  p.modScn fun c => { c with parLive := c.parShadow, parWaiting := false }

/-- Each slope-side shadow that is waiting becomes live (R28, R44). -/
def Part.commitSlopeSide (p : Part) : Part :=
  let q := if p.scn.refWaiting then p.commitReference else p
  if q.scn.parWaiting then q.commitParameters else q

/-- The reference shadow is marked waiting, and commits at once while the loop is STOPPED (R44). -/
def Part.referenceWaits (p : Part) : Part :=
  let q := p.modScn fun c => { c with refWaiting := true }
  if q.lpc.loop = .stopped then q.commitReference else q

/-- The sensor-parameter shadow is marked waiting, and commits at once while the loop is STOPPED (R44). -/
def Part.parametersWait (p : Part) : Part :=
  let q := p.modScn fun c => { c with parWaiting := true }
  if q.lpc.loop = .stopped then q.commitParameters else q

/-- The sensor-parameter shadow as a write finds it: a copy of the live parameters unless it is waiting (R45). -/
def Scn.writableParameters (c : Scn) : Four SensorParam := if c.parWaiting then c.parShadow else c.parLive

/-- A sensor's conditioning values are written into the sensor-parameter shadow (R45). -/
def Part.writeParameter (i : LinkIx) (x : SensorParam) (p : Part) : Part :=
  (p.modScn fun c => { c with parShadow := c.writableParameters.set i x }).parametersWait

/-! ## The conditioner's visits (R51 to R54) -/

/-- What the conditioner's visits work on: a frame slope record, the kept slope table, and the nonzero values to hand on, in
ascending slope order. -/
structure SlopeWork where
  record : SlopeRecord
  kept : Sparse Kept
  values : List (Nat × BitVec 16)

/-- The values with one more, which is handed on only if it is not 0 (R53, R56). -/
def handing (values : List (Nat × BitVec 16)) (j : Nat) (c : BitVec 16) : List (Nat × BitVec 16) :=
  if c = 0 then values else values ++ [(j, c)]

/-- One slope of a flux-valid pair (R52). -/
def conditionOne (ref w : BitVec 16) (j : Nat) (x : BitVec 16) (work : SlopeWork) : SlopeWork :=
  let c := conditionSlope x ref w
  { work with
    record := { work.record with
      status := Sparse.set .missing work.record.status j (.valid c.value)
      slopeSat := if c.saturated then work.record.slopeSat + 1 else work.record.slopeSat }
    values := handing work.values j c.value }

/-- One record, whose x slope is slope j (R51). -/
def conditionRecord (par : SensorParam) (refs : Sparse (BitVec 16)) (j : Nat) (r : SegRecord) (work : SlopeWork) :
    SlopeWork :=
  if r.flux.toNat < par.fluxFloor.toNat then
    { work with record := { work.record with
        status := Sparse.set .missing (Sparse.set .missing work.record.status j .invalid) (j + 1) .invalid
        invalidPairs := work.record.invalidPairs + 1 } }
  else
    conditionOne (Sparse.get 0 refs (j + 1)) par.weight (j + 1) r.y
      (conditionOne (Sparse.get 0 refs j) par.weight j r.x work)

/-- One slope is visited at a seal (R54). -/
def visitSlope (par : SensorParam) (j : Nat) (work : SlopeWork) : SlopeWork :=
  let r := substituteSlope par (Sparse.get .powerOn work.kept j) (Sparse.get .missing work.record.status j)
  { record := { work.record with
      status := Sparse.set .missing work.record.status j r.status
      substituted := if r.value.isSome then work.record.substituted + 1 else work.record.substituted }
    kept := Sparse.set .powerOn work.kept j r.kept
    values := handing work.values j (r.value.getD 0) }

/-- One visit, with the live tables (R44, R51, R54). -/
def makeVisit (c : Scn) (work : SlopeWork) : Visit → SlopeWork
  | .record j i r => conditionRecord (c.parLive.get i) c.refLive j r work
  | .slope j i => visitSlope (c.parLive.get i) j work

/-- How far the visits have gone: those still to be made, and the work. -/
structure VisitRun where
  rest : List Visit
  work : SlopeWork

/-- Visits are made in order, up to the first that gives a value to hand on (R53, R56, R62; log entry 14). -/
def runVisits (c : Scn) : List Visit → SlopeWork → VisitRun
  | [], work => ⟨[], work⟩
  | v :: rest, work => if work.values = [] then runVisits c rest (makeVisit c work v) else ⟨v :: rest, work⟩

/-- The conditioner goes on with its work in progress where every value of the visit reached has been handed on (R53, R56, R57). -/
def Scn.goOn (c : Scn) : Scn :=
  match c.job with
  | none => c
  | some j =>
    if j.todo = [] then
      let r := runVisits c j.rest ⟨c.records.get j.slot, c.kept, []⟩
      { c with
        records := c.records.set j.slot r.work.record
        kept := r.work.kept
        job := some { j with rest := r.rest, todo := r.work.values } }
    else c

/-- The conditioner takes up a work, and makes its first visits. -/
def Scn.takeUp (kind : JobKind) (i : SlotIx) (visits : List Visit) (c : Scn) : Scn :=
  Scn.goOn { c with job := some ⟨kind, i, visits, []⟩ }

/-- The x slope of record t of a segment (R22). -/
def Geometry.slopeOf (g : Geometry) (seg : Segment) (t : Nat) : Nat := g.base seg.link + 2 * (64 * seg.index + t)

/-- The visits of an entry: its records, in order (R51). -/
def Geometry.entryVisits (g : Geometry) (seg : Segment) : List Visit :=
  seg.records.zipIdx.map fun x => .record (g.slopeOf seg x.2) seg.link x.1

/-- The visits of a substitution: every slope of the frame, in ascending order (R54, R55). -/
def Geometry.slopeVisits (g : Geometry) : List Visit := g.slopeList.map fun x => .slope x.1 x.2

/-! ## Substitution (R54 to R56) -/

/-- The work in progress has nothing more to visit or to hand on. -/
def Scn.spent (c : Scn) : Bool :=
  match c.job with
  | none => true
  | some j => j.rest = [] && j.todo = []

/-- Substitution takes the SCN (R54). With no value to hand on it ends at once, and extraction begins (R56, R65). -/
def Part.startSubstitution (i : SlotIx) (p : Part) : Part :=
  let q := p.modScn fun c => Scn.takeUp .substitution i p.geo.slopeVisits { c with substDue := none }
  if q.scn.spent then (q.modScn fun c => { c with job := none }).beginExtraction i else q

/-! ## The end of an entry (R53) -/

/-- No value of a slot stands in the stream list. -/
def Rca.noneOf (r : Rca) (i : SlotIx) : Bool := r.stream.all fun e => e.slot ≠ i

/-- Every visit of the job has been made, and every value of it handed on and added (R53, R56). -/
def Part.jobAdded (p : Part) (j : ScnJob) : Bool := j.rest = [] && j.todo = [] && p.rca.noneOf j.slot

/-- The entry in processing leaves the work queue, and a substitution that has waited for it begins (R53, R54). -/
def Part.leaveQueue (p : Part) : Part :=
  let q := (p.modFra fun f => { f with queue := f.queue.tail }).modScn fun c => { c with job := none }
  match q.scn.substDue with
  | none => q
  | some i => q.startSubstitution i

/-- The processing of an entry ends once its last value has been added (R53). -/
def Part.entryEnd (p : Part) : Part :=
  match p.scn.job with
  | none => p
  | some j => if j.kind = .entry && p.jobAdded j then p.leaveQueue else p

/-! ## The commands -/

/-- The SCN can take up the head of the work queue: nothing occupies it, and no substitution waits for it (R51, R54). -/
def Scn.free (c : Scn) : Bool := c.job.isNone && c.substDue.isNone

/-- PROCESS_ENTRY: the head is taken up, and its pairs are judged and its slopes conditioned up to the first record that gives a
value to hand on; where none does, its processing ends (R51 to R53; log entry 14). With no head, or an SCN that is not free,
nothing happens. -/
def Part.processEntry (p : Part) : Part :=
  match p.fra.queue with
  | [] => p
  | e :: _ => if p.scn.free then (p.modScn (Scn.takeUp .entry e.slot (p.geo.entryVisits e.seg))).entryEnd else p

/-- PROCESS_ENTRY (R51). -/
def execProcessEntry (s : State) : Host.Outcome State Fault Refusal :=
  .next { s with part := s.part.processEntry }

/-- A value enters the stream list; a column that no burst covers adds nothing and has no entry (R62, R75). -/
def Part.streamValue (i : SlotIx) (j : Nat) (c : BitVec 16) (p : Part) : Part :=
  if columnBursts (p.slotRecord i).a j = 0 then p
  else p.modRca fun r => { r with stream := r.stream ++ [⟨i, j, c, 0, 0⟩] }

/-- HAND_ON_VALUE: the next value enters the stream list, when that has room, and the conditioner goes on to the next (R53, R56,
R62). -/
def Part.handOnValue (p : Part) : Part :=
  match p.scn.job with
  | some ⟨kind, i, rest, (j, c) :: todo⟩ =>
    if p.rca.stream.length < 8 then
      ((p.modScn fun x => Scn.goOn { x with job := some ⟨kind, i, rest, todo⟩ }).streamValue i j c).entryEnd
    else p
  | some ⟨_, _, _, []⟩ => p
  | none => p

/-- HAND_ON_VALUE (R62). -/
def execHandOnValue (s : State) : Host.Outcome State Fault Refusal :=
  .next { s with part := s.part.handOnValue }

/-- COLUMN_BURST_ARRIVAL: the burst that the store completes next is a column read; its products are added, unless its slot's
data is dropped, and the entry in processing may end (R53, R63, R71). -/
def Part.columnBurstArrival (p : Part) : Part :=
  match p.mxs.bursts with
  | .stream i j c bank first count dropped :: _ =>
    let q := p.modMxs Mxs.dropBurst
    if dropped then q else ((q.addBurst i j c bank first count).burstArrived i j).entryEnd
  | .loader _ _ _ :: _ => p
  | .reader _ _ _ :: _ => p
  | [] => p

/-- COLUMN_BURST_ARRIVAL (R63). -/
def execColumnBurstArrival (s : State) : Host.Outcome State Fault Refusal :=
  .next { s with part := s.part.columnBurstArrival }

/-- SUBSTITUTION_END: the last substituted value has been added; the SCN is free, and residual extraction begins (R56, R65). -/
def Part.substitutionEnd (p : Part) : Part :=
  match p.scn.job with
  | none => p
  | some j =>
    if j.kind = .substitution && p.jobAdded j then
      (p.modScn fun c => { c with job := none }).beginExtraction j.slot
    else p

/-- SUBSTITUTION_END (R56). -/
def execSubstitutionEnd (s : State) : Host.Outcome State Fault Refusal :=
  .next { s with part := s.part.substitutionEnd }

/-! ## Discards and resets -/

/-- What LOOP_STOP's discard of a slot does to the SCN: a conditioning or substitution on it stops where it stands, and the kept
slope table keeps the writes of the visits made (R41, R57). -/
def Part.discardConditioning (i : SlotIx) (p : Part) : Part :=
  p.modScn fun c =>
    { c with
      job := c.job.filter fun j => j.slot ≠ i
      substDue := c.substDue.filter fun k => k ≠ i }

end Sys2Proof.Machine
end

