-- ==== Sys2Proof/Machine/Frames.lean ====
section
/-! DEFINITION. The Frame Assembler (chapter 2): geometry, admission, frame opens, seal causes, the seal decision and the
loss of frames; and the commands ADMIT_SEGMENT, DEADLINE_EXPIRY, SEAL_DECISION and FRAME_GAP_EXPIRY, with the orders
SET_GEOMETRY and SET_LOOP. -/

namespace Sys2Proof.Machine

/-! ## Slots -/

/-- The slot is collecting: ASSEMBLING, its sealing mark clear (section 2.2). -/
def AsmSlot.collecting (x : AsmSlot) : Bool := x.state = .assembling && !x.sealing

/-- The slot is sealing: ASSEMBLING, its sealing mark set (section 2.2). -/
def AsmSlot.inSeal (x : AsmSlot) : Bool := x.state = .assembling && x.sealing

/-- The slot is in use (section 2.2). -/
def AsmSlot.inUse (x : AsmSlot) : Bool := x.state ≠ .free

/-- The slot of an index. -/
def Part.slot (p : Part) (i : SlotIx) : AsmSlot := p.fra.slots.get i

/-- The frame of slot i is newer than that of the other slot, so that the other is the older of the two (R26). -/
def Part.isNewer (p : Part) (i : SlotIx) : Bool := newer (p.slot i).frame (p.slot (other i)).frame

/-- Every present sensor has all of its segment indices (section 2.5). -/
def Part.slotComplete (p : Part) (i : SlotIx) : Bool :=
  [0, 1, 2, 3].all fun s : LinkIx => !(p.slot i).present.get s || (p.slot i).sensorWhole p.geo s

/-! ## Seal causes (R30 to R32) -/

/-- A sealing mark is set. -/
def Part.markSealing (i : SlotIx) (p : Part) : Part := p.modSlot i fun x => { x with sealing := true }

/-- A seal cause is taken for a collecting slot: an older slot that still collects is marked first (R32). -/
def Part.sealCause (i : SlotIx) (p : Part) : Part :=
  if (p.slot (other i)).collecting && p.isNewer i then (p.markSealing (other i)).markSealing i
  else p.markSealing i

/-! ## Admission (R24 to R27) -/

/-- The order in which the links are searched after the round-robin position (R24). -/
def searchOrder (rr : LinkIx) : List LinkIx := [rr + 1, rr + 2, rr + 3, rr]

/-- A segment is discarded at admission, and counts LATE on its link (R25, R27). -/
def Part.countLate (s : LinkIx) (p : Part) : Part := p.countSensor s fun c => { c with late := c.late + 1 }

/-- A segment is discarded at admission, and counts DUPLICATE on its link (R25). -/
def Part.countDuplicate (s : LinkIx) (p : Part) : Part :=
  p.countSensor s fun c => { c with duplicate := c.duplicate + 1 }

/-- A segment is discarded at admission, and counts NO_SLOT on its link (R27). -/
def Part.countNoSlot (s : LinkIx) (p : Part) : Part := p.countSensor s fun c => { c with noSlot := c.noSlot + 1 }

/-- The segment joins a slot's received set and the tail of the work queue (R25). -/
def Part.enqueue (i : SlotIx) (seg : Segment) (p : Part) : Part :=
  (p.modSlot i fun x =>
    { x with received := x.received.set seg.link (x.received.get seg.link ++ [seg.index]) }).modFra fun f =>
      { f with queue := f.queue ++ [⟨i, seg⟩] }

/-- The completeness of a slot is judged after a segment has joined it (R25, R30). -/
def Part.judgeComplete (i : SlotIx) (p : Part) : Part := if p.slotComplete i then p.sealCause i else p

/-- A segment of a frame that a collecting slot holds (R25). -/
def Part.admitTo (i : SlotIx) (seg : Segment) (p : Part) : Part :=
  if !(p.slot i).present.get seg.link then p.countLate seg.link
  else if ((p.slot i).received.get seg.link).contains seg.index then p.countDuplicate seg.link
  else (p.enqueue i seg).judgeComplete i

/-- The collecting slot that holds a frame (R25). -/
def Part.collectingSlot (p : Part) (f : Serial) : Option SlotIx :=
  [0, 1].find? fun i : SlotIx => (p.slot i).collecting && (p.slot i).frame = f

/-- H is none, or the frame is newer than H (R26). -/
def Part.newerThanHighest (p : Part) (f : Serial) : Bool :=
  match p.fra.highest with
  | none => true
  | some h => newer f h

/-- The frame is newer than that of every slot in use (R26). -/
def Part.newerThanSlots (p : Part) (f : Serial) : Bool :=
  [0, 1].all fun i : SlotIx => !(p.slot i).inUse || newer f (p.slot i).frame

/-- The link is TRACKING (R14, R26). -/
def Part.tracking (p : Part) (s : LinkIx) : Bool := (p.links.get s).state = .tracking

/-- The FREE slot of lowest index (R26). -/
def Part.freeSlot (p : Part) : Option SlotIx := [0, 1].find? fun i : SlotIx => !(p.slot i).inUse

/-- The sensors present in a frame that opens now (R14, R26). -/
def Part.presentNow (p : Part) : Four Bool := Four.make fun s => p.tracking s && 0 < p.geo.n.get s

/-- The commits of a frame open, which an ASSEMBLING slot holds back (R28, R29). -/
def Part.openCommits (i : SlotIx) (p : Part) : Part :=
  if (p.slot (other i)).state = .assembling then p else p.commitSlopeSide.swapAtOpen

/-- The bank that an opening slot records: the ACTIVE one (R26). Bank A stands for the case that no bank is ACTIVE, in which no
slot opens (R29; log entry 25). -/
def Part.openingBank (p : Part) : BankIx := p.mxs.activeBank.getD 0

/-- The record of a slot that opens for a frame (R26, R29). -/
def Part.openedSlot (p : Part) (f : Serial) : AsmSlot :=
  { AsmSlot.cleared with
    state := .assembling
    frame := f
    openTime := p.now
    deadline := later p.now p.fra.windowUs
    bank := p.openingBank
    swapFrame := p.fra.freshBank
    present := p.presentNow }

/-- A slot opens for a frame: commits, the slot's record, H, and the resets of the slot's frame slope record, accumulators and
residual record (R26, R28, R29, R50, R61). -/
def Part.openFrame (i : SlotIx) (f : Serial) (p : Part) : Part :=
  let q := p.openCommits i
  let x := q.openedSlot f
  ((((q.modSlot i fun _ => x).modFra fun a => { a with highest := some f, freshBank := false }).modRecord i fun _ =>
    .cleared).clearAccumulators i).modRca fun r =>
      { r with residual := r.residual.set i { r.residual.get i with valid := false } }

/-- A segment for which no collecting slot exists (R26, R27). -/
def Part.admitNew (seg : Segment) (p : Part) : Part :=
  if p.newerThanHighest seg.frame && p.newerThanSlots seg.frame && p.tracking seg.link then
    match p.freeSlot with
    | some i => (p.openFrame i seg.frame).admitTo i seg
    | none => p.countNoSlot seg.link
  else p.countLate seg.link

/-- A segment taken from a link FIFO is placed or discarded (R25 to R27). -/
def Part.placeSegment (seg : Segment) (p : Part) : Part :=
  match p.collectingSlot seg.frame with
  | some i => p.admitTo i seg
  | none => p.admitNew seg

/-- The link whose head is taken next (R24). -/
def Part.nextLink (p : Part) : Option LinkIx :=
  (searchOrder p.fra.rr).find? fun i => !(p.links.get i).fifo.isEmpty

/-- The head leaves the link's FIFO, and the link becomes the round-robin position (R12, R24). -/
def Part.takeHead (i : LinkIx) (p : Part) : Part :=
  (p.modLink i fun l => { l with fifo := l.fifo.tail }).modFra fun f => { f with rr := i }

/-- ADMIT_SEGMENT (R24). With a full work queue or no FIFO head, nothing happens. -/
def Part.admitSegment (p : Part) : Part :=
  if 64 ≤ p.fra.queue.length then p
  else
    match p.nextLink with
    | none => p
    | some i =>
      match (p.links.get i).fifo with
      | [] => p
      | seg :: _ => (p.takeHead i).placeSegment seg

/-- ADMIT_SEGMENT (R24). -/
def execAdmitSegment (s : State) : Host.Outcome State Fault Refusal :=
  .next { s with part := s.part.admitSegment }

/-- DEADLINE_EXPIRY (R31): a seal cause for a collecting slot, and nothing for any other. -/
def Part.deadlineExpiry (i : SlotIx) (p : Part) : Part :=
  if (p.slot i).collecting then (p.advanceTo (p.slot i).deadline).sealCause i else p

/-- DEADLINE_EXPIRY (R31). -/
def execDeadlineExpiry (i : SlotIx) (s : State) : Host.Outcome State Fault Refusal :=
  .next { s with part := s.part.deadlineExpiry i }

/-! ## The seal decision (R33 to R37) -/

/-- The frame-gap timer starts (R38). -/
def Part.startGapTimer (p : Part) : Part :=
  p.modFra fun f => { f with gapTimer := some (later p.now (1000 * f.gapMs)) }

/-- The slot's drain has ended: it is sealing, no decision has been made, no older slot is sealing before it, and no entry
tagged with it remains in the work queue (R32, R33). -/
def Part.drained (p : Part) (i : SlotIx) : Bool :=
  (p.slot i).inSeal && (p.slot i).sealKind.isNone
    && !((p.slot (other i)).inSeal && p.isNewer i)
    && p.fra.queue.all fun e => e.slot ≠ i

/-- The slot whose seal kind is to be decided. -/
def Part.decisionSlot (p : Part) : Option SlotIx := [0, 1].find? fun i : SlotIx => p.drained i

/-- Some sensor with n_s > 0 whose policy is REQUIRE is absent, or lacks a segment (R33). -/
def Part.requiredLacking (p : Part) (i : SlotIx) : Bool :=
  [0, 1, 2, 3].any fun s : LinkIx =>
    0 < p.geo.n.get s && (p.scn.parLive.get s).policy = .require && !(p.slot i).sensorWhole p.geo s

/-- The seal kind (R33). -/
def Part.decideKind (p : Part) (i : SlotIx) : SealKind :=
  if p.requiredLacking i then .abandoned
  else if p.slotComplete i then .complete
  else .partialSeal

/-- Each present sensor that lacks a segment counts INCOMPLETE (R36). -/
def Part.countIncomplete (i : SlotIx) (p : Part) : Part :=
  let lacks (s : LinkIx) : Bool := (p.slot i).present.get s && !(p.slot i).sensorWhole p.geo s
  [0, 1, 2, 3].foldl
    (fun q (s : LinkIx) => if lacks s then q.countSensor s fun c => { c with incomplete := c.incomplete + 1 } else q) p

/-- What every decision does: the seal kind and the seal time are recorded, INCOMPLETE is counted, the frame-gap timer starts
(R33, R36, R38), and the last sealed frame is known for the status block (R162). -/
def Part.recordDecision (i : SlotIx) (kind : SealKind) (p : Part) : Part :=
  (((p.countIncomplete i).modSlot i fun x => { x with sealKind := some kind, sealTime := p.now }).modFra fun f =>
    { f with lastSealed := some ((p.slot i).frame, kind) }).startGapTimer

/-- An ABANDONED seal ends at the decision: the accumulators are cleared, the slot is FREE and its record is formed (R35, R70);
then the consecutive-abandon count rises, and at its limit SENSOR_LOSS is reported (R37). -/
def Part.abandonFrame (i : SlotIx) (p : Part) : Part :=
  let record := p.abandonedRecord i
  let q := (((p.clearAccumulators i).modSlot i fun x => { x with state := .free, sealing := false }).submitRecord
    record).modFra fun f => { f with abandons := min 255 (f.abandons + 1) }
  if q.fra.abandonLimit ≤ q.fra.abandons then q.takeHold .sensorLoss else q

/-- A COMPLETE or PARTIAL seal goes on to substitution, which waits for the end of an entry that is being processed (R34, R37,
R54). -/
def Part.continueSeal (i : SlotIx) (p : Part) : Part :=
  let q := p.modFra fun f => { f with abandons := 0 }
  if q.scn.job.isSome then q.modScn fun c => { c with substDue := some i } else q.startSubstitution i

/-- The decision on a slot (R33 to R37). -/
def Part.decideSeal (i : SlotIx) (p : Part) : Part :=
  match p.decideKind i with
  | .abandoned => (p.recordDecision i .abandoned).abandonFrame i
  | .complete => (p.recordDecision i .complete).continueSeal i
  | .partialSeal => (p.recordDecision i .partialSeal).continueSeal i
  | .discarded => p

/-- SEAL_DECISION (R33). Where no slot's drain has ended, nothing happens. -/
def Part.sealDecision (p : Part) : Part :=
  match p.decisionSlot with
  | none => p
  | some i => p.decideSeal i

/-- SEAL_DECISION (R33). -/
def execSealDecision (s : State) : Host.Outcome State Fault Refusal :=
  .next { s with part := s.part.sealDecision }

/-! ## The frame-gap timer (R38) -/

/-- FRAME_GAP_EXPIRY: the timer stops, and SENSOR_LOSS is reported (R38). Where it is not running, nothing happens. -/
def Part.frameGapExpiry (p : Part) : Part :=
  match p.fra.gapTimer with
  | none => p
  | some t => ((p.advanceTo t).modFra fun f => { f with gapTimer := none }).takeHold .sensorLoss

/-- FRAME_GAP_EXPIRY (R38). -/
def execFrameGapExpiry (s : State) : Host.Outcome State Fault Refusal :=
  .next { s with part := s.part.frameGapExpiry }

/-! ## Discards (R41, R57, R71) -/

/-- A slot is discarded by LOOP_STOP: its entries leave the work queue, its conditioning, its seal and its reconstruction stop,
it is FREE, and its record is formed (R41). -/
def Part.discardSlot (i : SlotIx) (p : Part) : Part :=
  let record := p.discardedRecord i
  ((((p.modFra fun f => { f with queue := f.queue.filter fun e => e.slot ≠ i }).discardConditioning
    i).discardReconstruction i).modSlot i fun x => { x with state := .free, sealing := false }).submitRecord record

/-- The slot is ASSEMBLING or SEALED (R41). -/
def AsmSlot.discardable (x : AsmSlot) : Bool := x.state = .assembling || x.state = .sealed

/-- A slot is discarded where it is ASSEMBLING or SEALED. -/
def Part.discardIfHeld (i : SlotIx) (p : Part) : Part := if (p.slot i).discardable then p.discardSlot i else p

/-- The slots in frame order: the older first (R41). -/
def Part.frameOrder (p : Part) : List SlotIx := if p.isNewer 0 then [1, 0] else [0, 1]

/-- Every ASSEMBLING and every SEALED slot is discarded, in frame order (R41). -/
def Part.discardAll (p : Part) : Part := p.frameOrder.foldl (fun q i => q.discardIfHeld i) p

/-! ## SET_GEOMETRY (R21, R84) -/

/-- A subaperture or actuator count, or their sum, lies outside its range (R21). -/
def badGeometry (g : GeometryParams) : Bool :=
  2560 < g.n.f0.toNat || 2560 < g.n.f1.toNat || 2560 < g.n.f2.toNat || 2560 < g.n.f3.toNat
    || 4096 < g.a0.toNat || 4096 < g.a1.toNat
    || g.a0.toNat + g.a1.toNat < 1 || 4096 < g.a0.toNat + g.a1.toNat

/-- The geometry that the order carries. -/
def newGeometry (g : GeometryParams) : Geometry :=
  { n := g.n.map BitVec.toNat
    a0 := g.a0.toNat
    a1 := g.a1.toNat
    isSet := true }

/-- A pending swap whose target no longer matches the geometry is cancelled (R84). -/
def Part.judgeSwap (p : Part) : Part :=
  match p.mxs.pendingSwap with
  | none => p
  | some w => if (p.mxs.banks.get w.target).matches p.geo then p else p.cancelSwap .geometryMismatch

/-- SET_GEOMETRY (R21, R84). The result of a swap that it cancels is written before its own (DESIGN CHOICE, log entry 37). -/
def Part.setGeometry (g : GeometryParams) (p : Part) : OrderResult × Part :=
  if p.lpc.loop ≠ .stopped then (.failed .wrongState, p)
  else if badGeometry g then (.failed .badParameter, p)
  else (.done, (p.modGeo fun _ => newGeometry g).judgeSwap)

/-! ## SET_LOOP (R39, R124) -/

/-- SET_LOOP's values as they are stored (R39, R124). -/
def Part.applySetLoop (q : LoopOrderParams) (p : Part) : Part :=
  (p.modFra fun f =>
    { f with
      windowUs := clampTo 20 20000 q.windowUs.toNat
      abandonLimit := clampTo 1 255 q.abandonLimit.toNat
      gapMs := clampTo 1 1000 q.gapMs.toNat }).modLpc fun l =>
    { l with
      threshold := q.threshold
      divLimit := clampTo 1 255 q.divergenceLimit.toNat }

/-- SET_LOOP (R39, R124). -/
def Part.setLoopOrder (q : LoopOrderParams) (p : Part) : OrderResult × Part :=
  (.adjustedDone (outside 20 20000 q.windowUs.toNat || outside 1 255 q.abandonLimit.toNat
      || outside 1 1000 q.gapMs.toNat || outside 1 255 q.divergenceLimit.toNat),
    p.applySetLoop q)

end Sys2Proof.Machine
end

