-- ==== Sys2Proof/Machine/SensorLinks.lean ====
section
/-! DEFINITION. The Sensor Link Receivers (chapter 1): the checks, the link states, delivery and flushes; and the commands
SEGMENT_ARRIVAL and QUIET_TIMER_EXPIRY, with the order SET_SENSOR. -/

namespace Sys2Proof.Machine

/-! ## The checks (R2 to R5) -/

/-- The format check fails (R2, R211): kind SLOPES is 0x51, the header is 8 bytes. -/
def malformed (packet : List Byte) : Bool :=
  let h := segHeader packet
  packet.length < 8 || h.kind ≠ 0x51 || h.count < 1 || 40 < h.count || 39 < h.index || h.records < 1 || 64 < h.records
    || packet.length ≠ 8 + 6 * h.records + 2

/-- The geometry check fails, for a sensor of n subapertures (R5). -/
def misplaced (n : Nat) (h : SegHeader) : Bool :=
  h.count ≠ segmentCount n || h.count ≤ h.index || h.records ≠ recordCount n h.index

/-- What the four checks find (R2 to R5). -/
inductive Verdict where
  | format
  | crc
  | foreign
  | geometry
  | valid
deriving DecidableEq, Repr

/-- The four checks in their order: the first that fails decides (R1). -/
def checkSegment (expectedId n : Nat) (packet : List Byte) : Verdict :=
  let h := segHeader packet
  if malformed packet then .format
  else if !crcMatches packet then .crc
  else if h.sensorId.toNat ≠ expectedId then .foreign
  else if misplaced n h then .geometry
  else .valid

/-- The segment as the FIFO holds it (section 1.1). -/
def segmentOf (i : LinkIx) (packet : List Byte) : Segment :=
  let h := segHeader packet
  ⟨i, h.frame, h.index, segRecords packet⟩

/-! ## Link states (R6 to R9) -/

/-- The quiet timer starts, or starts again (R6 to R9, R18). -/
def Part.startQuietTimer (i : LinkIx) (p : Part) : Part :=
  p.modLink i fun l => { l with quietTimer := some (later p.now (1000 * l.quietMs)) }

/-- The segment counts UNTRACKED, and is not delivered (R7, R8). -/
def Part.countUntracked (i : LinkIx) (p : Part) : Part :=
  p.countSensor i fun c => { c with untracked := c.untracked + 1 }

/-- The link state changes, which raises SENSOR_LINK (R15). -/
def Part.moveLink (i : LinkIx) (st : LinkState) (p : Part) : Part :=
  (p.modLink i fun l => { l with state := st }).raise .sensorLink

/-- A segment that is to be delivered: STOPPED, OVERRUN, or appended to the FIFO (R11). -/
def Part.deliver (seg : Segment) (p : Part) : Part :=
  if p.lpc.loop = .stopped then p.countSensor seg.link fun c => { c with stopped := c.stopped + 1 }
  else if 16 ≤ (p.links.get seg.link).fifo.length then
    p.countSensor seg.link fun c => { c with overrun := c.overrun + 1 }
  else
    (p.modLink seg.link fun l => { l with fifo := l.fifo ++ [seg] }).countSensor seg.link fun c =>
      { c with delivered := c.delivered + 1 }

/-- A valid segment: VALID, L and the quiet timer, then the link state (R6 to R8). -/
def Part.takeValid (seg : Segment) (p : Part) : Part :=
  let i := seg.link
  let l := p.links.get i
  let q := ((p.countSensor i fun c => { c with valid := c.valid + 1 }).modLink i fun x =>
    { x with lastFrame := some seg.frame }).startQuietTimer i
  match l.state with
  | .tracking => q.deliver seg
  | .acquiring => if l.lastFrame = some (seg.frame - 1) then (q.moveLink i .tracking).deliver seg else q.countUntracked i
  | .quiet => (q.moveLink i .acquiring).countUntracked i
  | .off => p

/-- An arrival on a link that is not OFF (R1 to R5, R10). -/
def Part.takePacket (i : LinkIx) (packet : List Byte) (p : Part) : Part :=
  match checkSegment (p.links.get i).expectedId (p.geo.n.get i) packet with
  | .format => p.countSensor i fun c => { c with format := c.format + 1 }
  | .crc => p.countSensor i fun c => { c with crc := c.crc + 1 }
  | .foreign => p.countSensor i fun c => { c with foreign := c.foreign + 1 }
  | .geometry => p.countSensor i fun c => { c with geometry := c.geometry + 1 }
  | .valid => p.takeValid (segmentOf i packet)

/-- SEGMENT_ARRIVAL: in OFF, or where the reception began too early, nothing is looked at (R1). -/
def Part.segmentArrival (i : LinkIx) (early : Bool) (packet : List Byte) (p : Part) : Part :=
  if early || (p.links.get i).state = .off then p else p.takePacket i packet

/-- SEGMENT_ARRIVAL (R1). -/
def execSegmentArrival (i : LinkIx) (early : Bool) (packet : List Byte) (s : State) :
    Host.Outcome State Fault Refusal :=
  .next { s with part := s.part.segmentArrival i early packet }

/-- What the expiry does in the link's state, its timer stopped (R9). -/
def Part.quietExpired (i : LinkIx) (p : Part) : Part :=
  match (p.links.get i).state with
  | .tracking => p.moveLink i .quiet
  | .acquiring => p.modLink i fun l => { l with lastFrame := none }
  | .off | .quiet => p

/-- QUIET_TIMER_EXPIRY (R9). Where the timer is not running, nothing happens. -/
def Part.quietTimerExpiry (i : LinkIx) (p : Part) : Part :=
  match (p.links.get i).quietTimer with
  | none => p
  | some t => ((p.advanceTo t).modLink i fun l => { l with quietTimer := none }).quietExpired i

/-- QUIET_TIMER_EXPIRY (R9). -/
def execQuietTimerExpiry (i : LinkIx) (s : State) : Host.Outcome State Fault Refusal :=
  .next { s with part := s.part.quietTimerExpiry i }

/-! ## Flushes (R13) -/

/-- LOOP_STOP flushes a link's FIFO: its segments are removed and count STOPPED (R13). -/
def SensorLink.flushed (l : SensorLink) : SensorLink :=
  { l with
    fifo := []
    counters := { l.counters with stopped := l.counters.stopped + BitVec.ofNat 32 l.fifo.length } }

/-! ## SET_SENSOR (R16 to R18, R45) -/

/-- Link admission starts anew, with nothing of what came before (R16, R17). -/
def SensorLink.restarted (l : SensorLink) (st : LinkState) : SensorLink :=
  { l with state := st, lastFrame := none, quietTimer := none, fifo := [] }

/-- The link state is set anew, which raises SENSOR_LINK where it changes (R15). -/
def Part.restartLink (i : LinkIx) (st : LinkState) (p : Part) : Part :=
  let q := p.modLink i fun l => l.restarted st
  if (p.links.get i).state = st then q else q.raise .sensorLink

/-- The link settings of SET_SENSOR (R16 to R18). -/
def Part.applyLinkSettings (i : LinkIx) (enable : Bool) (id quietMs : Nat) (p : Part) : Part :=
  let l := p.links.get i
  let q := p.modLink i fun x => { x with enable := enable, expectedId := id, quietMs := quietMs }
  if !enable then (if l.state = .off then q else q.restartLink i .off)
  else if l.state = .off then q.restartLink i .acquiring
  else if l.expectedId ≠ id then q.restartLink i .acquiring
  else q

/-- SET_SENSOR (R16, R45). -/
def Part.setSensor (q : SensorOrderParams) (p : Part) : OrderResult × Part :=
  match indexOf 4 q.link, flagOf q.enable, policyOf q.policy with
  | some i, some enable, some policy =>
    if 15 < q.expectedId.toNat then (.failed .badParameter, p)
    else
      (.adjustedDone (outside 1 255 q.quietMs.toNat || outside 1 255 q.keepLimit.toNat),
        (p.applyLinkSettings i enable q.expectedId.toNat (clampTo 1 255 q.quietMs.toNat)).writeParameter i
          ⟨q.fluxFloor, q.weight, policy, clampTo 1 255 q.keepLimit.toNat⟩)
  | _, _, _ => (.failed .badParameter, p)

end Sys2Proof.Machine
end

