-- ==== Sys2Proof/Machine/Loop.lean ====
section
/-! DEFINITION. The Loop Controller (chapter 6): commits of the actuator-side tables, the update and its send point, shaping
and hand-over, and the loop orders; with the commands UPDATE_BEGIN and SEND_POINT. -/

namespace Sys2Proof.Machine

/-! ## Actuator-side commits (R105) -/

/-- The integrator with every actuator brought within a limits table (R105). An actuator that neither table lists keeps its
power-on value, which lies within its power-on limits. -/
def bringAll (limits : Sparse Limits) (u : Sparse Nat) : Sparse Nat :=
  Sparse.setAll integratorPowerOn u (limits.map Prod.fst ++ u.map Prod.fst) fun a =>
    bringWithin (Sparse.get Limits.powerOn limits a) (Sparse.get integratorPowerOn u a)

/-- The limits shadow becomes live, and the integrator is brought within it (R105). -/
def Part.commitLimits (p : Part) : Part :=
  p.modLpc fun l => { l with limLive := l.limShadow, limWaiting := false, u := bringAll l.limShadow l.u }

/-- The pair shadow becomes live (R105). -/
def Part.commitPairs (p : Part) : Part :=
  p.modLpc fun l => { l with pairLive := l.pairShadow, pairWaiting := false }

/-- The gains shadow becomes live (R105). -/
def Part.commitGains (p : Part) : Part :=
  p.modLpc fun l => { l with gainLive := l.gainShadow, gainWaiting := false }

/-- The limits shadow is marked waiting, and commits at once while the loop is STOPPED (R105, R106). -/
def Part.limitsWait (p : Part) : Part :=
  let q := p.modLpc fun l => { l with limWaiting := true }
  if q.lpc.loop = .stopped then q.commitLimits else q

/-- The pair shadow is marked waiting, and commits at once while the loop is STOPPED (R105, R107). -/
def Part.pairsWait (p : Part) : Part :=
  let q := p.modLpc fun l => { l with pairWaiting := true }
  if q.lpc.loop = .stopped then q.commitPairs else q

/-- The gains shadow is marked waiting, and commits at once while the loop is STOPPED (R105, R108). -/
def Part.gainsWait (p : Part) : Part :=
  let q := p.modLpc fun l => { l with gainWaiting := true }
  if q.lpc.loop = .stopped then q.commitGains else q

/-- Every waiting actuator-side shadow commits (R111). -/
def Part.commitActuatorSide (p : Part) : Part :=
  let q := if p.lpc.limWaiting then p.commitLimits else p
  let r := if q.lpc.pairWaiting then q.commitPairs else q
  if r.lpc.gainWaiting then r.commitGains else r

/-- The active actuators a < A that the waiting limits shadow, at its commit, clamps (R105, R111). -/
def Part.commitClamps (p : Part) : Nat :=
  if p.lpc.limWaiting then
    (List.range p.geo.actuators).countP fun a =>
      let l := Sparse.get Limits.powerOn p.lpc.limShadow a
      let u := Sparse.get integratorPowerOn p.lpc.u a
      l.active && clampTo l.loFine l.hiFine u ≠ u
  else 0

/-! ## The update (R110 to R117) -/

/-- The SEALED slot that an update takes: the older of two (R110). -/
def Part.sealedSlot (p : Part) : Option SlotIx := p.frameOrder.find? fun i => (p.slot i).state = .sealed

/-- The residual energy of a slot. -/
def Part.energy (p : Part) (i : SlotIx) : Nat := (p.rca.residual.get i).energy.toNat

/-- The guard finds the frame's energy above a threshold that is on (R112). -/
def Part.aboveThreshold (p : Part) (i : SlotIx) : Bool :=
  0 < p.lpc.threshold.toNat && p.lpc.threshold.toNat < p.energy i

/-- The divergence count after the guard (R112). -/
def Part.guardCount (p : Part) (i : SlotIx) : Nat :=
  if p.aboveThreshold i then min 255 (p.lpc.divCount + 1) else 0

/-- The guard takes the DIVERGENCE hold cause (R112). -/
def Part.diverges (p : Part) (i : SlotIx) : Bool := p.aboveThreshold i && p.lpc.divLimit ≤ p.guardCount i

/-- The effective gain of a mirror at a ramp counter (R114). -/
def Lpc.gainOf (l : Lpc) (m : MirrorIx) (k : Nat) : Nat := effectiveGain (l.gainLive.get m).gain k l.rampLength

/-- The unclamped new value of an actuator is integrated from these: its limits, its value, its residual, leak and gain (R113). -/
def Part.newValue (p : Part) (i : SlotIx) (k a : Nat) : Nat :=
  let m := p.geo.mirrorOf a
  integrate (Sparse.get Limits.powerOn p.lpc.limLive a) (Sparse.get integratorPowerOn p.lpc.u a)
    (Sparse.get 0 (p.rca.residual.get i).e a) (p.lpc.gainLive.get m).leak (p.lpc.gainOf m k)

/-- Step 4 of R113 clamps the actuator. -/
def Part.newValueClamps (p : Part) (i : SlotIx) (k a : Nat) : Bool :=
  let m := p.geo.mirrorOf a
  integrateClamps (Sparse.get Limits.powerOn p.lpc.limLive a) (Sparse.get integratorPowerOn p.lpc.u a)
    (Sparse.get 0 (p.rca.residual.get i).e a) (p.lpc.gainLive.get m).leak (p.lpc.gainOf m k)

/-- Shaping with the live tables (R115 to R117). -/
def Part.shape (p : Part) (w : List Nat) : Shaped := shapeVector p.lpc.limLive p.lpc.pairLive w

/-- The ramp counter of the next integrator update (R114). -/
def Lpc.nextRamp (l : Lpc) : Nat := min 1024 (l.rampCount + 1)

/-- The update that integrates and shapes a slot's residuals; clamps counts the commit's (R113 to R117). -/
def Part.formUpdate (p : Part) (i : SlotIx) (clamps : Nat) : Update :=
  let k := p.lpc.nextRamp
  let actuators := List.range p.geo.actuators
  let shaped := p.shape (actuators.map (p.newValue i k))
  { slot := i
    closed := true
    geo := p.geo
    shaped := shaped.vector
    codes := shaped.codes
    clamps := clamps + actuators.countP (p.newValueClamps i k) + shaped.clamps
    neighbours := shaped.neighbours
    ramp := 0 < p.lpc.rampLength && k < p.lpc.rampLength }

/-! ## The end of an update (R120) -/

/-- An update ends: the snapshot store fills where a capture is pending, the record is formed, the slot is FREE, the record goes
to the write point, and a fill raises SNAPSHOT_HELD (R120, R178, R188, R189). -/
def Part.endUpdate (i : SlotIx) (g : Geometry) (u : UpdateReport) (ramp : Bool) (p : Part) : Part :=
  let capture := p.sns.capturePending
  let q := if capture then p.fillSnapshot i g ramp else p
  let record := q.updateRecord i g u capture
  let r := ((q.modSlot i fun x => { x with state := .free }).modLpc fun l => { l with update := none }).submitRecord record
  if capture then r.raise .snapshotHeld else r

/-- The report of an update that sent nothing. -/
def UpdateReport.silent (discarded : Bool) (clamps neighbours : Nat) : UpdateReport :=
  ⟨discarded, clamps, neighbours, none, none⟩

/-- A report-only update, which ends as soon as it has begun (R110, R120). -/
def Part.reportOnly (i : SlotIx) (p : Part) : Part := p.endUpdate i p.geo (.silent false 0 0) false

/-- A full update from its commit to the end of shaping; where the guard holds the loop, it ends as a report-only update that is
marked discarded (R111 to R117). -/
def Part.fullUpdate (i : SlotIx) (p : Part) : Part :=
  let clamps := p.commitClamps
  let q := p.commitActuatorSide
  let r := q.modLpc fun l => { l with divCount := q.guardCount i }
  if q.diverges i then (r.takeHold .divergence).endUpdate i p.geo (.silent true clamps 0) false
  else
    let u := r.formUpdate i clamps
    r.modLpc fun l => { l with rampCount := l.nextRamp, update := some u }

/-- An update begins on a slot (R110). -/
def Part.beginUpdate (i : SlotIx) (p : Part) : Part :=
  let q := p.modSlot i fun x => { x with state := .updating }
  if p.lpc.loop = .closed then q.fullUpdate i else q.reportOnly i

/-- UPDATE_BEGIN (R110). While an update runs, in STOPPED, or with no slot SEALED, nothing happens. -/
def Part.updateBegin (p : Part) : Part :=
  if p.lpc.update.isSome || p.lpc.loop = .stopped then p
  else
    match p.sealedSlot with
    | none => p
    | some i => p.beginUpdate i

/-- UPDATE_BEGIN (R110). -/
def execUpdateBegin (s : State) : Host.Outcome State Fault Refusal :=
  .next { s with part := s.part.updateBegin }

/-! ## Replacing the integrator, and hand-over (R118, R119) -/

/-- A vector replaces u_0 to u_(A−1) (R118, R121, R123). -/
def Part.putVector (v : List Nat) (p : Part) : Part :=
  p.modLpc fun l => { l with u := Sparse.setAll integratorPowerOn l.u (List.range v.length) fun a => v.getD a 0 }

/-- The codes of a mirror (R119). -/
def Geometry.codesFor (g : Geometry) (m : MirrorIx) (codes : List Nat) : List Nat :=
  match m with
  | 0 => codes.take g.a0
  | 1 => codes.drop g.a0

/-- A mirror's codes are handed to its MLT; a mirror with A_m = 0 receives nothing (R119). -/
def Part.handTo (g : Geometry) (m : MirrorIx) (codes : List Nat) (p : Part) : HandOver :=
  if g.mirror m = 0 then ⟨p, none⟩ else p.handOver m (g.codesFor m codes)

/-- The link takes the codes of FLATTEN and APPLY_SHAPE: enabled, and in IDLE or RUNNING (R119). -/
def MirrorLink.takesShape (l : MirrorLink) : Bool := l.enable && (l.state = .idle || l.state = .running)

/-- FLATTEN or APPLY_SHAPE hands a mirror its codes: nonempty, and to a link that takes them (R119). -/
def Part.shapeGoes (p : Part) (m : MirrorIx) : Bool := 0 < p.geo.mirror m && (p.mlt.get m).takesShape

/-- The codes of FLATTEN and APPLY_SHAPE are handed over (R119), mirror 0 first (DESIGN CHOICE, log entry 37). -/
def Part.handShape (codes : List Nat) (p : Part) : Part :=
  let q := if p.shapeGoes 0 then (p.handOver 0 (p.geo.codesFor 0 codes)).part else p
  if p.shapeGoes 1 then (q.handOver 1 (p.geo.codesFor 1 codes)).part else q

/-- How many mirrors are handed codes (R121; DEDUCED, log entry 21). -/
def Part.framesHanded (p : Part) : Nat := (if p.shapeGoes 0 then 1 else 0) + (if p.shapeGoes 1 then 1 else 0)

/-- The send point of an update that stayed closed throughout: the integrator is replaced, the codes go to both mirrors, and the
update ends (R118 to R120). -/
def Part.sendVector (u : Update) (p : Part) : Part :=
  let h0 := (p.putVector u.shaped).handTo u.geo 0 u.codes
  let h1 := h0.part.handTo u.geo 1 u.codes
  h1.part.endUpdate u.slot u.geo ⟨false, u.clamps, u.neighbours, h0.seq, h1.seq⟩ u.ramp

/-- SEND_POINT (R118). Where no update is running, nothing happens. -/
def Part.sendPoint (p : Part) : Part :=
  match p.lpc.update with
  | none => p
  | some u =>
    if u.closed then p.sendVector u
    else p.endUpdate u.slot u.geo (.silent true u.clamps u.neighbours) u.ramp

/-- SEND_POINT (R118). -/
def execSendPoint (s : State) : Host.Outcome State Fault Refusal :=
  .next { s with part := s.part.sendPoint }

/-! ## FLATTEN and APPLY_SHAPE (R121, R123) -/

/-- A working vector is shaped, the shaped vector replaces the integrator's first values, and the codes are handed over. -/
def Part.driveShape (w : List Nat) (p : Part) : Part :=
  let s := p.shape w
  (p.putVector s.vector).handShape s.codes

/-- The result's counts of a shape that was driven (R121, R123). -/
def Part.shapeResult (p : Part) (w : List Nat) : OrderResult :=
  let s := p.shape w
  { OrderResult.done with d1 := BitVec.ofNat 32 s.clamps, d2 := BitVec.ofNat 32 s.neighbours }

/-- The flat values in fine units of actuators 0 to A − 1 (R121). -/
def Part.flatVector (p : Part) : List Nat :=
  (List.range p.geo.actuators).map fun a => (Sparse.get Limits.powerOn p.lpc.limLive a).flatFine

/-- Every u_a becomes 256·b_a from the live limits table (R121, R126). -/
def Lpc.flattened (l : Lpc) : Lpc := { l with u := Sparse.mapTo integratorPowerOn Limits.flatFine l.limLive }

/-- FLATTEN (R121). -/
def Part.flattenOrder (p : Part) : OrderResult × Part :=
  if p.lpc.loop = .closed || p.lpc.loop = .held then (.failed .wrongState, p)
  else if p.tlu.interlock.level then (.failed .interlock, p)
  else
    ({ p.shapeResult p.flatVector with d3 := BitVec.ofNat 32 p.framesHanded },
      (p.modLpc Lpc.flattened).driveShape p.flatVector)

/-- The working vector of an APPLY_SHAPE (R123). -/
def Part.shapeVectorOf (p : Part) (codes : List (BitVec 16)) : List Nat :=
  codes.zipIdx.map fun x =>
    let l := Sparse.get Limits.powerOn p.lpc.limLive x.2
    if l.active then 256 * x.1.toNat else l.flatFine

/-- The judgement of an APPLY_SHAPE when its last byte has been read (R123). -/
def Part.judgeShape (codes : List (BitVec 16)) (p : Part) : OrderResult × Part :=
  if p.lpc.loop ≠ .opened then (.failed .wrongState, p)
  else if codes.length ≠ p.geo.actuators then (.failed .geometryMismatch, p)
  else (p.shapeResult (p.shapeVectorOf codes), p.driveShape (p.shapeVectorOf codes))

/-! ## The loop orders (R95 to R98, R101) -/

/-- What LOOP_OPEN, LOOP_CLOSE and RESUME do to the FRA: the abandon count is 0 and the frame-gap timer starts (R40). -/
def Part.restartAssembly (p : Part) : Part := (p.modFra fun f => { f with abandons := 0 }).startGapTimer

/-- The loop becomes OPEN by LOOP_OPEN (R40, R95, R96). -/
def Part.openLoop (p : Part) : Part :=
  (((p.modFra fun f => { f with highest := none }).restartAssembly).modLpc fun l => { l with divCount := 0 }).setLoop
    .opened

/-- Some sensor link is not OFF and has n_s > 0 (R95). -/
def Part.someSensor (p : Part) : Bool :=
  [0, 1, 2, 3].any fun s : LinkIx => (p.links.get s).state ≠ .off && 0 < p.geo.n.get s

/-- The checks of LOOP_OPEN in STOPPED, in their order: the result of the first that fails (R95). -/
def Part.openRefusal (p : Part) : Option OrderResult :=
  if !p.geo.isSet then some (.failedWith .geometryMismatch 1)
  else
    match p.mxs.activeBank with
    | none => some (.failedWith .geometryMismatch 2)
    | some b =>
      if !(p.mxs.banks.get b).matches p.geo then some (.failedWith .geometryMismatch 3)
      else if !p.someSensor then some (.failedWith .geometryMismatch 4)
      else if p.tlu.interlock.level then some (.failed .interlock)
      else none

/-- LOOP_OPEN (R95, R96). -/
def Part.loopOpenOrder (p : Part) : OrderResult × Part :=
  match p.lpc.loop with
  | .opened | .held => (.failed .wrongState, p)
  | .closed => (.done, p.openLoop)
  | .stopped =>
    match p.openRefusal with
    | some r => (r, p)
    | none => (.done, p.openLoop)

/-- The checks of LOOP_CLOSE in OPEN, in their order: the result of the first that fails (R97). -/
def Part.closeRefusal (p : Part) : Option OrderResult :=
  if 0 < p.geo.a0 && !p.mlt.t0.enable then some (.failedWith .wrongState 1)
  else if 0 < p.geo.a1 && !p.mlt.t1.enable then some (.failedWith .wrongState 2)
  else if p.inFault 0 then some (.failedWith .wrongState 1)
  else if p.inFault 1 then some (.failedWith .wrongState 2)
  else if p.tlu.interlock.level then some (.failed .interlock)
  else none

/-- The loop becomes CLOSED (R97). -/
def Part.closeLoop (k : Nat) (p : Part) : Part :=
  (p.modLpc fun l => { l with rampLength := k, rampCount := 0, divCount := 0 }).setLoop .closed

/-- LOOP_CLOSE (R97). -/
def Part.loopCloseOrder (ramp : BitVec 16) (p : Part) : OrderResult × Part :=
  if p.lpc.loop ≠ .opened then (.failed .wrongState, p)
  else
    match p.closeRefusal with
    | some r => (r, p)
    | none => (.adjustedDone (1023 < ramp.toNat), p.closeLoop (min 1023 ramp.toNat))

/-- The link FIFOs are flushed (R13). -/
def Part.flushFifos (p : Part) : Part := p.modLinks fun v => v.map SensorLink.flushed

/-- The loop becomes STOPPED by LOOP_STOP: slots are discarded, FIFOs flushed, the frame-gap timer stopped, the hold causes and
the divergence count cleared, and LOOP_STATE is raised (R13, R41, R98). -/
def Part.stopLoop (p : Part) : Part :=
  (((((p.putLoop .stopped).discardAll).flushFifos).modFra fun f => { f with gapTimer := none }).modLpc fun l =>
    { l with causes := .empty, firstCause := none, divCount := 0 }).raise .loopState

/-- LOOP_STOP (R98). -/
def Part.loopStopOrder (p : Part) : OrderResult × Part :=
  if p.lpc.loop = .stopped then (.done, p) else (.done, p.stopLoop)

/-- The checks of RESUME in HELD (R101). -/
def Part.resumeRefusal (p : Part) : Option OrderResult :=
  if p.tlu.interlock.level then some (.failedWith .causePresent 1)
  else if p.inFault 0 then some (.failedWith .causePresent 2)
  else if p.inFault 1 then some (.failedWith .causePresent 3)
  else none

/-- The loop leaves HELD by RESUME (R40, R101). -/
def Part.resumeLoop (p : Part) : Part :=
  ((p.modLpc fun l => { l with causes := .empty, firstCause := none, divCount := 0 }).restartAssembly).setLoop .opened

/-- RESUME (R101). -/
def Part.resumeOrder (p : Part) : OrderResult × Part :=
  if p.lpc.loop ≠ .held then (.failed .nothingHeld, p)
  else
    match p.resumeRefusal with
    | some r => (r, p)
    | none => (.done, p.resumeLoop)

/-! ## SET_GAINS (R108) -/

/-- The gains shadow as a write finds it: a copy of the live gains unless it is waiting (R108). -/
def Lpc.writableGains (l : Lpc) : Two Gains := if l.gainWaiting then l.gainShadow else l.gainLive

/-- A mirror's gains are written into the shadow (R108). -/
def Part.writeGains (m : MirrorIx) (x : Gains) (p : Part) : Part :=
  (p.modLpc fun l => { l with gainShadow := l.writableGains.set m x }).gainsWait

/-- SET_GAINS (R108). -/
def Part.setGains (q : GainsOrderParams) (p : Part) : OrderResult × Part :=
  match indexOf 2 q.mirror with
  | none => (.failed .badParameter, p)
  | some m =>
    (.adjustedDone (32768 < q.leak.toNat || 32768 < q.gain.toNat),
      p.writeGains m ⟨min 32768 q.leak.toNat, min 32768 q.gain.toNat⟩)

end Sys2Proof.Machine
end

