-- ==== Sys2Proof/Machine/Lines.lean ====
section
/-! DEFINITION. The Timebase and Lines Unit (chapter 10): the pacer, the input lines and their edges; with the commands
INTERLOCK_EDGE, SNAP_EDGE, MARK_EDGE, PERIOD_START, PULSE_END and LINE_SAMPLE. -/

namespace Sys2Proof.Machine

/-! ## The pacer (R197 to R199) -/

/-- The values that a period start finds: pending values become live, with an accumulator of 0 (R198). -/
def Pacer.renewed (x : Pacer) : Pacer :=
  match x.next with
  | some v => { x with live := v, next := none, acc := 0 }
  | none => x

/-- A period starts at a time: the accumulator, the period's length, and TRIGGER (R198). -/
def Pacer.startPeriod (t : Time) (x : Pacer) : Pacer :=
  let y := x.renewed
  let sum := y.acc + y.live.fraction
  { y with
    acc := sum % 65536
    start := t
    length := if 65536 ≤ sum then y.live.period + 1 else y.live.period
    trigger := true }

/-- The clamped values of SET_PACER (R197). -/
def pacerValues (q : PacerOrderParams) : PacerValues :=
  let period := max 50 q.period.toNat
  ⟨period, q.fraction.toNat, clampTo 1 (period - 1) q.width.toNat⟩

/-- A value of SET_PACER was clamped (R197). -/
def pacerAdjusts (q : PacerOrderParams) : Bool :=
  q.period.toNat < 50 || outside 1 (max 50 q.period.toNat - 1) q.width.toNat

/-- The pacer stops: TRIGGER is deasserted, the accumulator is 0, no values are pending (R199, R208). -/
def Pacer.stopped (x : Pacer) : Pacer := { x with running := false, next := none, acc := 0, trigger := false }

/-- The pacer after a SET_PACER at a time (R197, R199). -/
def Pacer.configure (t : Time) (v : PacerValues) (run : Bool) (x : Pacer) : Pacer :=
  if run then
    if x.running then { x with next := some v }
    else Pacer.startPeriod t { x with running := true, live := v, next := none, acc := 0 }
  else if x.running then { x.stopped with live := v }
  else { x with live := v }

/-- The part with its pacer replaced by a function of it. -/
def Part.modPacer (g : Pacer → Pacer) (p : Part) : Part := p.modTlu fun l => { l with pacer := g l.pacer }

/-- SET_PACER (R197). -/
def Part.setPacer (q : PacerOrderParams) (p : Part) : OrderResult × Part :=
  match flagOf q.run with
  | none => (.failed .badParameter, p)
  | some run => (.adjustedDone (pacerAdjusts q), p.modPacer (Pacer.configure p.now (pacerValues q) run))

/-- PERIOD_START: the current period has lasted its length, and the next starts (R198). While the pacer is stopped, or its pulse
has not ended, nothing happens. -/
def Part.periodStart (p : Part) : Part :=
  let x := p.tlu.pacer
  if x.running && !x.trigger then
    let q := p.advanceTo (later x.start x.length)
    q.modPacer (Pacer.startPeriod (later x.start x.length))
  else p

/-- PERIOD_START (R198). -/
def execPeriodStart (s : State) : Host.Outcome State Fault Refusal :=
  .next { s with part := s.part.periodStart }

/-- PULSE_END: TRIGGER is deasserted, the pulse width after the period start (R198). With no pulse in progress, nothing
happens. -/
def Part.pulseEnd (p : Part) : Part :=
  let x := p.tlu.pacer
  if x.trigger then (p.advanceTo (later x.start x.live.width)).modPacer fun y => { y with trigger := false } else p

/-- PULSE_END (R198). -/
def execPulseEnd (s : State) : Host.Outcome State Fault Refusal :=
  .next { s with part := s.part.pulseEnd }

/-! ## Sampling (R200) -/

/-- One sample of a line; an accepted change is due, and is taken by the line's own command (R200; log entry 3). -/
def Line.sample (x : Line) (level : Bool) : Line :=
  if level = x.level then { x with run := 0 }
  else if x.count < x.run + 1 then { x with run := 0, due := true }
  else { x with run := x.run + 1 }

/-- The accepted level changes (R200). -/
def Line.take (x : Line) : Line := { x with level := !x.level, due := false }

/-- The first multiple of 10 at or after a time; beyond the last one before the wrap, it is 0 (R195, R200). -/
def sampleTimeFrom (t : Time) : Time :=
  let next := 10 * ((t.toNat + 9) / 10)
  if next < 2 ^ 64 then BitVec.ofNat 64 next else 0

/-- The time of the sample after one at a multiple of 10 (R200). -/
def nextSampleTime (t : Time) : Time := if t.toNat + 10 < 2 ^ 64 then t + 10 else 0

/-- The time of the next sample: the one that is due, or the first still to come where the timebase has gone past it. -/
def Tlu.sampleTime (l : Tlu) : Time :=
  if reached l.timebase l.nextSample then sampleTimeFrom l.timebase else l.nextSample

/-- An accepted change is still to be taken on some line. -/
def Tlu.someDue (l : Tlu) : Bool := l.interlock.due || l.snap.due || l.mark.due

/-- LINE_SAMPLE: the three lines are sampled together (R200). While an accepted change of the sample before is still to be
taken, nothing happens. -/
def Part.lineSample (interlock snap mark : Bool) (p : Part) : Part :=
  if p.tlu.someDue then p
  else
    let t := p.tlu.sampleTime
    (p.advanceTo t).modTlu fun l =>
      { l with
        nextSample := nextSampleTime t
        interlock := l.interlock.sample interlock
        snap := l.snap.sample snap
        mark := l.mark.sample mark }

/-- LINE_SAMPLE (R200). -/
def execLineSample (interlock snap mark : Bool) (s : State) : Host.Outcome State Fault Refusal :=
  .next { s with part := s.part.lineSample interlock snap mark }

/-! ## Edges (R202 to R204) -/

/-- INTERLOCK_EDGE: the level changes, the INTERLOCK event is raised, and a rising edge is a hold cause (R202). With no accepted
change due, nothing happens. -/
def Part.interlockEdge (p : Part) : Part :=
  if p.tlu.interlock.due then
    let q := (p.modTlu fun l => { l with interlock := l.interlock.take }).raise .interlock
    if p.tlu.interlock.level then q else q.takeHold .interlock
  else p

/-- INTERLOCK_EDGE (R202). -/
def execInterlockEdge (s : State) : Host.Outcome State Fault Refusal :=
  .next { s with part := s.part.interlockEdge }

/-- A rising SNAP edge is blocked (R203). -/
def Part.snapBlocked (p : Part) : Bool :=
  (p.tlu.blockInterlock && p.tlu.interlock.level) || (p.tlu.blockMark && p.tlu.mark.level)
    || (p.tlu.blockLoop && p.lpc.loop ≠ .closed)

/-- A rising SNAP edge is judged against the block set (R203). -/
def Part.judgeSnap (p : Part) : Part :=
  if p.snapBlocked then p.modTlu fun l => { l with blockedSnaps := l.blockedSnaps + 1 }
  else (p.modTlu fun l => { l with qualifiedSnaps := l.qualifiedSnaps + 1 }).requestCapture

/-- The accepted level of SNAP changes (R200). -/
def Part.takeSnap (p : Part) : Part := p.modTlu fun l => { l with snap := l.snap.take }

/-- SNAP_EDGE: the level changes, and a rising edge is judged (R203). With no accepted change due, nothing happens. -/
def Part.snapEdge (p : Part) : Part :=
  if p.tlu.snap.due then (if p.tlu.snap.level then p.takeSnap else p.takeSnap.judgeSnap) else p

/-- SNAP_EDGE (R203). -/
def execSnapEdge (s : State) : Host.Outcome State Fault Refusal :=
  .next { s with part := s.part.snapEdge }

/-- MARK_EDGE: the level changes, and a rising edge counts (R204). With no accepted change due, nothing happens. -/
def Part.markEdge (p : Part) : Part :=
  if p.tlu.mark.due then
    p.modTlu fun l =>
      { l with
        mark := l.mark.take
        markEdges := if l.mark.level then l.markEdges else min 65535 (l.markEdges + 1) }
  else p

/-- MARK_EDGE (R204). -/
def execMarkEdge (s : State) : Host.Outcome State Fault Refusal :=
  .next { s with part := s.part.markEdge }

/-! ## SET_LINES (R201) -/

/-- The accepted levels as SET_LINES reports them (R201). -/
def Tlu.levels (l : Tlu) : Nat := bitAt 0 l.interlock.level + bitAt 1 l.snap.level + bitAt 2 l.mark.level

/-- A line with a new debounce count (R201). -/
def Line.withCount (x : Line) (count : BitVec 16) : Line := { x with count := min 255 count.toNat }

/-- Some debounce count of SET_LINES was clamped (R201). -/
def linesAdjust (q : LinesOrderParams) : Bool :=
  255 < q.interlockCount.toNat || 255 < q.snapCount.toNat || 255 < q.markCount.toNat

/-- SET_LINES, its marks being 0 or 1 (R201). -/
def Part.applyLines (q : LinesOrderParams) (blockInterlock blockMark blockLoop : Bool) (p : Part) : Part :=
  p.modTlu fun l =>
    { l with
      interlock := l.interlock.withCount q.interlockCount
      snap := l.snap.withCount q.snapCount
      mark := l.mark.withCount q.markCount
      blockInterlock := blockInterlock
      blockMark := blockMark
      blockLoop := blockLoop
      blockedSnaps := 0
      qualifiedSnaps := 0 }

/-- What SET_LINES reports (R201). -/
def Tlu.linesResult (l : Tlu) (adjusted : Bool) : OrderResult :=
  { OrderResult.adjustedDone adjusted with
    d1 := l.blockedSnaps
    d2 := l.qualifiedSnaps
    d3 := BitVec.ofNat 32 l.levels }

/-- SET_LINES (R201). -/
def Part.setLines (q : LinesOrderParams) (p : Part) : OrderResult × Part :=
  match flagOf q.blockInterlock, flagOf q.blockMark, flagOf q.blockLoop with
  | some a, some b, some c => (p.tlu.linesResult (linesAdjust q), p.applyLines q a b c)
  | _, _, _ => (.failed .badParameter, p)

end Sys2Proof.Machine
end

