-- ==== Sys2Proof/Machine/Transfer.lean ====
section
/-! DEFINITION. The transfer lane (section 8.7): the checks of a bulk order at take and at its start, the bytes that move, the
ends of loads, readbacks and copies; and the commands TRANSFER_START, HOST_READ_COMPLETION, LOADER_BURST_COMPLETE,
READER_BURST_COMPLETE, CONFIRMING_READ_COMPLETION and HOST_WRITE_REQUEST. -/

namespace Sys2Proof.Machine

/-! ## Orders and their kinds -/

/-- The kind code of an order (section 11.6). -/
def orderCode : Order → BitVec 16
  | .setGeometry _ => 0x0001
  | .setSensor _ => 0x0002
  | .setLoop _ => 0x0003
  | .setGains _ => 0x0004
  | .setMirror _ => 0x0005
  | .loopOpen => 0x0006
  | .loopClose _ => 0x0007
  | .loopStop => 0x0008
  | .resume => 0x0009
  | .flatten => 0x000A
  | .mirrorReset _ => 0x000B
  | .mirrorProbe _ => 0x000C
  | .swapMatrix _ => 0x000D
  | .setStore _ => 0x000E
  | .setWindow _ => 0x000F
  | .setExchange _ => 0x0010
  | .abortTransfer _ _ => 0x0011
  | .setTelemetry _ _ => 0x0012
  | .capture => 0x0013
  | .setPacer _ => 0x0014
  | .setLines _ => 0x0015
  | .loadMatrix _ => 0x0020
  | .readBack _ => 0x0021
  | .loadTable _ => 0x0022
  | .applyShape _ => 0x0023
  | .copySnapshot _ => 0x0024
  | .unknownKind code => code

/-- The entry size of a LOAD_TABLE kind code (section 11.8). -/
def entrySizeOf (kind : Byte) : Option Nat :=
  if kind = 0 then some 2
  else if kind = 1 then some 8
  else if kind = 2 then some 8
  else if kind = 3 then some 6
  else none

/-- The buffer length of an order, from its raw parameters (R166): 0 for a control order, none for a LOAD_TABLE of unknown
kind, whose buffer has no length. -/
def bufferLength : Order → Option Nat
  | .loadMatrix q => some (2 * q.s.toNat * q.a.toNat)
  | .readBack q => some q.size.toNat
  | .loadTable q => (entrySizeOf q.kind).map fun size => size * q.count.toNat
  | .applyShape q => some (2 * q.count.toNat)
  | .copySnapshot _ => some imageLength
  | .setGeometry _ | .setSensor _ | .setLoop _ | .setGains _ | .setMirror _ | .loopOpen | .loopClose _ | .loopStop
  | .resume | .flatten | .mirrorReset _ | .mirrorProbe _ | .swapMatrix _ | .setStore _ | .setWindow _ | .setExchange _
  | .abortTransfer _ _ | .setTelemetry _ _ | .capture | .setPacer _ | .setLines _ | .unknownKind _ => some 0

/-- An order that never entered the lane is refused: the fourth detail word of a bulk order's result holds its buffer length
(R164, R169; DEDUCED, log entry 22), or a free value where the buffer has no length (log entry 8). -/
def Part.refuse (o : Order) (r : Reason) (ref : OrderRef) (p : Part) : Part :=
  match bufferLength o with
  | some n => p.finish ref ((OrderResult.failed r).remaining n)
  | none => p.drawFree.finish ref { OrderResult.failed r with d4 := Config.remainingOfUnknownTable p.frees }

/-! ## Checks at take (R46, R77, R86, R106, R107, R122, R160, R166, R190) -/

/-- A bulk order as the transfer queue takes it: its work and its host address. -/
structure Taken where
  op : BulkOp
  host : BitVec 64
deriving DecidableEq, Repr

/-- A passed buffer check makes the order's entry. -/
def takenWith (op : BulkOp) (r : Except Reason (BitVec 64)) : Except Reason Taken :=
  match r with
  | .error e => .error e
  | .ok host => .ok ⟨op, host⟩

/-- LOAD_MATRIX at take (R77). -/
def Part.takeLoadMatrix (q : MatrixOrderParams) (p : Part) : Except Reason Taken :=
  match indexOf 2 q.bank with
  | none => .error .badParameter
  | some b =>
    let s := q.s.toNat
    let a := q.a.toNat
    if s < 2 || 20480 < s || s % 2 = 1 || a < 1 || 4096 < a || 31 < q.e.toNat then .error .badParameter
    else takenWith (.loadMatrix b s a q.e.toNat q.check) (p.checkBuffer q.source (2 * s * a) true)

/-- What a READ_BACK source code names (R86, R214). -/
inductive Source where
  | bank (b : BankIx)
  | table (t : TableSource)
deriving DecidableEq, Repr

/-- The source of a READ_BACK. -/
def sourceOf (code : Byte) : Option Source :=
  if code = 0 then some (.bank 0)
  else if code = 1 then some (.bank 1)
  else if code = 2 then some (.table .reference)
  else if code = 3 then some (.table .sensors)
  else if code = 4 then some (.table .limits)
  else if code = 5 then some (.table .pairs)
  else none

/-- The destination of a READ_BACK passes its checks (R166). -/
def Part.checkDestination (q : ReadBackParams) (op : BulkOp) (p : Part) : Except Reason Taken :=
  takenWith op (p.checkBuffer q.dest q.size.toNat (q.size.toNat % 64 = 0 && 0 < q.size.toNat))

/-- READ_BACK at take (R86). -/
def Part.takeReadBack (q : ReadBackParams) (p : Part) : Except Reason Taken :=
  let first := q.firstColumn.toNat
  let columns := q.columns.toNat
  match sourceOf q.source with
  | none => .error .badParameter
  | some (.table t) =>
    match flagOf q.copy with
    | none => .error .badParameter
    | some shadow => p.checkDestination q (.readTable t shadow)
  | some (.bank b) =>
    if 20479 < first || columns < 1 || 20480 < columns || 20480 < first + columns then .error .badParameter
    else if (p.mxs.banks.get b).state = .loading then .error .bankBusy
    else p.checkDestination q (.readBank b first columns)

/-- A table load's count and buffer are checked; a load of no entries has no buffer (R46, R106, R107, R166). -/
def Part.checkTable (q : TableOrderParams) (lo hi size : Nat) (op : BulkOp) (p : Part) : Except Reason Taken :=
  let n := q.count.toNat
  if n < lo || hi < n then .error .badParameter
  else if n = 0 then .ok ⟨op, 0⟩
  else takenWith op (p.checkBuffer q.source (size * n) true)

/-- LOAD_TABLE at take (R46, R106, R107, R160). -/
def Part.takeLoadTable (q : TableOrderParams) (p : Part) : Except Reason Taken :=
  let n := q.count.toNat
  if q.kind = 0 then p.checkTable q 1 20480 2 (.loadReference n)
  else if q.kind = 1 then p.checkTable q 1 4 8 (.loadSensors n)
  else if q.kind = 2 then p.checkTable q 1 4096 8 (.loadLimits n)
  else if q.kind = 3 then p.checkTable q 0 8192 6 (.loadPairs n)
  else .error .badParameter

/-- APPLY_SHAPE at take (R122). -/
def Part.takeApplyShape (q : ShapeOrderParams) (p : Part) : Except Reason Taken :=
  let n := q.count.toNat
  if p.lpc.loop ≠ .opened then .error .wrongState
  else if n ≠ p.geo.actuators || n = 0 then .error .badParameter
  else takenWith (.applyShape n) (p.checkBuffer q.source (2 * n) true)

/-- COPY_SNAPSHOT at take (R190). -/
def Part.takeCopySnapshot (dest : BitVec 64) (p : Part) : Except Reason Taken :=
  takenWith .copySnapshot (p.checkBuffer dest imageLength true)

/-! ## Ends of transfers -/

/-- The bytes remaining of a running transfer (R169). -/
def Running.remaining (r : Running) : Nat := r.total - r.moved

/-- The running transfer's order finishes, and the lane is empty (R163, R168). -/
def Part.endLane (r : Running) (res : OrderResult) (p : Part) : Part :=
  (p.modXu fun x => { x with lane := none }).finish r.bulk.order (res.remaining r.remaining)

/-- A loader burst completes into the store, though its load has ended (R81). -/
def Burst.orphan : Burst → Burst
  | .stream slot slope value bank first count dropped => .stream slot slope value bank first count dropped
  | .loader offset data _ => .loader offset data false
  | .reader offset count dropped => .reader offset count dropped

/-- A reader burst's data is dropped, as its readback has ended (R87). -/
def Burst.abandon : Burst → Burst
  | .stream slot slope value bank first count dropped => .stream slot slope value bank first count dropped
  | .loader offset data live => .loader offset data live
  | .reader offset count _ => .reader offset count true

/-- The matrix load's own work ends early: the bank is EMPTY, ungranted bursts are withdrawn, granted ones complete (R81). -/
def Part.dropMatrixLoad (b : BankIx) (p : Part) : Part :=
  (p.modBank b fun x => { x with state := .empty }).modMxs fun x =>
    { x with load := none, bursts := x.bursts.map Burst.orphan }

/-- What the owning block does when its transfer ends early (R49, R81, R87, R88, R109, R123, R193). -/
def Part.dropWork (op : BulkOp) (p : Part) : Part :=
  match op with
  | .loadMatrix b _ _ _ _ => p.dropMatrixLoad b
  | .loadReference _ | .loadSensors _ => p.modScn fun c => { c with load := none }
  | .loadLimits _ | .loadPairs _ => p.modLpc fun l => { l with load := none }
  | .applyShape _ => p.modLpc fun l => { l with shape := [] }
  | .readBank _ _ _ => p.modMxs fun x => { x with readback := none, bursts := x.bursts.map Burst.abandon }
  | .readTable _ _ => p.modMxs fun x => { x with tableImage := [] }
  | .copySnapshot => p.modSns fun x => { x with copying := false, renewed := false }

/-- A running transfer is ended early with a reason (R170 to R172). -/
def Part.endEarly (r : Running) (reason : Reason) (p : Part) : Part :=
  (p.dropWork r.bulk.op).endLane r (.failed reason)

/-- A host access failure is counted, and HOST_ACCESS is raised (R157, R170). -/
def Part.countHostFailure (p : Part) : Part :=
  (p.modXu fun x => { x with hostFailures := x.hostFailures + 1 }).raise .hostAccess

/-- A read of the running transfer fails (R170). -/
def Part.failTransfer (r : Running) (p : Part) : Part := (p.endEarly r .hostAccess).countHostFailure

/-- A read that the running transfer makes: it fails at once while memory requests are disabled (R153, R170). -/
def Part.laneRead (r : Running) (addr : BitVec 64) (length : Nat) (p : Part) : Part :=
  if p.xu.memRequests then p.hostRead addr length else p.failTransfer r

/-! ## Starts (R46, R78, R86, R88, R106, R107, R122, R168, R190) -/

/-- What a start finds: a refusal, a transfer of so many bytes from the host, or of so many to the host. -/
inductive Start where
  | refused (r : Reason)
  | reads (total : Nat)
  | writes (total : Nat)
deriving DecidableEq, Repr

/-- A bank is the target of a pending swap (R78). -/
def Part.swapTarget (p : Part) (b : BankIx) : Bool :=
  match p.mxs.pendingSwap with
  | none => false
  | some w => w.target = b

/-- LOAD_MATRIX at its start (R78); a LOADING bank, which no start meets, is busy (log entry 25). -/
def Part.startMatrix (p : Part) (b : BankIx) (length : Nat) : Start :=
  match (p.mxs.banks.get b).state with
  | .active => .refused .bankActive
  | .loading => .refused .bankBusy
  | .ready | .empty => if p.swapTarget b then .refused .bankBusy else .reads length

/-- An image that must fit into the destination (R86). -/
def fitting (image size : Nat) : Start := if size < image then .refused .badParameter else .writes image

/-- READ_BACK of a bank at its start (R86). -/
def Part.startReadBank (p : Part) (b : BankIx) (first columns size : Nat) : Start :=
  let x := p.mxs.banks.get b
  match x.state with
  | .empty => .refused .bankNotReady
  | .loading => .refused .bankBusy
  | .ready | .active =>
    if x.s < first + columns then .refused .badParameter else fitting (2 * columns * x.a) size

/-- The start checks of an order (R168). -/
def Part.startCheck (p : Part) (b : Bulk) : Start :=
  match b.op with
  | .loadMatrix bank _ _ _ _ => p.startMatrix bank b.length
  | .loadReference _ | .loadSensors _ | .loadLimits _ | .loadPairs _ => .reads b.length
  | .applyShape _ => if p.lpc.loop = .opened then .reads b.length else .refused .wrongState
  | .readBank bank first columns => p.startReadBank bank first columns b.length
  | .readTable t shadow => fitting (p.tableImage t shadow).length b.length
  | .copySnapshot => if p.sns.filled then .writes imageLength else .refused .nothingHeld

/-- The matrix load begins: the bank's record and the loader (R78). -/
def Part.beginMatrix (b : BankIx) (s a e : Nat) (check : BitVec 32) (p : Part) : Part :=
  (p.modBank b fun _ => ⟨.loading, s, a, e, check, 0⟩).modMxs fun x => { x with load := some ⟨b, 0, [], 0, 0, 0, none⟩ }

/-- A bank readback begins at its first column (R87). -/
def Part.beginReadBank (b : BankIx) (first columns : Nat) (p : Part) : Part :=
  let a := (p.mxs.banks.get b).a
  p.modMxs fun x =>
    { x with readback := some ⟨bankBase b + 2 * (first * a), bankBase b + 2 * ((first + columns) * a)⟩ }

/-- The owning block begins its work (R46, R78, R88, R106, R107, R122, R190). -/
def Part.beginWork (op : BulkOp) (p : Part) : Part :=
  match op with
  | .loadMatrix b s a e check => p.beginMatrix b s a e check
  | .loadReference n => p.modScn fun c => { c with load := some ⟨.reference, n, 0, [], [], 0, none⟩ }
  | .loadSensors n => p.modScn fun c => { c with load := some ⟨.sensors, n, 0, [], [], 0, none⟩ }
  | .loadLimits n => p.modLpc fun l => { l with load := some ⟨.limits, n, 0, [], [], 0, 0, none⟩ }
  | .loadPairs n => p.modLpc fun l => { l with load := some ⟨.pairs, n, 0, [], [], 0, 0, none⟩ }
  | .applyShape _ => p.modLpc fun l => { l with shape := [] }
  | .readBank b first columns => p.beginReadBank b first columns
  | .readTable t shadow => p.modMxs fun x => { x with tableImage := p.tableImage t shadow }
  | .copySnapshot => p.modSns fun x => { x with copying := true, renewed := false }

/-! ## Table loads: entries and completion (R47, R48, R106, R107) -/

/-- Runs of a given size, in order. -/
def chunks (size : Nat) : Nat → List Byte → List (List Byte)
  | 0, _ => []
  | n + 1, bytes => bytes.take size :: chunks size n (bytes.drop size)

/-- A REFERENCE entry is placed in the load buffer (R47). -/
def SlopeLoad.placeReference (l : SlopeLoad) (entry : List Byte) : SlopeLoad :=
  { l with got := l.got + 1, refs := l.refs ++ [field16 entry 0] }

/-- A SENSORS entry is judged and placed (R47). The policy of a bad entry is never read, as its load fails. -/
def SlopeLoad.placeSensors (l : SlopeLoad) (entry : List Byte) : SlopeLoad :=
  let keep := (field16 entry 6).toNat
  let policy := policyOf (field8 entry 4)
  { l with
    got := l.got + 1
    params := l.params ++ [⟨field16 entry 0, field16 entry 2, policy.getD .zero, clampTo 1 255 keep⟩]
    adjusted := if outside 1 255 keep then l.adjusted + 1 else l.adjusted
    bad := if policy.isNone && l.bad.isNone then some l.got else l.bad }

/-- An entry of a slope-side load. -/
def SlopeLoad.place (l : SlopeLoad) (entry : List Byte) : SlopeLoad :=
  match l.kind with
  | .reference => l.placeReference entry
  | .sensors => l.placeSensors entry

/-- A limits entry as R106 judges it: hi raised to lo, then flat brought within. -/
def judgedLimits (lo hi flat : BitVec 16) (active : Bool) : Limits :=
  let hi' := if hi.toNat < lo.toNat then lo else hi
  let flat' := if flat.toNat < lo.toNat then lo else if hi'.toNat < flat.toNat then hi' else flat
  ⟨lo, hi', flat', active⟩

/-- A LIMITS entry is judged and placed (R106). -/
def ActuatorLoad.placeLimits (l : ActuatorLoad) (entry : List Byte) : ActuatorLoad :=
  let hi := field16 entry 2
  let flat := field16 entry 4
  let active := flagOf (field8 entry 6)
  let x := judgedLimits (field16 entry 0) hi flat (active.getD false)
  { l with
    got := l.got + 1
    limits := l.limits ++ [x]
    adjusted := if x.hi ≠ hi || x.flat ≠ flat then l.adjusted + 1 else l.adjusted
    bad := if active.isNone && l.bad.isNone then some l.got else l.bad }

/-- A PAIRS entry is judged against the A held, and placed or dropped (R107). -/
def ActuatorLoad.placePair (a : Nat) (l : ActuatorLoad) (entry : List Byte) : ActuatorLoad :=
  let x : ActuatorPair := ⟨(field16 entry 0).toNat, (field16 entry 2).toNat, (field16 entry 4).toNat⟩
  if x.p = x.r || a ≤ x.p || a ≤ x.r || x.d = 0 then { l with got := l.got + 1, dropped := l.dropped + 1 }
  else { l with got := l.got + 1, pairs := l.pairs ++ [x] }

/-- An entry of an actuator-side load. -/
def ActuatorLoad.place (a : Nat) (l : ActuatorLoad) (entry : List Byte) : ActuatorLoad :=
  match l.kind with
  | .limits => l.placeLimits entry
  | .pairs => l.placePair a entry

/-- DONE with an adjusted-entry or dropped count, which sets the ADJUSTED note when it is above 0 (R48, R106, R107). -/
def countedDone (count : Nat) : OrderResult :=
  { OrderResult.done with adjusted := 0 < count, d1 := BitVec.ofNat 32 count }

/-- FAILED BAD_PARAMETER with the index of the first bad entry (R48, R106). -/
def badEntry (index : Nat) : OrderResult := .failedWith .badParameter (BitVec.ofNat 32 index)

/-- The sensor parameters with the entries of a load replaced, entry 0 first (R48). -/
def loadedParameters (live : Four SensorParam) (entries : List SensorParam) : Four SensorParam :=
  Four.make fun s => entries.getD s.val (live.get s)

/-- A slope-side load completes (R48). -/
def Part.completeSlopeLoad (l : SlopeLoad) (p : Part) : OrderResult × Part :=
  let q := p.modScn fun c => { c with load := none }
  match l.bad with
  | some i => (badEntry i, q)
  | none =>
    (countedDone l.adjusted,
      match l.kind with
      | .reference =>
        (q.modScn fun c =>
          { c with refShadow := Sparse.setAll 0 c.refLive (List.range l.refs.length) fun j => l.refs.getD j 0 }).referenceWaits
      | .sensors =>
        (q.modScn fun c => { c with parShadow := loadedParameters c.parLive l.params }).parametersWait)

/-- An actuator-side load completes (R106, R107). -/
def Part.completeActuatorLoad (l : ActuatorLoad) (p : Part) : OrderResult × Part :=
  let q := p.modLpc fun c => { c with load := none }
  match l.bad with
  | some i => (badEntry i, q)
  | none =>
    match l.kind with
    | .limits =>
      (countedDone l.adjusted,
        (q.modLpc fun c =>
          { c with
            limShadow := Sparse.setAll Limits.powerOn c.limLive (List.range l.limits.length) fun a =>
              l.limits.getD a Limits.powerOn }).limitsWait)
    | .pairs =>
      ({ countedDone l.dropped with d2 := BitVec.ofNat 32 l.pairs.length },
        (q.modLpc fun c => { c with pairShadow := l.pairs }).pairsWait)

/-- The last byte of an APPLY_SHAPE has been read (R123). -/
def Part.completeShape (p : Part) : OrderResult × Part :=
  (p.modLpc fun l => { l with shape := [] }).judgeShape p.lpc.shape

/-- A load's order finishes with a result. -/
def Part.conclude (r : Running) (x : OrderResult × Part) : Part := x.2.endLane r x.1

/-- The owning block has its last byte: the load completes, and its order finishes (R48, R106, R107, R123). A matrix load ends
with its last write burst instead (R80). -/
def Part.completeLoad (r : Running) (p : Part) : Part :=
  match r.bulk.op with
  | .loadReference _ | .loadSensors _ =>
    match p.scn.load with
    | some l => Part.conclude r (p.completeSlopeLoad l)
    | none => p
  | .loadLimits _ | .loadPairs _ =>
    match p.lpc.load with
    | some l => Part.conclude r (p.completeActuatorLoad l)
    | none => p
  | .applyShape _ => Part.conclude r p.completeShape
  | .loadMatrix _ _ _ _ _ | .readBank _ _ _ | .readTable _ _ | .copySnapshot => p

/-! ## Starting -/

/-- The confirming read of the buffer's last 64 bytes (R169). -/
def Part.confirm (r : Running) (p : Part) : Part :=
  (p.modXu fun x => { x with lane := some { r with confirming := true } }).laneRead { r with confirming := true }
    (r.bulk.host + BitVec.ofNat 64 (r.bulk.length - 64)) 64

/-- A transfer is in the lane and its owning block begins: the source is read, or, for an empty one, the load completes; an empty
image is confirmed at once (R107, R168, R169). -/
def Part.runLane (r : Running) (reading : Bool) (p : Part) : Part :=
  let q := (p.modXu fun x => { x with lane := some r }).beginWork r.bulk.op
  if reading then (if r.total = 0 then q.completeLoad r else q.laneRead r r.bulk.host r.total)
  else if r.total = 0 then q.confirm r
  else q

/-- A bulk order at the head of the queue starts (R168); a refused start reports its buffer length as bytes remaining. -/
def Part.startBulk (b : Bulk) (p : Part) : Part :=
  match p.startCheck b with
  | .refused r => p.finish b.order ((OrderResult.failed r).remaining b.length)
  | .reads total => p.runLane ⟨b, total, 0, [], false⟩ true
  | .writes total => p.runLane ⟨b, total, 0, [], false⟩ false

/-- The head of the queue moves to an empty lane and starts (R168). -/
def Part.startHead (p : Part) : Part :=
  match p.xu.lane, p.xu.queue with
  | none, b :: rest => (p.modXu fun x => { x with queue := rest }).startBulk b
  | _, _ => p

/-- Heads start for as long as their starts are refused (R168); n bounds their number. -/
def Part.startHeads : Nat → Part → Part
  | 0, p => p
  | n + 1, p => Part.startHeads n p.startHead

/-- The queue's heads start, as far as the lane is free. -/
def Part.startQueue (p : Part) : Part := Part.startHeads p.xu.queue.length p

/-- TRANSFER_START (R168). With an occupied lane or an empty queue, nothing happens. -/
def execTransferStart (s : State) : Host.Outcome State Fault Refusal :=
  .next { s with part := s.part.startHead }

/-! ## Bytes from the host (R79, R169) -/

/-- The running sum as bytes arrive: each coefficient is added when both of its bytes are there (R79). -/
structure SumState where
  sum : BitVec 32
  low : Option Byte

/-- One byte arrives at the loader. -/
def SumState.feed (x : SumState) (b : Byte) : SumState :=
  match x.low with
  | none => { x with low := some b }
  | some l => ⟨x.sum + (b ++ l).signExtend 32, none⟩

/-- Bytes of a matrix reach the gathering buffer and the running sum (R79). -/
def MatrixLoad.feed (l : MatrixLoad) (bytes : List Byte) : MatrixLoad :=
  let x := bytes.foldl SumState.feed ⟨l.sum, l.low⟩
  { l with taken := l.taken + bytes.length, buffer := l.buffer ++ bytes, sum := x.sum, low := x.low }

/-- The entry size of a load that takes whole entries. -/
def BulkOp.entrySize : BulkOp → Nat
  | .loadReference _ | .applyShape _ => 2
  | .loadSensors _ | .loadLimits _ => 8
  | .loadPairs _ => 6
  | .loadMatrix _ _ _ _ _ | .readBank _ _ _ | .readTable _ _ | .copySnapshot => 1

/-- Whole entries reach their owning block (R47, R106, R107, R122). -/
def Part.placeEntries (op : BulkOp) (entries : List (List Byte)) (p : Part) : Part :=
  match op with
  | .loadReference _ | .loadSensors _ =>
    p.modScn fun c => { c with load := c.load.map fun l => entries.foldl SlopeLoad.place l }
  | .loadLimits _ | .loadPairs _ =>
    p.modLpc fun c => { c with load := c.load.map fun l => entries.foldl (ActuatorLoad.place p.geo.actuators) l }
  | .applyShape _ => p.modLpc fun l => { l with shape := l.shape ++ entries.map fun e => field16 e 0 }
  | .loadMatrix _ _ _ _ _ | .readBank _ _ _ | .readTable _ _ | .copySnapshot => p

/-- The running transfer's record after bytes have been handed on. -/
def Running.took (r : Running) (bytes : List Byte) : Running :=
  let all := r.carry ++ bytes
  { r with moved := r.moved + bytes.length, carry := all.drop (r.bulk.op.entrySize * (all.length / r.bulk.op.entrySize)) }

/-- Bytes are handed to the owning block of a table load or a shape; the last one completes it (R48, R106, R107, R123). -/
def Part.takeEntries (r : Running) (bytes : List Byte) (p : Part) : Part :=
  let all := r.carry ++ bytes
  let size := r.bulk.op.entrySize
  let r' := r.took bytes
  let q := (p.modXu fun x => { x with lane := some r' }).placeEntries r.bulk.op (chunks size (all.length / size) all)
  if r'.moved = r'.total then q.completeLoad r' else q

/-- Bytes are handed to the loader, as far as its gathering buffer of 512 bytes has room; bytes that it has no room for are not
taken from the host (R79). -/
def Part.takeMatrixBytes (r : Running) (bytes : List Byte) (p : Part) : Part :=
  match p.mxs.load with
  | none => p
  | some l =>
    if 512 < l.buffer.length + bytes.length then p
    else
      (p.modXu fun x => { x with lane := some { r with moved := r.moved + bytes.length } }).modMxs fun x =>
        { x with load := some (l.feed bytes) }

/-- The transfer moves bytes from the host, and these can be among them (R169). -/
def Running.expects (r : Running) (bytes : List Byte) : Bool :=
  !r.confirming && 0 < bytes.length && r.moved + bytes.length ≤ r.total

/-- HOST_READ_COMPLETION (R169). Bytes that no running read can return are not taken. -/
def Part.hostReadCompletion (bytes : List Byte) (p : Part) : Part :=
  match p.xu.lane with
  | none => p
  | some r =>
    if r.expects bytes then
      match r.bulk.op with
      | .loadMatrix _ _ _ _ _ => p.takeMatrixBytes r bytes
      | .loadReference _ | .loadSensors _ | .loadLimits _ | .loadPairs _ | .applyShape _ => p.takeEntries r bytes
      | .readBank _ _ _ | .readTable _ _ | .copySnapshot => p
    else p

/-- HOST_READ_COMPLETION (R169). -/
def execHostReadCompletion (bytes : List Byte) (s : State) : Host.Outcome State Fault Refusal :=
  .next { s with part := s.part.hostReadCompletion bytes }

/-! ## Loader bursts (R79, R80) -/

/-- The matrix load ends: the running sum is compared with the check word (R80). -/
def Part.endMatrix (r : Running) (l : MatrixLoad) (p : Part) : Part :=
  let ok := l.sum = (p.mxs.banks.get l.bank).check
  let q := (p.modBank l.bank fun x => { x with state := if ok then .ready else .empty }).modMxs fun x =>
    { x with load := none }
  q.endLane r { (if ok then OrderResult.done else OrderResult.failed .checkMismatch) with d1 := l.sum }

/-- The load's write burst has completed: the progress advances, and the last burst ends the load (R79, R80). -/
def Part.loadAdvances (count : Nat) (p : Part) : Part :=
  match p.mxs.load with
  | none => p
  | some l =>
    let l' := { l with written := l.written + count }
    let q := (p.modMxs fun x => { x with load := some l' }).modBank l.bank fun x =>
      { x with progress := l'.written / (2 * x.a) }
    match p.xu.lane with
    | some r => if l'.written = r.total then q.endMatrix r l' else q
    | none => q

/-- LOADER_BURST_COMPLETE: the burst that the store completes next is a write; its bytes are in the store (R79, R81). -/
def Part.loaderBurstComplete (p : Part) : Part :=
  match p.mxs.bursts with
  | .loader offset data live :: _ =>
    let q := (p.modMxs Mxs.dropBurst).modMxs fun x => { x with store := Memory.writeAll x.store offset data }
    if live then q.loadAdvances data.length else q
  | .stream _ _ _ _ _ _ _ :: _ => p
  | .reader _ _ _ :: _ => p
  | [] => p

/-- LOADER_BURST_COMPLETE (R79). -/
def execLoaderBurstComplete (s : State) : Host.Outcome State Fault Refusal :=
  .next { s with part := s.part.loaderBurstComplete }

/-! ## Bytes to the host (R87, R88, R169, R190) -/

/-- Bytes of the image are issued as a write, and the last write is followed by the confirming read (R169). -/
def Part.issueImage (r : Running) (bytes : List Byte) (p : Part) : Part :=
  let r' := { r with moved := r.moved + bytes.length }
  let q := (p.hostWrite (r.bulk.host + BitVec.ofNat 64 r.moved) bytes).modXu fun x => { x with lane := some r' }
  if r'.moved = r'.total then q.confirm r' else q

/-- The bytes of a store read (R87). -/
def Part.storeBytes (p : Part) (offset count : Nat) : List Byte :=
  (List.range count).map fun k => p.storeByte (offset + k)

/-- READER_BURST_COMPLETE: the burst that the store completes next is a readback read; its bytes go to the host, unless the
readback has ended (R87). -/
def Part.readerBurstComplete (p : Part) : Part :=
  match p.mxs.bursts with
  | .reader offset count dropped :: _ =>
    let q := p.modMxs Mxs.dropBurst
    if dropped then q
    else
      match q.xu.lane with
      | some r => q.issueImage r (q.storeBytes offset count)
      | none => q
  | .stream _ _ _ _ _ _ _ :: _ => p
  | .loader _ _ _ :: _ => p
  | [] => p

/-- READER_BURST_COMPLETE (R87). -/
def execReaderBurstComplete (s : State) : Host.Outcome State Fault Refusal :=
  .next { s with part := s.part.readerBurstComplete }

/-- The next bytes of a table readback or a snapshot copy, as they stand; none for another transfer (R88, R190). -/
def Part.nextImageBytes (p : Part) (r : Running) (length : Nat) : Option (List Byte) :=
  match r.bulk.op with
  | .readTable _ _ => some ((p.mxs.tableImage.drop r.moved).take length)
  | .copySnapshot => some (p.sns.imageBytes r.moved length)
  | .loadMatrix _ _ _ _ _ | .loadReference _ | .loadSensors _ | .loadLimits _ | .loadPairs _ | .applyShape _
  | .readBank _ _ _ => none

/-- HOST_WRITE_REQUEST (R169). A length that the running transfer has not left to issue does nothing. -/
def Part.hostWriteRequest (length : Nat) (p : Part) : Part :=
  match p.xu.lane with
  | none => p
  | some r =>
    if r.confirming || length = 0 || r.total < r.moved + length then p
    else
      match p.nextImageBytes r length with
      | none => p
      | some bytes => p.issueImage r bytes

/-- HOST_WRITE_REQUEST (R169). -/
def execHostWriteRequest (length : Nat) (s : State) : Host.Outcome State Fault Refusal :=
  .next { s with part := s.part.hostWriteRequest length }

/-! ## The confirming read (R87, R88, R169, R192) -/

/-- A snapshot copy ends: the store is emptied, or kept with the RENEWED note (R192). -/
def Part.endCopy (r : Running) (p : Part) : Part :=
  let res := { OrderResult.done with renewed := p.sns.renewed, d1 := p.sns.frame.setWidth 32 }
  (p.modSns fun x =>
    { x with
      copying := false
      renewed := false
      filled := x.renewed
      overwritten := if x.renewed then x.overwritten else 0 }).endLane r res

/-- The first detail word of a table readback: the image size, or the number of pairs (R88). -/
def tableDetail (t : TableSource) (total : Nat) : Nat :=
  match t with
  | .pairs => total / 6
  | .reference | .sensors | .limits => total

/-- The transfer to the host ends (R87, R88, R192). -/
def Part.endToHost (r : Running) (p : Part) : Part :=
  match r.bulk.op with
  | .readBank _ _ _ =>
    (p.modMxs fun x => { x with readback := none }).endLane r { OrderResult.done with d1 := BitVec.ofNat 32 r.total }
  | .readTable t _ =>
    (p.modMxs fun x => { x with tableImage := [] }).endLane r
      { OrderResult.done with d1 := BitVec.ofNat 32 (tableDetail t r.total) }
  | .copySnapshot => p.endCopy r
  | .loadMatrix _ _ _ _ _ | .loadReference _ | .loadSensors _ | .loadLimits _ | .loadPairs _ | .applyShape _ => p

/-- CONFIRMING_READ_COMPLETION (R169). With no confirming read on its way, nothing happens. -/
def Part.confirmingReadCompletion (p : Part) : Part :=
  match p.xu.lane with
  | none => p
  | some r => if r.confirming then p.endToHost r else p

/-- CONFIRMING_READ_COMPLETION (R169). -/
def execConfirmingReadCompletion (s : State) : Host.Outcome State Fault Refusal :=
  .next { s with part := s.part.confirmingReadCompletion }

/-! ## ABORT_TRANSFER (R171) -/

/-- ABORT_TRANSFER (R171): the next head starts in the same step, before the order's own result (DESIGN CHOICE, log entry 37). -/
def Part.abortTransfer (matchFlag ticket : Byte) (p : Part) : OrderResult × Part :=
  match flagOf matchFlag with
  | none => (.failed .badParameter, p)
  | some onlyTicket =>
    match p.xu.lane with
    | none => (.failed .noTransfer, p)
    | some r =>
      if onlyTicket && r.bulk.order.ticket ≠ ticket then (.failed .noTransfer, p)
      else ({ OrderResult.done with d1 := r.bulk.order.ticket.setWidth 32 }, (p.endEarly r .aborted).startQueue)

/-- The running transfer has a read of host memory on its way (R170). -/
def Running.reading (r : Running) : Bool :=
  r.confirming ||
    match r.bulk.op with
    | .readBank _ _ _ | .readTable _ _ | .copySnapshot => false
    | .loadMatrix _ _ _ _ _ | .loadReference _ | .loadSensors _ | .loadLimits _ | .loadPairs _ | .applyShape _ =>
      r.moved < r.total

end Sys2Proof.Machine
end

