-- ==== Sys2Proof/Machine/Exchange.lean ====
section
/-! DEFINITION. The Exchange Unit (chapter 8): taking orders, sweeps, the status block, windows and the sweep period; with the
commands SWEEP_TIMER_EXPIRY, SWEEP_READ_COMPLETION and HOST_ACCESS_FAILURE, and one command for each order. -/

namespace Sys2Proof.Machine

/-! ## SET_WINDOW and SET_EXCHANGE (R167, R174) -/

/-- A structural value of SET_WINDOW, its index and enable apart, is out of range (R167). -/
def badWindow (q : WindowOrderParams) : Bool :=
  q.partBase.toNat % 4096 ≠ 0 || q.hostAddr.toNat % 4096 ≠ 0 || !isPowerIn 12 34 q.size.toNat
    || 2 ^ 64 < q.partBase.toNat + q.size.toNat || 2 ^ 64 < q.hostAddr.toNat + q.size.toNat

/-- The transfer lane or the transfer queue holds an order (R167). -/
def Xu.laneBusy (x : Xu) : Bool := x.lane.isSome || !x.queue.isEmpty

/-- SET_WINDOW (R167). -/
def Part.setWindow (q : WindowOrderParams) (p : Part) : OrderResult × Part :=
  match indexOf 4 q.index, flagOf q.enable with
  | some i, some enable =>
    if badWindow q then (.failed .badParameter, p)
    else if p.xu.laneBusy then (.failed .busy, p)
    else (.done, p.modXu fun x => { x with windows := x.windows.set i ⟨enable, q.partBase, q.size, q.hostAddr⟩ })
  | _, _ => (.failed .badParameter, p)

/-- SET_EXCHANGE (R174). -/
def Part.setExchange (periodUs : BitVec 16) (p : Part) : OrderResult × Part :=
  (.adjustedDone (outside 10 1000 periodUs.toNat), p.modXu fun x => { x with periodUs := clampTo 10 1000 periodUs.toNat })

/-! ## Taking an order (R158 to R160) -/

/-- An order that has its result finishes with it in the step that takes it (R159). -/
def Part.finishWith (ref : OrderRef) (x : OrderResult × Part) : Part := x.2.finish ref x.1

/-- An order that may stay TAKEN finishes only where it has its result (R82, R145, R159). -/
def Part.finishIf (ref : OrderRef) (x : Option OrderResult × Part) : Part :=
  match x.1 with
  | some r => x.2.finish ref r
  | none => x.2

/-- A bulk order that passed its checks joins the tail of the transfer queue; with an empty lane the head starts at once (R160,
R168). -/
def Part.enqueueBulk (ref : OrderRef) (t : Taken) (length : Nat) (p : Part) : Part :=
  let q := p.modXu fun x => { x with queue := x.queue ++ [⟨ref, t.op, t.host, length⟩] }
  if p.xu.lane.isNone then q.startQueue else q

/-- A bulk order is checked, and queued or refused (R160). -/
def Part.takeBulk (o : Order) (ref : OrderRef) (x : Except Reason Taken) (p : Part) : Part :=
  match x with
  | .error r => p.refuse o r ref
  | .ok t => p.enqueueBulk ref t ((bufferLength o).getD 0)

/-- What an order does when it is taken (R159, R160). -/
def Part.carryOut (o : Order) (ref : OrderRef) (p : Part) : Part :=
  match o with
  | .setGeometry q => Part.finishWith ref (p.setGeometry q)
  | .setSensor q => Part.finishWith ref (p.setSensor q)
  | .setLoop q => Part.finishWith ref (p.setLoopOrder q)
  | .setGains q => Part.finishWith ref (p.setGains q)
  | .setMirror q => Part.finishWith ref (p.setMirror q)
  | .loopOpen => Part.finishWith ref p.loopOpenOrder
  | .loopClose ramp => Part.finishWith ref (p.loopCloseOrder ramp)
  | .loopStop => Part.finishWith ref p.loopStopOrder
  | .resume => Part.finishWith ref p.resumeOrder
  | .flatten => Part.finishWith ref p.flattenOrder
  | .mirrorReset mirror => Part.finishWith ref (p.mirrorReset mirror)
  | .mirrorProbe mirror => Part.finishIf ref (p.mirrorProbe mirror ref)
  | .swapMatrix target => Part.finishIf ref (p.swapMatrix target ref)
  | .setStore pairMode => Part.finishWith ref (p.setStore pairMode)
  | .setWindow q => Part.finishWith ref (p.setWindow q)
  | .setExchange periodUs => Part.finishWith ref (p.setExchange periodUs)
  | .abortTransfer matchFlag ticket => Part.finishWith ref (p.abortTransfer matchFlag ticket)
  | .setTelemetry ring capacity => Part.finishWith ref (p.setTelemetry ring capacity)
  | .capture => Part.finishWith ref p.captureOrder
  | .setPacer q => Part.finishWith ref (p.setPacer q)
  | .setLines q => Part.finishWith ref (p.setLines q)
  | .loadMatrix q => p.takeBulk o ref (p.takeLoadMatrix q)
  | .readBack q => p.takeBulk o ref (p.takeReadBack q)
  | .loadTable q => p.takeBulk o ref (p.takeLoadTable q)
  | .applyShape q => p.takeBulk o ref (p.takeApplyShape q)
  | .copySnapshot dest => p.takeBulk o ref (p.takeCopySnapshot dest)
  | .unknownKind _ => p.finish ref (.failed .badKind)

/-- The order is a bulk order. -/
def isBulk : Order → Bool
  | .loadMatrix _ | .readBack _ | .loadTable _ | .applyShape _ | .copySnapshot _ => true
  | .setGeometry _ | .setSensor _ | .setLoop _ | .setGains _ | .setMirror _ | .loopOpen | .loopClose _ | .loopStop
  | .resume | .flatten | .mirrorReset _ | .mirrorProbe _ | .swapMatrix _ | .setStore _ | .setWindow _ | .setExchange _
  | .abortTransfer _ _ | .setTelemetry _ _ | .capture | .setPacer _ | .setLines _ | .unknownKind _ => false

/-- The lane and all four queue places are occupied (R158). -/
def Xu.laneFull (x : Xu) : Bool := x.lane.isSome && 4 ≤ x.queue.length

/-- An order is taken: TAKEN is written, the next ticket advances, and the order is carried out (R158). -/
def Part.takeOrder (o : Order) (ref : OrderRef) (p : Part) : Part :=
  ((p.writeTaken ref.slot).modXu fun x => { x with nextTicket := x.nextTicket + 1 }).carryOut o ref

/-- Why a step does not take an order from a slot: the exchange is stopped, the slot is in flight, or a bulk order finds the lane
and the queue full (R155, R158). -/
def Part.cannotTake (p : Part) (o : Order) (slot : Fin 32) : Bool :=
  !p.xu.exchEn || p.slotInFlight slot || (isBulk o && p.xu.laneFull)

/-- The order that stands in a slot with the next ticket, as the in-flight record names it. -/
def Part.orderRef (p : Part) (h : OrderHead) (o : Order) : OrderRef := ⟨h.slot, p.xu.nextTicket, orderCode o, h.notify⟩

/-- An order's own command: the Exchange Unit takes it from its slot, with the next ticket (R158; log entry 13). Where it cannot
be taken, nothing happens. -/
def Part.orderCommand (h : OrderHead) (o : Order) (p : Part) : Part :=
  if p.cannotTake o h.slot then p else p.takeOrder o (p.orderRef h o)

/-! ## The sweep (R156 to R162) -/

/-- The sweep timer starts (R156). -/
def Part.startSweepTimer (p : Part) : Part :=
  p.modXu fun x => { x with sweepTimer := some (later p.now x.periodUs) }

/-- The status block is gathered and written, the summary first (R161, R162, section 11.5). -/
def Part.writeStatus (p : Part) : Part :=
  (p.hostWrite p.area p.summaryBytes).hostWrite (p.area + 0x200) p.counterBytes

/-- A sweep is abandoned at a host access failure (R157). -/
def Part.abandonSweep (p : Part) : Part :=
  ((p.modXu fun x => { x with sweeping := false }).countHostFailure).startSweepTimer

/-- The two reads of a sweep are issued; while memory requests are disabled they fail at once (R153, R157). -/
def Part.sweepReads (p : Part) : Part :=
  if p.xu.memRequests then (p.hostRead (p.area + 0x100) 4).hostRead (p.area + 0x1000) 4096 else p.abandonSweep

/-- SWEEP_TIMER_EXPIRY: a sweep begins (R156, R157). Where the timer is not running, nothing happens. -/
def Part.sweepTimerExpiry (p : Part) : Part :=
  match p.xu.sweepTimer with
  | none => p
  | some t => ((p.advanceTo t).modXu fun x => { x with sweepTimer := none, sweeping := true }).sweepReads

/-- SWEEP_TIMER_EXPIRY (R156). -/
def execSweepTimerExpiry (s : State) : Host.Outcome State Fault Refusal :=
  .next { s with part := s.part.sweepTimerExpiry }

/-- A consumed count is accepted when it lies within the capacity behind the written count (R183). -/
def Part.acceptConsumed (v : BitVec 32) (p : Part) : Part :=
  p.modTel fun t => if (t.written - v).toNat ≤ t.capacity then { t with consumed := v } else t

/-- The reference of a posted order. -/
def refOf (x : PostedSlot) : OrderRef := ⟨x.slot, x.ticket, orderCode x.order, x.notify⟩

/-- A slot loses a duplicate ticket (R158). -/
def Part.loseDuplicate (x : PostedSlot) (p : Part) : Part := p.refuse x.order .duplicateTicket (refOf x)

/-- Taking, from the eligible slots in slot order (R158); n bounds the number of orders taken. Several losers of one ticket have their
results in rising slot order (DESIGN CHOICE, log entry 37). -/
def Part.takeOrders : Nat → List PostedSlot → Part → Part
  | 0, _, p => p
  | n + 1, eligible, p =>
    match eligible.filter fun x => x.ticket = p.xu.nextTicket with
    | [] => p
    | x :: losers =>
      let q := losers.foldl (fun y l => y.loseDuplicate l) p
      if isBulk x.order && q.xu.laneFull then q
      else Part.takeOrders n (eligible.filter fun y => y.ticket ≠ x.ticket) (q.takeOrder x.order (refOf x))

/-- The POSTED slots of a sweep's read that are not in flight (R155, R158). -/
def Part.eligibleSlots (p : Part) (slots : List (List Byte)) : List PostedSlot :=
  (postedSlots slots).filter fun x => !p.slotInFlight x.slot

/-- The sweep ends: the count rises, the status block is written, and the timer starts (R156, R161). -/
def Part.endSweep (p : Part) : Part :=
  (((p.modXu fun x => { x with sweepCount := x.sweepCount + 1 }).writeStatus).modXu fun x =>
    { x with sweeping := false }).startSweepTimer

/-- SWEEP_READ_COMPLETION: the consumed count is judged, orders are taken, and the status block is written (R157 to R161, R183).
While no sweep is running, nothing happens. -/
def Part.sweepReadCompletion (consumed : BitVec 32) (slots : List (List Byte)) (p : Part) : Part :=
  if p.xu.sweeping then
    let q := p.acceptConsumed consumed
    (Part.takeOrders 32 (q.eligibleSlots slots) q).endSweep
  else p

/-- SWEEP_READ_COMPLETION (R157). -/
def execSweepReadCompletion (consumed : BitVec 32) (slots : List (List Byte)) (s : State) :
    Host.Outcome State Fault Refusal :=
  .next { s with part := s.part.sweepReadCompletion consumed slots }

/-- HOST_ACCESS_FAILURE: it ends the running transfer, or abandons the sweep (R157, R170). Where no such read is on its way,
nothing happens. -/
def Part.hostAccessFailure (read : FailedRead) (p : Part) : Part :=
  match read with
  | .sweepRead => if p.xu.sweeping then p.abandonSweep else p
  | .transferRead =>
    match p.xu.lane with
    | some r => if r.reading then p.failTransfer r else p
    | none => p

/-- HOST_ACCESS_FAILURE (R170). -/
def execHostAccessFailure (read : FailedRead) (s : State) : Host.Outcome State Fault Refusal :=
  .next { s with part := s.part.hostAccessFailure read }

/-! ## The orders as commands -/

/-- SET_GEOMETRY (R21, R84). -/
def execSetGeometry (h : OrderHead) (q : GeometryParams) (s : State) : Host.Outcome State Fault Refusal :=
  .next { s with part := s.part.orderCommand h (.setGeometry q) }

/-- SET_SENSOR (R16, R17, R18, R45). -/
def execSetSensor (h : OrderHead) (q : SensorOrderParams) (s : State) : Host.Outcome State Fault Refusal :=
  .next { s with part := s.part.orderCommand h (.setSensor q) }

/-- SET_LOOP (R39, R124). -/
def execSetLoop (h : OrderHead) (q : LoopOrderParams) (s : State) : Host.Outcome State Fault Refusal :=
  .next { s with part := s.part.orderCommand h (.setLoop q) }

/-- SET_GAINS (R108). -/
def execSetGains (h : OrderHead) (q : GainsOrderParams) (s : State) : Host.Outcome State Fault Refusal :=
  .next { s with part := s.part.orderCommand h (.setGains q) }

/-- SET_MIRROR (R131, R132). -/
def execSetMirror (h : OrderHead) (q : MirrorOrderParams) (s : State) : Host.Outcome State Fault Refusal :=
  .next { s with part := s.part.orderCommand h (.setMirror q) }

/-- LOOP_OPEN (R95, R96). -/
def execLoopOpen (h : OrderHead) (s : State) : Host.Outcome State Fault Refusal :=
  .next { s with part := s.part.orderCommand h .loopOpen }

/-- LOOP_CLOSE (R97). -/
def execLoopClose (h : OrderHead) (ramp : BitVec 16) (s : State) : Host.Outcome State Fault Refusal :=
  .next { s with part := s.part.orderCommand h (.loopClose ramp) }

/-- LOOP_STOP (R98). -/
def execLoopStop (h : OrderHead) (s : State) : Host.Outcome State Fault Refusal :=
  .next { s with part := s.part.orderCommand h .loopStop }

/-- RESUME (R101). -/
def execResume (h : OrderHead) (s : State) : Host.Outcome State Fault Refusal :=
  .next { s with part := s.part.orderCommand h .resume }

/-- FLATTEN (R121). -/
def execFlatten (h : OrderHead) (s : State) : Host.Outcome State Fault Refusal :=
  .next { s with part := s.part.orderCommand h .flatten }

/-- MIRROR_RESET (R144). -/
def execMirrorReset (h : OrderHead) (mirror : Byte) (s : State) : Host.Outcome State Fault Refusal :=
  .next { s with part := s.part.orderCommand h (.mirrorReset mirror) }

/-- MIRROR_PROBE (R145, R146). -/
def execMirrorProbe (h : OrderHead) (mirror : Byte) (s : State) : Host.Outcome State Fault Refusal :=
  .next { s with part := s.part.orderCommand h (.mirrorProbe mirror) }

/-- SWAP_MATRIX (R82, R83). -/
def execSwapMatrix (h : OrderHead) (target : Byte) (s : State) : Host.Outcome State Fault Refusal :=
  .next { s with part := s.part.orderCommand h (.swapMatrix target) }

/-- SET_STORE (R91). -/
def execSetStore (h : OrderHead) (pairMode : Byte) (s : State) : Host.Outcome State Fault Refusal :=
  .next { s with part := s.part.orderCommand h (.setStore pairMode) }

/-- SET_WINDOW (R167). -/
def execSetWindow (h : OrderHead) (q : WindowOrderParams) (s : State) : Host.Outcome State Fault Refusal :=
  .next { s with part := s.part.orderCommand h (.setWindow q) }

/-- SET_EXCHANGE (R174). -/
def execSetExchange (h : OrderHead) (periodUs : BitVec 16) (s : State) : Host.Outcome State Fault Refusal :=
  .next { s with part := s.part.orderCommand h (.setExchange periodUs) }

/-- ABORT_TRANSFER (R171). -/
def execAbortTransfer (h : OrderHead) (matchFlag ticket : Byte) (s : State) : Host.Outcome State Fault Refusal :=
  .next { s with part := s.part.orderCommand h (.abortTransfer matchFlag ticket) }

/-- SET_TELEMETRY (R177). -/
def execSetTelemetry (h : OrderHead) (ring : BitVec 64) (capacity : BitVec 32) (s : State) :
    Host.Outcome State Fault Refusal :=
  .next { s with part := s.part.orderCommand h (.setTelemetry ring capacity) }

/-- CAPTURE (R187). -/
def execCapture (h : OrderHead) (s : State) : Host.Outcome State Fault Refusal :=
  .next { s with part := s.part.orderCommand h .capture }

/-- SET_PACER (R197, R199). -/
def execSetPacer (h : OrderHead) (q : PacerOrderParams) (s : State) : Host.Outcome State Fault Refusal :=
  .next { s with part := s.part.orderCommand h (.setPacer q) }

/-- SET_LINES (R201). -/
def execSetLines (h : OrderHead) (q : LinesOrderParams) (s : State) : Host.Outcome State Fault Refusal :=
  .next { s with part := s.part.orderCommand h (.setLines q) }

/-- LOAD_MATRIX (R77). -/
def execLoadMatrix (h : OrderHead) (q : MatrixOrderParams) (s : State) : Host.Outcome State Fault Refusal :=
  .next { s with part := s.part.orderCommand h (.loadMatrix q) }

/-- READ_BACK (R86). -/
def execReadBack (h : OrderHead) (q : ReadBackParams) (s : State) : Host.Outcome State Fault Refusal :=
  .next { s with part := s.part.orderCommand h (.readBack q) }

/-- LOAD_TABLE (R46, R106, R107). -/
def execLoadTable (h : OrderHead) (q : TableOrderParams) (s : State) : Host.Outcome State Fault Refusal :=
  .next { s with part := s.part.orderCommand h (.loadTable q) }

/-- APPLY_SHAPE (R122). -/
def execApplyShape (h : OrderHead) (q : ShapeOrderParams) (s : State) : Host.Outcome State Fault Refusal :=
  .next { s with part := s.part.orderCommand h (.applyShape q) }

/-- COPY_SNAPSHOT (R190). -/
def execCopySnapshot (h : OrderHead) (dest : BitVec 64) (s : State) : Host.Outcome State Fault Refusal :=
  .next { s with part := s.part.orderCommand h (.copySnapshot dest) }

end Sys2Proof.Machine
end

