-- ==== Sys2Proof/Machine/Resets.lean ====
section
/-! DEFINITION. The registers (section 8.1) and the resets: starting and stopping the exchange, power-on and part reset; with
the commands POWER_ON, PART_RESET, FUNCTION_LEVEL_RESET, EXCH_EN_START, EXCH_EN_STOP, EXCH_BASE_LO_WRITE, EXCH_BASE_HI_WRITE,
EVENTS_WRITE, EVENT_MASK_WRITE, TIME_LO_READ and REGISTER_WRITE_IGNORED. -/

namespace Sys2Proof.Machine

/-! ## Stopping and starting the exchange (R172, R173) -/

/-- The running transfer ends EXCHANGE_STOPPED (R172, step 2). -/
def Part.stopLane (p : Part) : Part :=
  match p.xu.lane with
  | none => p
  | some r => p.endEarly r .exchangeStopped

/-- A queued order finishes EXCHANGE_STOPPED, with its buffer length as bytes remaining (R172, step 3). -/
def Part.stopQueued (b : Bulk) (p : Part) : Part :=
  p.finish b.order ((OrderResult.failed .exchangeStopped).remaining b.length)

/-- Every queued order finishes EXCHANGE_STOPPED, in queue order (R172, step 3). -/
def Part.stopQueue (p : Part) : Part :=
  p.xu.queue.foldl (fun q b => q.stopQueued b) (p.modXu fun x => { x with queue := [] })

/-- Pending probes end EXCHANGE_STOPPED (R146, R172, step 4). With one on each link, that of link 0 has its result first (DESIGN
CHOICE, log entry 37). -/
def Part.stopProbes (p : Part) : Part :=
  (p.endProbe 0 (.failed .exchangeStopped)).endProbe 1 (.failed .exchangeStopped)

/-- The exchange stops, in the steps of R172: the sweep ends, the running transfer, the queued orders, the pending swap and the
probes finish EXCHANGE_STOPPED, the swap before the probes (DESIGN CHOICE, log entry 37), and a final status block is written. -/
def Part.stopExchange (p : Part) : Part :=
  (((((((p.modXu fun x => { x with sweeping := false }).stopLane).stopQueue).cancelSwap .exchangeStopped).stopProbes).writeStatus).modXu
    fun x => { x with exchEn := false, sweepTimer := none })

/-- The exchange starts (R173). -/
def Part.startExchange (p : Part) : Part :=
  ((p.modXu fun x => { x with exchEn := true, nextTicket := 0 }).modTel fun t =>
    { t with written := 0, dropped := 0, consumed := 0 }).startSweepTimer

/-! ## Part reset (R20, R43, R59, R74, R93, R126, R149, R176, R185, R194, R208) -/

/-- A sensor link after a part reset (R20). -/
def SensorLink.reset (l : SensorLink) : SensorLink :=
  { l with
    state := if l.enable then .acquiring else .off
    lastFrame := none
    quietTimer := none
    fifo := []
    counters := .zero }

/-- A slot after a part reset: FREE, its fields cleared (R43; log entry 26). -/
def Fra.reset (f : Fra) : Fra :=
  { f with
    slots := .both .cleared
    queue := []
    rr := 3
    highest := none
    abandons := 0
    gapTimer := none
    lastSealed := none }

/-- The SCN after a part reset: the kept values stay, with every age 255 (R59). -/
def Scn.reset (c : Scn) : Scn :=
  { c with
    load := none
    kept := Sparse.setAll .powerOn c.kept (c.kept.map Prod.fst) fun j => { Sparse.get .powerOn c.kept j with age := 255 }
    records := .both .cleared
    job := none
    substDue := none }

/-- A bank record after a part reset (R93). -/
def BankRecord.reset (b : BankRecord) : BankRecord := if b.state = .loading then { b with state := .empty } else b

/-- The MXS after a part reset, its granted bursts apart (R93). -/
def Mxs.reset (x : Mxs) : Mxs :=
  { x with
    banks := x.banks.map BankRecord.reset
    pendingSwap := none
    pairNext := false
    rotation := rotationPowerOn
    bursts := []
    load := none
    readback := none
    tableImage := [] }

/-- The LPC after a part reset (R126). -/
def Lpc.reset (l : Lpc) : Lpc :=
  { l.flattened with
    loop := .stopped
    causes := .empty
    firstCause := none
    rampCount := 0
    divCount := 0
    update := none
    shape := []
    load := none }

/-- A mirror link after a part reset (R149). -/
def MirrorLink.reset (l : MirrorLink) : MirrorLink :=
  { l.quieted with
    state := if l.enable then .idle else .off
    nextSeq := 0
    probe := none
    tx := []
    counters := .zero }

/-- The XU after a part reset (R176). -/
def Xu.reset (x : Xu) : Xu :=
  { x with
    exchEn := false
    sweepTimer := none
    sweeping := false
    nextTicket := 0
    lane := none
    queue := []
    sweepCount := 0
    hostFailures := 0 }

/-- The telemetry ring after a part reset (R185). -/
def Tel.reset (t : Tel) : Tel := { t with written := 0, consumed := 0, dropped := 0, droppedSince := 0, queue := [] }

/-- The SNS after a part reset (R194). -/
def Sns.reset (x : Sns) : Sns :=
  { x with filled := false, capturePending := false, copying := false, renewed := false, overwritten := 0 }

/-- The TLU after a part reset (R208). -/
def Tlu.reset (l : Tlu) : Tlu :=
  { l with
    pacer := l.pacer.stopped
    blockedSnaps := 0
    qualifiedSnaps := 0
    markEdges := 0
    events := 0 }

/-- A granted burst at a part reset: a write completes into the store or is dropped, which R93 leaves open (log entry 6); the
data of a read is dropped. -/
def Part.settleBurst (p : Part) (b : Burst) : Part :=
  match b with
  | .loader offset data _ =>
    let q := p.drawFree
    if Config.resetBurstCompletes p.frees then
      q.modMxs fun x => { x with store := Memory.writeAll x.store offset data }
    else q
  | .stream _ _ _ _ _ _ _ => p
  | .reader _ _ _ => p

/-- The cancelled swap's result is written; no event is raised (R93, R208). -/
def Part.reportSwap (p : Part) : Part :=
  match p.mxs.pendingSwap with
  | none => p
  | some w => p.writeResult w.order (.failed .aborted)

/-- Packets being transmitted are cut off (R149). -/
def Part.cutLinks (p : Part) : Part := (p.cutOff 0).cutOff 1

/-- What a part reset does before the state is set: the cancelled swap's result, the cut packets, the granted bursts. -/
def Part.settle (p : Part) : Part := p.mxs.bursts.foldl Part.settleBurst p.reportSwap.cutLinks

/-- Every block at its part-reset values. -/
def Part.resetBlocks (p : Part) : Part :=
  { p with
    links := p.links.map SensorLink.reset
    fra := p.fra.reset
    scn := p.scn.reset
    rca := .powerOn
    mxs := p.mxs.reset
    lpc := p.lpc.reset
    mlt := p.mlt.map MirrorLink.reset
    xu := p.xu.reset
    tel := p.tel.reset
    sns := p.sns.reset
    tlu := p.tlu.reset }

/-- A part reset (R151 and the reset rules of each chapter). -/
def Part.partReset (p : Part) : Part := p.settle.resetBlocks

/-- Power is applied: every block takes its power-on values; what the part has issued stands, the store's contents are undefined
anew, and the function's configuration is not the part's (log entries 4, 5 and 9). -/
def Part.powerUp (p : Part) : Part :=
  { Part.powerOn with
    mxs := { Mxs.powerOn with epoch := p.mxs.epoch + 1 }
    xu := { Xu.powerOn with memRequests := p.xu.memRequests, msiEnabled := p.xu.msiEnabled }
    issued := p.issued
    frees := p.frees }

/-! ## Register writes (R150 to R152, R205, R206, R213) -/

/-- A write to CONTROL (R151). -/
def Part.controlWrite (exchEn reset : Bool) (p : Part) : Part :=
  if reset then p.partReset
  else if exchEn && !p.xu.exchEn then p.startExchange
  else if !exchEn && p.xu.exchEn then p.stopExchange
  else p

/-- A write to EXCH_BASE_LO, ignored while EXCH_EN is 1 (R152). -/
def Part.baseLoWrite (value : BitVec 32) (p : Part) : Part :=
  if p.xu.exchEn then p
  else p.modXu fun x => { x with base := (x.base &&& 0xFFFFFFFF00000000#64) ||| value.setWidth 64 }

/-- A write to EXCH_BASE_HI, ignored while EXCH_EN is 1 (R152). -/
def Part.baseHiWrite (value : BitVec 32) (p : Part) : Part :=
  if p.xu.exchEn then p
  else p.modXu fun x => { x with base := (x.base &&& 0x00000000FFFFFFFF#64) ||| (value.setWidth 64 <<< 32) }

/-- A whole write of a register, by the register's rule (R150, R213). -/
def Part.wholeWrite (offset : BitVec 12) (value : BitVec 32) (p : Part) : Part :=
  if offset = 0x04 then p.controlWrite (value.getLsbD 0) (value.getLsbD 1)
  else if offset = 0x08 then p.baseLoWrite value
  else if offset = 0x0C then p.baseHiWrite value
  else if offset = 0x10 then p.clearEvents value
  else if offset = 0x14 then p.writeMask value
  else p

/-- A register write; one of fewer than four bytes is ignored (R213). One of more, or across a register boundary, is no command
(DESIGN CHOICE, log entry 39). -/
def Part.registerWrite (offset : BitVec 12) (count : Nat) (value : BitVec 32) (p : Part) : Part :=
  if count < 4 then p else p.wholeWrite offset value

/-- TIME_LO is read: the bytes addressed are returned, and the high half is latched (R196, R213). -/
def Part.timeLoRead (first count : Nat) (p : Part) : Part :=
  (p.issue (.readData (p.readBytes 0x18 first count))).modTlu fun l =>
    { l with latch := (p.now >>> 32).setWidth 32 }

/-! ## The commands -/

/-- POWER_ON (R19, R42, R58, R73, R92, R125, R148, R175, R185, R194, R207). -/
def execPowerOn (s : State) : Host.Outcome State Fault Refusal :=
  .next { s with part := s.part.powerUp }

/-- PART_RESET (R151): the EXCH_EN value of the same write is ignored. -/
def execPartReset (_exchEn : Bool) (s : State) : Host.Outcome State Fault Refusal :=
  .next { s with part := s.part.partReset }

/-- FUNCTION_LEVEL_RESET: it acts as a part reset (R151). -/
def execFunctionLevelReset (s : State) : Host.Outcome State Fault Refusal :=
  .next { s with part := s.part.partReset }

/-- EXCH_EN_START: a CONTROL write of EXCH_EN = 1 (R151, R173). -/
def execExchEnStart (s : State) : Host.Outcome State Fault Refusal :=
  .next { s with part := s.part.controlWrite true false }

/-- EXCH_EN_STOP: a CONTROL write of EXCH_EN = 0 (R151, R172). -/
def execExchEnStop (s : State) : Host.Outcome State Fault Refusal :=
  .next { s with part := s.part.controlWrite false false }

/-- EXCH_BASE_LO_WRITE (R152). -/
def execExchBaseLoWrite (value : BitVec 32) (s : State) : Host.Outcome State Fault Refusal :=
  .next { s with part := s.part.baseLoWrite value }

/-- EXCH_BASE_HI_WRITE (R152). -/
def execExchBaseHiWrite (value : BitVec 32) (s : State) : Host.Outcome State Fault Refusal :=
  .next { s with part := s.part.baseHiWrite value }

/-- EVENTS_WRITE (R205). -/
def execEventsWrite (value : BitVec 32) (s : State) : Host.Outcome State Fault Refusal :=
  .next { s with part := s.part.clearEvents value }

/-- EVENT_MASK_WRITE (R206). -/
def execEventMaskWrite (value : BitVec 32) (s : State) : Host.Outcome State Fault Refusal :=
  .next { s with part := s.part.writeMask value }

/-- TIME_LO_READ (R196, R213). -/
def execTimeLoRead (first count : Nat) (s : State) : Host.Outcome State Fault Refusal :=
  .next { s with part := s.part.timeLoRead first count }

/-- REGISTER_WRITE_IGNORED: the write is taken by its register's rule, which ignores it (R150, R151, R213; log entry 12). -/
def execRegisterWriteIgnored (offset : BitVec 12) (count : Nat) (value : BitVec 32) (s : State) :
    Host.Outcome State Fault Refusal :=
  .next { s with part := s.part.registerWrite offset count value }

end Sys2Proof.Machine
end

