-- ==== Sys2Proof/Machine/Dispatch.lean ====
section
/-! DEFINITION. What a command does to everything but the queue: one arm for each constructor of Instr. -/

namespace Sys2Proof.Machine

/-- The effect of a command, by its row of the opcode table. -/
def exec (i : Instr) (s : State) : Host.Outcome State Fault Refusal :=
  match i with
  | .powerOn => Sys2Proof.Machine.execPowerOn s
  | .partReset exchEn => Sys2Proof.Machine.execPartReset exchEn s
  | .functionLevelReset => Sys2Proof.Machine.execFunctionLevelReset s
  | .exchEnStart => Sys2Proof.Machine.execExchEnStart s
  | .exchEnStop => Sys2Proof.Machine.execExchEnStop s
  | .exchBaseLoWrite value => Sys2Proof.Machine.execExchBaseLoWrite value s
  | .exchBaseHiWrite value => Sys2Proof.Machine.execExchBaseHiWrite value s
  | .eventsWrite value => Sys2Proof.Machine.execEventsWrite value s
  | .eventMaskWrite value => Sys2Proof.Machine.execEventMaskWrite value s
  | .timeLoRead first count => Sys2Proof.Machine.execTimeLoRead first count s
  | .registerWriteIgnored offset count value => Sys2Proof.Machine.execRegisterWriteIgnored offset count value s
  | .segmentArrival link early packet => Sys2Proof.Machine.execSegmentArrival link early packet s
  | .quietTimerExpiry link => Sys2Proof.Machine.execQuietTimerExpiry link s
  | .admitSegment => Sys2Proof.Machine.execAdmitSegment s
  | .deadlineExpiry slot => Sys2Proof.Machine.execDeadlineExpiry slot s
  | .processEntry => Sys2Proof.Machine.execProcessEntry s
  | .handOnValue => Sys2Proof.Machine.execHandOnValue s
  | .arbiterGrant => Sys2Proof.Machine.execArbiterGrant s
  | .columnBurstArrival => Sys2Proof.Machine.execColumnBurstArrival s
  | .sealDecision => Sys2Proof.Machine.execSealDecision s
  | .substitutionEnd => Sys2Proof.Machine.execSubstitutionEnd s
  | .extractionEnd => Sys2Proof.Machine.execExtractionEnd s
  | .frameGapExpiry => Sys2Proof.Machine.execFrameGapExpiry s
  | .updateBegin => Sys2Proof.Machine.execUpdateBegin s
  | .sendPoint => Sys2Proof.Machine.execSendPoint s
  | .mirrorPacketArrival mirror early packet => Sys2Proof.Machine.execMirrorPacketArrival mirror early packet s
  | .packetTransmitEnd mirror => Sys2Proof.Machine.execPacketTransmitEnd mirror s
  | .receiptTimerExpiry mirror => Sys2Proof.Machine.execReceiptTimerExpiry mirror s
  | .sweepTimerExpiry => Sys2Proof.Machine.execSweepTimerExpiry s
  | .sweepReadCompletion consumed slots => Sys2Proof.Machine.execSweepReadCompletion consumed slots s
  | .hostAccessFailure read => Sys2Proof.Machine.execHostAccessFailure read s
  | .transferStart => Sys2Proof.Machine.execTransferStart s
  | .hostReadCompletion bytes => Sys2Proof.Machine.execHostReadCompletion bytes s
  | .loaderBurstComplete => Sys2Proof.Machine.execLoaderBurstComplete s
  | .readerBurstComplete => Sys2Proof.Machine.execReaderBurstComplete s
  | .confirmingReadCompletion => Sys2Proof.Machine.execConfirmingReadCompletion s
  | .setGeometry h p => Sys2Proof.Machine.execSetGeometry h p s
  | .setSensor h p => Sys2Proof.Machine.execSetSensor h p s
  | .setLoop h p => Sys2Proof.Machine.execSetLoop h p s
  | .setGains h p => Sys2Proof.Machine.execSetGains h p s
  | .setMirror h p => Sys2Proof.Machine.execSetMirror h p s
  | .loopOpen h => Sys2Proof.Machine.execLoopOpen h s
  | .loopClose h ramp => Sys2Proof.Machine.execLoopClose h ramp s
  | .loopStop h => Sys2Proof.Machine.execLoopStop h s
  | .resume h => Sys2Proof.Machine.execResume h s
  | .flatten h => Sys2Proof.Machine.execFlatten h s
  | .mirrorReset h mirror => Sys2Proof.Machine.execMirrorReset h mirror s
  | .mirrorProbe h mirror => Sys2Proof.Machine.execMirrorProbe h mirror s
  | .swapMatrix h target => Sys2Proof.Machine.execSwapMatrix h target s
  | .setStore h pairMode => Sys2Proof.Machine.execSetStore h pairMode s
  | .setWindow h p => Sys2Proof.Machine.execSetWindow h p s
  | .setExchange h periodUs => Sys2Proof.Machine.execSetExchange h periodUs s
  | .abortTransfer h matchFlag ticket => Sys2Proof.Machine.execAbortTransfer h matchFlag ticket s
  | .setTelemetry h ring capacity => Sys2Proof.Machine.execSetTelemetry h ring capacity s
  | .capture h => Sys2Proof.Machine.execCapture h s
  | .setPacer h p => Sys2Proof.Machine.execSetPacer h p s
  | .setLines h p => Sys2Proof.Machine.execSetLines h p s
  | .loadMatrix h p => Sys2Proof.Machine.execLoadMatrix h p s
  | .readBack h p => Sys2Proof.Machine.execReadBack h p s
  | .loadTable h p => Sys2Proof.Machine.execLoadTable h p s
  | .applyShape h p => Sys2Proof.Machine.execApplyShape h p s
  | .copySnapshot h dest => Sys2Proof.Machine.execCopySnapshot h dest s
  | .interlockEdge => Sys2Proof.Machine.execInterlockEdge s
  | .snapEdge => Sys2Proof.Machine.execSnapEdge s
  | .markEdge => Sys2Proof.Machine.execMarkEdge s
  | .periodStart => Sys2Proof.Machine.execPeriodStart s
  | .pulseEnd => Sys2Proof.Machine.execPulseEnd s
  | .lineSample interlock snap mark => Sys2Proof.Machine.execLineSample interlock snap mark s
  | .hostWriteRequest length => Sys2Proof.Machine.execHostWriteRequest length s

end Sys2Proof.Machine
end

