-- ==== Sys2Proof/Machine/Step.lean ====
section
/-! DEFINITION. One step of the block: the command at the front of the queue, or, on an empty queue, one microsecond. -/

namespace Sys2Proof.Machine

/-- The command at the front of the queue is taken, and runs with the queue's rest. On an empty queue the block idles for one
microsecond (R195; DESIGN CHOICE, log entry 11). -/
def step (s : State) : Host.Outcome State Fault Refusal :=
  match s.pending with
  | [] => .next { s with part := s.part.tick }
  | i :: rest => exec i { s with pending := rest }

/-- The state with the command that a word spells at the front of its queue: the opcode table gives no bits, so no word spells
one, and the state is unchanged. -/
def State.withFetchWord (s : State) (nbits w : Nat) : State :=
  match decodeTableWord nbits w with
  | none => s
  | some i => { s with pending := i :: s.pending }

end Sys2Proof.Machine
end

