-- ==== Sys2Proof/Safety.lean ====
section
/-! DEFINITION. What a safe state is: the laws that the manual states of the part, each as a predicate; and the terms in which
statements say what a command leaves unchanged. -/

namespace Sys2Proof.Machine

/-! ## Frames -/

/-- The blocks of the part, and what the model keeps beside them. -/
inductive Block where
  | geo
  | links
  | fra
  | scn
  | rca
  | mxs
  | lpc
  | mlt
  | xu
  | tel
  | sns
  | tlu
  | issued
  | frees
deriving DecidableEq, Repr

/-- Two parts are equal in a block. -/
def Part.agrees (p q : Part) (b : Block) : Prop :=
  match b with
  | .geo => p.geo = q.geo
  | .links => p.links = q.links
  | .fra => p.fra = q.fra
  | .scn => p.scn = q.scn
  | .rca => p.rca = q.rca
  | .mxs => p.mxs = q.mxs
  | .lpc => p.lpc = q.lpc
  | .mlt => p.mlt = q.mlt
  | .xu => p.xu = q.xu
  | .tel => p.tel = q.tel
  | .sns => p.sns = q.sns
  | .tlu => p.tlu = q.tlu
  | .issued => p.issued = q.issued
  | .frees => p.frees = q.frees

/-- Two parts are equal in every block but those listed. -/
def Part.sameBut (p q : Part) (changed : List Block) : Prop := ∀ b, b ∉ changed → p.agrees q b

/-! ## What an order reports -/

/-- The event's flag is 0, its mask bit is 1, and the function sends messages, so that the event sends one (R206). -/
def Part.wouldSignal (p : Part) (e : Event) : Bool :=
  !p.tlu.events.getLsbD e.bit && p.tlu.mask.getLsbD e.bit && p.xu.memRequests && p.xu.msiEnabled

/-- The message that an event sends, if it sends one (R206). -/
def Part.signal (p : Part) (e : Event) : List Output := if p.wouldSignal e then [.msi] else []

/-- The exchange runs, and the slot is not in flight, so that a control order in it can be taken (R155, R158). -/
abbrev Part.readyFor (p : Part) (h : OrderHead) : Prop := p.xu.exchEn = true ∧ p.slotInFlight h.slot = false

/-- What an order that finishes in the step that takes it puts on the bus: TAKEN, the result area, the state, and a message for
its notify flag (R158, R163). -/
def Part.orderReport (p : Part) (h : OrderHead) (r : OrderResult) : List Output :=
  (if p.xu.memRequests then
    [.hostWrite (p.slotAddr h.slot) [2], .hostWrite (p.slotAddr h.slot + 0x60) (resultBytes r (low32 p.now)),
      .hostWrite (p.slotAddr h.slot) [finishedState r]]
  else []) ++ (if h.notify then p.signal .orderFinished else [])

/-- The part t is p after an order that finished with r in the step that took it: the exchange unit is x with the next ticket
advanced, the TLU is l with ORDER_FINISHED raised for a notify flag, the report is issued, and beside these only the changed
blocks differ. -/
structure Part.Answered (p : Part) (h : OrderHead) (r : OrderResult) (x : Xu) (l : Tlu) (changed : List Block) (t : Part) :
    Prop where
  xu : t.xu = { x with nextTicket := p.xu.nextTicket + 1 }
  tlu : t.tlu = { l with events := if h.notify then withFlag p.tlu.events .orderFinished else p.tlu.events }
  issued : t.issued = p.issued ++ p.orderReport h r
  rest : t.sameBut p (.xu :: .tlu :: .issued :: changed)

/-! ## The laws -/

/-- The loop is never CLOSED while the debounced INTERLOCK is asserted or an enabled mirror link is in FAULT (R99). -/
def Part.closedLaw (p : Part) : Prop :=
  p.lpc.loop = .closed → p.tlu.interlock.level = false ∧ ∀ m, p.inFault m = false

/-- At most one bank is ACTIVE (R76, R82). -/
def Part.activeLaw (p : Part) : Prop := ¬ (p.mxs.banks.t0.state = .active ∧ p.mxs.banks.t1.state = .active)

/-- At most one bank is ACTIVE, and each requester stands once in the rotation order (R76, R82, R90). -/
def Part.bankLaw (p : Part) : Prop := p.activeLaw ∧ p.mxs.rotation.Perm [.stream, .loader, .reader]

/-- The written count minus the last-read consumed count never exceeds the ring capacity (R181). -/
def Part.ringLaw (p : Part) : Prop := (p.tel.written - p.tel.consumed).toNat ≤ p.tel.capacity

/-- No frame number is held by two slots in use at once (R26), with what keeps it so: extraction, substitution and a waiting
substitution stand for three different slots, each with a seal decided and still ASSEMBLING, and a running update for a slot that
is UPDATING (R34, R54, R65, R110). -/
structure Part.SlotLaw (p : Part) : Prop where
  distinct : (p.slot 0).inUse = true → (p.slot 1).inUse = true → (p.slot 0).frame ≠ (p.slot 1).frame
  extracting : ∀ i, p.rca.extracting = some i → (p.slot i).state = .assembling ∧ (p.slot i).sealKind.isSome = true
  substituting : ∀ j, p.scn.job = some j → j.kind = .substitution →
    (p.slot j.slot).state = .assembling ∧ (p.slot j.slot).sealKind.isSome = true ∧ p.rca.extracting ≠ some j.slot
  waiting : ∀ i, p.scn.substDue = some i →
    (p.slot i).state = .assembling ∧ (p.slot i).sealKind.isSome = true ∧ p.rca.extracting ≠ some i
      ∧ ∀ j, p.scn.job = some j → j.kind = .substitution → j.slot ≠ i
  updating : ∀ u, p.lpc.update = some u → (p.slot u.slot).state = .updating

/-- The capacities of the link FIFOs, the work queue, the stream list, the record queue and the transfer queue (section 3 of the
scope file, R11, R23, R62, R160, R180). -/
structure Part.Capacities (p : Part) : Prop where
  fifo : ∀ i, (p.links.get i).fifo.length ≤ 16
  work : p.fra.queue.length ≤ 64
  stream : p.rca.stream.length ≤ 8
  records : p.tel.queue.length ≤ 4
  transfers : p.xu.queue.length ≤ 4

/-- A mirror link holds at most two outstanding frames, and none where a hand-over could meet it in IDLE or OFF (R129, R139,
R142). -/
def MirrorLink.twoAtMost (l : MirrorLink) : Prop :=
  l.outstanding.length ≤ 2 ∧ (l.state = .idle ∨ l.state = .off → l.outstanding = [])

/-- At most two command frames are outstanding on each mirror link (R129). -/
def Part.outstandingLaw (p : Part) : Prop := ∀ m, (p.mlt.get m).twoAtMost

/-- Every frame sent is retired, lost or cleared, or outstanding (R147). -/
def MirrorLink.balanced (l : MirrorLink) : Prop :=
  let c := l.counters
  c.sent = c.accepted + c.clipped + c.rejected + c.busy + c.implicitly + c.lost + c.cleared
    + BitVec.ofNat 32 l.outstanding.length

/-- The count of R147 balances on each mirror link. -/
def Part.balanceLaw (p : Part) : Prop := ∀ m, (p.mlt.get m).balanced ∧ (p.mlt.get m).twoAtMost

/-- A limits entry in the order that a load leaves it in: lo ≤ flat ≤ hi (R102). -/
def Limits.ordered (l : Limits) : Prop := l.lo.toNat ≤ l.flat.toNat ∧ l.flat.toNat ≤ l.hi.toNat

/-- An integrator value lies within a limits entry (R102). -/
def Limits.holds (l : Limits) (u : Nat) : Prop := l.loFine ≤ u ∧ u ≤ l.hiFine

/-- The live limits entry of an actuator. -/
def Lpc.limit (l : Lpc) (a : Nat) : Limits := Sparse.get Limits.powerOn l.limLive a

/-- The integrator value of an actuator. -/
def Lpc.value (l : Lpc) (a : Nat) : Nat := Sparse.get integratorPowerOn l.u a

/-- Every entry of a limits table is ordered. -/
def orderedTable (t : Sparse Limits) : Prop := ∀ a, (Sparse.get Limits.powerOn t a).ordered

/-- The shaped vector of an update lies within the live limits (R117). -/
def Lpc.shapedWithin (l : Lpc) (u : Update) : Prop := ∀ a < u.shaped.length, (l.limit a).holds (u.shaped.getD a 0)

/-- Every integrator value lies within the live limits (R102), with what keeps it so: the limits tables are in their
canonical form, they and the entries of a running load are ordered, and an update that is still closed throughout runs in CLOSED, with a vector within the limits. -/
structure Lpc.IntegratorLaw (l : Lpc) : Prop where
  within : ∀ a, (l.limit a).holds (l.value a)
  liveForm : Sparse.wf Limits.powerOn l.limLive = true
  shadowForm : Sparse.wf Limits.powerOn l.limShadow = true
  live : orderedTable l.limLive
  shadow : orderedTable l.limShadow
  loading : ∀ x, l.load = some x → ∀ e ∈ x.limits, e.ordered
  running : ∀ u, l.update = some u → u.closed = true → l.loop = .closed ∧ l.shapedWithin u

/-- The matrix store keeps its canonical form (R75). -/
def Part.storeLaw (p : Part) : Prop := Memory.wf p.mxs.store = true

end Sys2Proof.Machine
end

