-- ==== Sys2Proof/Certificates/Slice0/Obligations.lean ====
section
/-! DEFINITION. The statements about the HW8632 for the provers, chapter by chapter, and the laws that every step keeps. -/

section

open Sys2Proof Sys2Proof.Machine

/-! ## Terms that several statements share -/

/-- The part after an order is taken from its slot: TAKEN is written, and the next ticket advances (R158). -/
def orderTaken (p : Part) (h : OrderHead) : Part :=
  { p with
    xu := { p.xu with nextTicket := p.xu.nextTicket + 1 }
    issued := p.issued ++ if p.xu.memRequests then [.hostWrite (p.slotAddr h.slot) [2]] else [] }

/-- The slot and the notify flag of an order that is taken and not yet finished. -/
def headOf (ref : OrderRef) : OrderHead := ⟨ref.slot, ref.notify⟩

/-- The writes of an order's result and then of its state, DONE or FAILED (R163). -/
def resultWrites (p : Part) (h : OrderHead) (r : OrderResult) : List Output :=
  if p.xu.memRequests then
    [.hostWrite (p.slotAddr h.slot + 0x60) (resultBytes r (low32 p.tlu.timebase)),
      .hostWrite (p.slotAddr h.slot) [if r.reason.isNone then 3 else 4]]
  else []

/-- The part t is p after an order has finished, in the TLU and in what is issued: its result and state are written, and a notify
flag raises ORDER_FINISHED (R163). -/
def orderFinished (p t : Part) (h : OrderHead) (r : OrderResult) : Prop :=
  t.tlu = { p.tlu with events := if h.notify then withFlag p.tlu.events .orderFinished else p.tlu.events } ∧
  t.issued = p.issued ++ resultWrites p h r ++ (if h.notify then p.signal .orderFinished else [])

/-- The part t is p after an order that raised an event and finished with r in the step that took it: TAKEN and the next ticket, the
event, the result, the notify flag's event, and beside them only the changed blocks. -/
def raisedOrderDone (e : Event) (p t : Part) (h : OrderHead) (r : OrderResult) (changed : List Block) : Prop :=
  t.xu = { p.xu with nextTicket := p.xu.nextTicket + 1 } ∧
  t.tlu = { p.tlu with
    events := if h.notify then withFlag (withFlag p.tlu.events e) .orderFinished else withFlag p.tlu.events e } ∧
  t.issued = (orderTaken p h).issued ++ p.signal e ++ resultWrites p h r ++ (if h.notify then p.signal .orderFinished else []) ∧
  t.sameBut p (.xu :: .tlu :: .issued :: changed)

/-- What a hold cause does to the loop controller: in OPEN and CLOSED the loop is HELD with that cause alone, first and only, and a
running update is no longer closed throughout; in HELD the cause joins the set; in STOPPED nothing is recorded (R99, R110). -/
def holdTaken (l l' : Lpc) (c : HoldCause) : Prop :=
  (l.loop = .stopped → l' = l) ∧
  (l.loop = .held → l' = { l with causes := l.causes.add c }) ∧
  (l.loop = .opened ∨ l.loop = .closed → l' = { l with
    loop := .held
    causes := CauseSet.empty.add c
    firstCause := some c
    update := l.update.map fun u => { u with closed := false } })

/-- The part t is m after a hold cause, in the loop controller, the TLU and what is issued: LOOP_STATE is raised where the cause
moves the loop, and the loop, now HELD or STOPPED, leaves LOOP_CLOSED deasserted (R94, R99). -/
def holdReported (m t : Part) (c : HoldCause) : Prop :=
  let moves := m.lpc.loop = .opened ∨ m.lpc.loop = .closed
  holdTaken m.lpc t.lpc c ∧ t.loopClosedPin = false ∧
  (moves → t.tlu = { m.tlu with events := withFlag m.tlu.events .loopState } ∧ t.issued = m.issued ++ m.signal .loopState) ∧
  (¬ moves → t.tlu = m.tlu ∧ t.issued = m.issued)

/-! ## Telemetry records and snapshots, as the statements name them (sections 9.2 to 9.4, 9.8) -/

/-- Some slot holds a frame older than F and is SEALED or UPDATING (R180). -/
def olderUnfinished (p : Part) (f : Serial) : Prop :=
  ∃ k, ((p.slot k).state = .sealed ∨ (p.slot k).state = .updating) ∧ newer f (p.slot k).frame = true

/-- A record is dropped: the dropped count and the dropped-since count rise, and TELEMETRY_DROP is raised (R182). -/
def recordDropped (p t : Part) : Prop :=
  t.tel = { p.tel with dropped := p.tel.dropped + 1, droppedSince := min 65535 (p.tel.droppedSince + 1) } ∧
  t.tlu = { p.tlu with events := withFlag p.tlu.events .telemetryDrop } ∧
  t.issued = p.issued ++ p.signal .telemetryDrop ∧ t.sameBut p [.tel, .tlu, .issued]

/-- A record is written at the ring's next place: it takes the MARK edges and the dropped-since count, which become 0, and the
written count rises (R181). -/
def recordWritten (r : TelRecord) (p t : Part) : Prop :=
  t.tel = { p.tel with written := p.tel.written + 1, droppedSince := 0 } ∧ t.tlu = { p.tlu with markEdges := 0 } ∧
  t.issued = p.issued ++ (if p.xu.memRequests then
    [.hostWrite (p.tel.ringAddr + BitVec.ofNat 64 (64 * (p.tel.written.toNat % p.tel.capacity)))
      (recordBytes r p.tlu.markEdges p.tel.droppedSince)] else []) ∧
  t.sameBut p [.tel, .tlu, .issued]

/-- A record at the write point is written while the exchange runs, the ring is set and has room, and is dropped otherwise (R181,
R182). -/
def atWritePoint (r : TelRecord) (p t : Part) : Prop :=
  let room := p.xu.exchEn = true ∧ p.tel.ringSet = true ∧ (p.tel.written - p.tel.consumed).toNat < p.tel.capacity
  (room → recordWritten r p t) ∧ (¬ room → recordDropped p t)

/-- The records of the queue go to the write point in turn, for as long as no older frame is SEALED or UPDATING (R180). -/
def released : List TelRecord → Part → Part → Prop
  | [], q, t => t = q
  | r :: rest, q, t =>
    (olderUnfinished q r.frame → t = q) ∧
    (¬ olderUnfinished q r.frame →
      ∃ m, atWritePoint r { q with tel := { q.tel with queue := rest } } m ∧ released rest m t)

/-- A record that has been formed joins the queue behind an older frame that is SEALED or UPDATING, and is dropped where the queue
holds 4; otherwise it goes to the write point, and the queue is released. What is written are the record's 64 bytes, with the
frame number first and the two counts of its writing at their places (R180 to R182). -/
def recordsKeptInOrder : Prop :=
  (∀ (p : Part) (r : TelRecord),
    (olderUnfinished p r.frame → p.tel.queue.length < 4 →
      p.submitRecord r = { p with tel := { p.tel with queue := p.tel.queue ++ [r] } }) ∧
    (olderUnfinished p r.frame → 4 ≤ p.tel.queue.length → recordDropped p (p.submitRecord r)) ∧
    (¬ olderUnfinished p r.frame → ∃ q, atWritePoint r p q ∧ released p.tel.queue q (p.submitRecord r))) ∧
  ∀ (r : TelRecord) (edges since : Nat),
    let bytes := recordBytes r edges since
    bytes.length = 64 ∧ field16 bytes 0 = r.frame ∧ (field16 bytes 0x24).toNat = min 65535 edges ∧
      (field16 bytes 0x26).toNat = min 65535 since

/-- A sensor is present in a slot's frame, and every segment index of it is received (R30). -/
abbrev segmentsWhole (g : Geometry) (x : AsmSlot) (i : LinkIx) : Prop :=
  x.present.get i = true ∧ ∀ n < (g.n.get i + 63) / 64, n ∈ x.received.get i

/-- The record of a slot's frame as its fields stand, before what a seal and an update add to it (R178, R179). -/
def recordOf (p : Part) (k : SlotIx) (g : Geometry) (kind : SealKind) (loop : LoopState) : TelRecord :=
  let x := p.slot k
  { frame := x.frame
    kind := kind
    loop := loop
    present := x.present
    complete := Four.make fun i => decide (segmentsWhole g x i)
    bank := x.bank
    swapFrame := x.swapFrame
    updateDiscarded := false
    snapshot := false
    openTime := x.openTime.setWidth 32
    sealOffset := none
    endOffset := none
    seq0 := none
    seq1 := none
    invalidPairs := (p.scn.records.get k).invalidPairs
    slopeSat := (p.scn.records.get k).slopeSat
    substituted := (p.scn.records.get k).substituted
    resSat := 0
    clamps := 0
    neighbours := 0
    energy := none }

/-- The record of a COMPLETE or PARTIAL frame at the end of its update (R178, R179). -/
def updateRecordOf (p : Part) (k : SlotIx) (g : Geometry) (u : UpdateReport) (snapshot : Bool) : TelRecord :=
  let x := p.slot k
  let e := p.rca.residual.get k
  { recordOf p k g (x.sealKind.getD .complete) p.lpc.loop with
    updateDiscarded := u.discarded
    snapshot := snapshot
    sealOffset := some ((x.sealTime - x.openTime).setWidth 32)
    endOffset := some ((p.tlu.timebase - x.openTime).setWidth 32)
    seq0 := u.seq0
    seq1 := u.seq1
    resSat := if e.valid then e.resSat else 0
    clamps := u.clamps
    neighbours := u.neighbours
    energy := if e.valid then some e.energy else none }

/-- The status of a slope in a slot's frame slope record (R50). -/
def slopeStatus (p : Part) (k : SlotIx) (j : Nat) : SlopeStatus := Sparse.get .missing (p.scn.records.get k).status j

/-- A fill: the store takes the slopes, the residuals, the integrator's codes and the header, counts a store that was FILLED as
overwritten, is FILLED with no capture pending, and is renewed under a copy in flight (R188, R189). -/
def snapshotFilled (p t : Part) (k : SlotIx) (g : Geometry) (ramp : Bool) : Prop :=
  let x := p.slot k
  let overwritten := if p.sns.filled then min 65535 (p.sns.overwritten + 1) else p.sns.overwritten
  t.sns = { p.sns with
    filled := true
    frame := x.frame
    s := 2 * (g.n.f0 + g.n.f1 + g.n.f2 + g.n.f3)
    a := g.a0 + g.a1
    bank := x.bank
    swapFrame := x.swapFrame
    ramp := ramp
    loop := p.lpc.loop
    headerOverwritten := overwritten
    slopes := t.sns.slopes
    residuals := t.sns.residuals
    commands := t.sns.commands
    capturePending := false
    renewed := decide (p.sns.copying = true ∨ p.sns.renewed = true)
    overwritten := overwritten } ∧
  (∀ j, Sparse.get 0 t.sns.slopes j = if j < 2 * (g.n.f0 + g.n.f1 + g.n.f2 + g.n.f3) then
    (match slopeStatus p k j with
      | .valid c | .substituted c => c
      | .missing | .invalid => 0) else 0) ∧
  (∀ a, Sparse.get 0 t.sns.residuals a =
    if a < g.a0 + g.a1 then BitVec.ofInt 32 (Sparse.get 0 (p.rca.residual.get k).e a) else 0) ∧
  (∀ a, Sparse.get 0 t.sns.commands a = if a < g.a0 + g.a1 then BitVec.ofNat 16 ((p.lpc.value a + 128) / 256) else 0)

/-- An update of slot k ends, the part being p until then: with a capture pending the snapshot store fills and SNAPSHOT_HELD is
raised, the slot is FREE, and the frame's record is formed and handled as its slot no longer counts (R120, R178, R180, R188,
R189). That SNAPSHOT_HELD is raised after the record has been handled is the model's reading (log entry 18). -/
def updateEnded (p t : Part) (k : SlotIx) (g : Geometry) (u : UpdateReport) (ramp : Bool) : Prop :=
  let shot := p.sns.capturePending
  let fra := { p.fra with slots := p.fra.slots.set k { p.slot k with state := .free } }
  let m := ({ p with fra := fra } : Part).submitRecord (updateRecordOf p k g u shot)
  t.fra = fra ∧ t.lpc = { p.lpc with update := none } ∧ t.tel = m.tel ∧
  (shot = false → t.sns = p.sns ∧ t.tlu = m.tlu ∧ t.issued = m.issued) ∧
  (shot = true → snapshotFilled p t k g ramp ∧
    t.tlu = { m.tlu with events := withFlag m.tlu.events .snapshotHeld } ∧
    t.issued = m.issued ++ m.signal .snapshotHeld) ∧
  t.sameBut p [.fra, .lpc, .tel, .sns, .tlu, .issued]

/-! ## The step -/

/-- A step takes the command at the front of the queue and runs it with the queue's rest. -/
def Obligations.StepRunsFrontCommand : Prop :=
  ∀ (c : Instr) (rest : List Instr) (s : State),
    step { s with pending := c :: rest } = exec c { s with pending := rest }

/-- On an empty queue one microsecond passes, and nothing else changes (R195; the model's choice, log entry 11). -/
def Obligations.EmptyQueuePassesOneMicrosecond : Prop :=
  ∀ s : State, s.pending = [] →
    ∃ t, step s = .next t ∧ t.pending = [] ∧ t.part.tlu = { s.part.tlu with timebase := s.part.tlu.timebase + 1 } ∧
      t.part.sameBut s.part [.tlu]

/-! ## Registers (sections 8.1, 10.1 and 10.4) -/

/-- Writes to EXCH_BASE_LO and EXCH_BASE_HI: while EXCH_EN is 0 each replaces its half of the stored address, which reads back
with its lowest 12 bits as 0 and places the area there; while EXCH_EN is 1 they are ignored (R152). -/
def exchangeBaseWritten : Prop :=
  ∀ (s : State) (v : BitVec 32),
    (s.part.xu.exchEn = true → exec (.exchBaseLoWrite v) s = .next s ∧ exec (.exchBaseHiWrite v) s = .next s) ∧
    (s.part.xu.exchEn = false →
      (∃ t, exec (.exchBaseLoWrite v) s = .next t ∧ t.pending = s.pending ∧
        t.part.readRegister 0x08 = v &&& 0xFFFFF000#32 ∧
        t.part.readRegister 0x0C = s.part.readRegister 0x0C ∧
        t.part.area = s.part.readRegister 0x0C ++ (v &&& 0xFFFFF000#32) ∧
        t.part.xu = { s.part.xu with base := t.part.xu.base } ∧ t.part.sameBut s.part [.xu]) ∧
      (∃ t, exec (.exchBaseHiWrite v) s = .next t ∧ t.pending = s.pending ∧
        t.part.readRegister 0x0C = v ∧
        t.part.readRegister 0x08 = s.part.readRegister 0x08 ∧
        t.part.area = v ++ s.part.readRegister 0x08 ∧
        t.part.xu = { s.part.xu with base := t.part.xu.base } ∧ t.part.sameBut s.part [.xu]))

/-- A write to EVENTS clears each of the eight flags whose bit is written as 1 and leaves the others; EVENTS and EVENT_MASK read as
the eight flags and the eight mask bits, every other bit as 0 (R205, R206). -/
def eventsCleared : Prop :=
  ∀ (s : State) (v : BitVec 32), ∃ t, exec (.eventsWrite v) s = .next t ∧ t.pending = s.pending ∧
    (∀ p : Part, p.readRegister 0x10 = p.tlu.events.setWidth 32 ∧ p.readRegister 0x14 = p.tlu.mask.setWidth 32) ∧
    (∀ e : Event, t.part.tlu.events.getLsbD e.bit = (s.part.tlu.events.getLsbD e.bit && !v.getLsbD e.bit)) ∧
    t.part.tlu = { s.part.tlu with events := t.part.tlu.events } ∧ t.part.sameBut s.part [.tlu]

/-- A write to EVENT_MASK replaces the eight mask bits and no flag. It sends one MSI message exactly when it changes a mask bit
from 0 to 1 whose flag is 1, and the function sends messages (R206). -/
def eventMaskReplaced : Prop :=
  ∀ (s : State) (v : BitVec 32), ∃ t, exec (.eventMaskWrite v) s = .next t ∧ t.pending = s.pending ∧
    (∀ e : Event, t.part.tlu.mask.getLsbD e.bit = v.getLsbD e.bit) ∧
    t.part.tlu = { s.part.tlu with mask := t.part.tlu.mask } ∧
    ((∃ e : Event, v.getLsbD e.bit = true ∧ s.part.tlu.mask.getLsbD e.bit = false ∧
        s.part.tlu.events.getLsbD e.bit = true) →
      s.part.xu.memRequests = true → s.part.xu.msiEnabled = true → t.part.issued = s.part.issued ++ [.msi]) ∧
    ((∀ e : Event, v.getLsbD e.bit = false ∨ s.part.tlu.mask.getLsbD e.bit = true ∨
        s.part.tlu.events.getLsbD e.bit = false) → t.part.issued = s.part.issued) ∧
    (s.part.xu.memRequests = false ∨ s.part.xu.msiEnabled = false → t.part.issued = s.part.issued) ∧
    t.part.sameBut s.part [.tlu, .issued]

/-- Raising an event sets its flag whatever the mask, and sends one MSI message exactly when the flag goes from 0 to 1 with its
mask bit at 1 and the function sends messages (R205, R206). -/
def eventRaised : Prop :=
  ∀ (p : Part) (e : Event),
    (∀ f : Event, (p.raise e).tlu.events.getLsbD f.bit = (p.tlu.events.getLsbD f.bit || decide (f = e))) ∧
    (p.raise e).tlu = { p.tlu with events := (p.raise e).tlu.events } ∧
    (p.raise e).issued = p.issued ++
      (if p.tlu.events.getLsbD e.bit = false ∧ p.tlu.mask.getLsbD e.bit = true ∧ p.xu.memRequests = true ∧
          p.xu.msiEnabled = true then [.msi] else []) ∧
    (p.raise e).sameBut p [.tlu, .issued]

/-- The event flags: a write to EVENTS clears, a write to EVENT_MASK replaces the mask, and an event sets its flag, with the message
that each sends (R205, R206). -/
def Obligations.EventFlagsAndMask : Prop := eventsCleared ∧ eventMaskReplaced ∧ eventRaised

/-- A read of TIME_LO returns the bytes addressed of the low 32 bits of the timebase and latches its high 32 bits, which a read
of TIME_HI returns (R196, R213). -/
def timeRead : Prop :=
  ∀ (s : State) (first count : Nat), 1 ≤ count → first + count ≤ 4 →
    ∃ t bytes, exec (.timeLoRead first count) s = .next t ∧ t.pending = s.pending ∧
      t.part.issued = s.part.issued ++ [.readData bytes] ∧ bytes.length = count ∧
      (∀ k < count, bytes.getD k 0 = BitVec.ofNat 8 (s.part.tlu.timebase.toNat / 256 ^ (first + k))) ∧
      t.part.readRegister 0x1C = BitVec.ofNat 32 (s.part.tlu.timebase.toNat / 2 ^ 32) ∧
      t.part.tlu = { s.part.tlu with latch := t.part.readRegister 0x1C } ∧ t.part.sameBut s.part [.tlu, .issued]

/-- A write of fewer than four bytes, a write to IDENT, TIME_LO, TIME_HI or an unused offset, and a CONTROL write without
PART_RESET that finds EXCH_EN as it writes it, change nothing (R150, R151, R213). The writes are
those of one to four bytes within one register position; what others do is the model's choice (log entry 39), of which nothing is
stated. -/
def writesIgnored : Prop :=
  ∀ (s : State) (offset : BitVec 12) (count : Nat) (v : BitVec 32), 1 ≤ count → offset.toNat % 4 + count ≤ 4 →
    (count < 4 ∨ offset = 0x00 ∨ offset = 0x18 ∨ offset = 0x1C ∨ 0x20 ≤ offset.toNat ∨
      (offset = 0x04 ∧ v.getLsbD 1 = false ∧ v.getLsbD 0 = s.part.xu.exchEn)) →
    exec (.registerWriteIgnored offset count v) s = .next s

/-- A read returns the bytes addressed of the register that they lie in, so that one of fewer than four bytes returns just those:
IDENT reads as 0x21B8DB01, CONTROL as EXCH_EN, and an unused offset as 0 (R150, R151, R213). -/
def registersRead : Prop :=
  (∀ (p : Part) (addr count : Nat), 1 ≤ count → addr % 4 + count ≤ 4 →
    (p.readAt addr count).length = count ∧ ∀ k < count, (p.readAt addr count).getD k 0 =
      BitVec.ofNat 8 ((p.readRegister (addr - addr % 4)).toNat / 256 ^ (addr % 4 + k))) ∧
  ∀ p : Part, p.readRegister 0x00 = 0x21B8DB01 ∧ p.readRegister 0x04 = (if p.xu.exchEn then 1 else 0) ∧
    ∀ offset, 0x20 ≤ offset → p.readRegister offset = 0

/-- The other registers: EXCH_BASE while the exchange is stopped and while it runs, the reads of the timebase, the bytes that a read
returns, and the writes that are ignored (R150 to R152, R196, R213). -/
def Obligations.RegistersWrittenAndRead : Prop := exchangeBaseWritten ∧ timeRead ∧ registersRead ∧ writesIgnored

/-! ## The exchange, power and resets (sections 8.8, 8.11) -/

/-- The exchange starts: the next ticket, the written, dropped and last-read consumed counts become 0, and the sweep timer is one
sweep period away; a write of EXCH_EN as it stands changes nothing (R151, R173). -/
def exchangeStarts : Prop :=
  ∀ s : State,
    (s.part.xu.exchEn = true → exec .exchEnStart s = .next s) ∧
    (s.part.xu.exchEn = false → ∃ t, exec .exchEnStart s = .next t ∧ t.pending = s.pending ∧
      t.part.xu = { s.part.xu with
        exchEn := true
        nextTicket := 0
        sweepTimer := some (s.part.tlu.timebase + BitVec.ofNat 64 s.part.xu.periodUs) } ∧
      t.part.tel = { s.part.tel with written := 0, dropped := 0, consumed := 0 } ∧ t.part.sameBut s.part [.xu, .tel])

/-- A burst after the matrix load has ended early: a granted write burst still completes into the store, but no longer for the load;
every other burst is as it was (R81). -/
def loaderOrphaned : Burst → Burst
  | .loader offset data _ => .loader offset data false
  | .stream slot slope value bank first count dropped => .stream slot slope value bank first count dropped
  | .reader offset count dropped => .reader offset count dropped

/-- A burst after the bank readback has ended: the data of a granted read burst is dropped; every other burst is as it was (R87). -/
def readerDropped : Burst → Burst
  | .reader offset count _ => .reader offset count true
  | .stream slot slope value bank first count dropped => .stream slot slope value bank first count dropped
  | .loader offset data live => .loader offset data live

/-- What the owning block does when its transfer ends early. A matrix load's bank is EMPTY and its granted bursts no longer count
for it; a table load or a shape drops its load buffer and changes no table; a readback stops, and the data of its granted bursts
is dropped; in both, every other burst is as it was. A table readback drops its image; a snapshot copy clears its marks and leaves
the store FILLED (R49, R81, R87, R88, R109, R123, R193). -/
def workDropped (op : BulkOp) (p t : Part) : Prop :=
  match op with
  | .loadMatrix k _ _ _ _ =>
    t.mxs = { p.mxs with
      banks := p.mxs.banks.set k { p.mxs.banks.get k with state := .empty }
      load := none
      bursts := p.mxs.bursts.map loaderOrphaned } ∧ t.sameBut p [.mxs]
  | .loadReference _ | .loadSensors _ => t.scn = { p.scn with load := none } ∧ t.sameBut p [.scn]
  | .loadLimits _ | .loadPairs _ => t.lpc = { p.lpc with load := none } ∧ t.sameBut p [.lpc]
  | .applyShape _ => t.lpc = { p.lpc with shape := [] } ∧ t.sameBut p [.lpc]
  | .readBank _ _ _ =>
    t.mxs = { p.mxs with readback := none, bursts := p.mxs.bursts.map readerDropped } ∧ t.sameBut p [.mxs]
  | .readTable _ _ => t.mxs = { p.mxs with tableImage := [] } ∧ t.sameBut p [.mxs]
  | .copySnapshot => t.sns = { p.sns with copying := false, renewed := false } ∧ t.sameBut p [.sns]

/-- The orders that an exchange stop finishes, in the order of their results, with those results: the running transfer with its
bytes remaining, the queued orders in queue order with their buffer lengths, the pending swap, and the pending probes (R172). That
the swap comes before the probes, and the probe of link 0 before that of link 1, is the model's choice (log entry 37). -/
def stoppedOrders (p : Part) : List (OrderRef × OrderResult) :=
  let stopped (remaining : Nat) : OrderResult :=
    { OrderResult.done with reason := some .exchangeStopped, d4 := BitVec.ofNat 32 remaining }
  (p.xu.lane.toList.map fun r => (r.bulk.order, stopped (r.total - r.moved))) ++
    (p.xu.queue.map fun b => (b.order, stopped b.length)) ++
    (p.mxs.pendingSwap.toList.map fun w => (w.order, stopped 0)) ++
    ((p.mlt.get 0).probe.toList.map fun x => (x.order, stopped 0)) ++
    ((p.mlt.get 1).probe.toList.map fun x => (x.order, stopped 0))

/-- The part t is p after orders have finished one after the other: each result, its state and its notify flag's event before the
next (R163). -/
def ordersFinished : List (OrderRef × OrderResult) → Part → Part → Prop
  | [], p, t => t = p
  | x :: rest, p, t => ∃ m : Part, orderFinished p m (headOf x.1) x.2 ∧ m.sameBut p [.tlu, .issued] ∧ ordersFinished rest m t

/-- The exchange stops: the sweep and its timer, the transfer lane and queue, the pending swap and the pending probes are gone, so
that the in-flight record is empty, and no order has been taken. The orders in flight finish FAILED EXCHANGE_STOPPED, the running
transfer first, then the queue, the swap and the probes, each with its result, and the last writes are the final status block; the
running transfer's work is dropped as at any early end; the sweep count stands, and the loop and its frames run on (R85, R146, R163,
R172). -/
def exchangeStops : Prop :=
  ∀ s : State,
    (s.part.xu.exchEn = false → exec .exchEnStop s = .next s) ∧
    (s.part.xu.exchEn = true → ∃ (t : State) (m last : Part), exec .exchEnStop s = .next t ∧ t.pending = s.pending ∧
      t.part.xu = { s.part.xu with exchEn := false, sweepTimer := none, sweeping := false, lane := none, queue := [] } ∧
      t.part.inFlight = [] ∧ ordersFinished (stoppedOrders s.part) s.part m ∧ t.part.tlu = m.tlu ∧
      t.part.issued = m.issued ++ (if s.part.xu.memRequests then
        [.hostWrite s.part.area last.summaryBytes, .hostWrite (s.part.area + 0x200) last.counterBytes] else []) ∧
      last.sameBut t.part [.xu, .issued] ∧
      last.xu = { t.part.xu with exchEn := true, sweepTimer := s.part.xu.sweepTimer } ∧
      (∃ v : Part, (s.part.xu.lane = none → v = s.part) ∧ (∀ r, s.part.xu.lane = some r → workDropped r.bulk.op s.part v) ∧
        t.part.scn = v.scn ∧ t.part.lpc = v.lpc ∧ t.part.sns = v.sns ∧ t.part.mxs = { v.mxs with pendingSwap := none }) ∧
      (∀ i, t.part.mlt.get i = match (s.part.mlt.get i).probe with
        | none => s.part.mlt.get i
        | some _ => { s.part.mlt.get i with
          probe := none
          timer := none
          tx := (s.part.mlt.get i).tx.map fun x => match x with
            | .frame seq codes => .frame seq codes
            | .query _ => .query false }) ∧
      t.part.sameBut s.part [.scn, .mxs, .lpc, .mlt, .xu, .sns, .tlu, .issued])

/-- The two writes of EXCH_EN, and what a stop makes of the orders in flight (R85, R146, R151, R163, R172, R173). -/
def Obligations.ExchangeStartsAndStops : Prop := exchangeStarts ∧ exchangeStops

/-- The power-on values, written out: the receivers (R19), the frame assembler (R42), the conditioner (R58), the reconstruction
array (R73), the matrix store (R92), the loop controller (R125), the transmitters (R148), the exchange (R175), the telemetry
(R185), the snapshot store's marks (R194) and the TLU (R207). -/
def powerOnValues (p : Part) : Prop :=
  (∀ i, p.links.get i = ⟨.off, false, 0, 10, none, none, [], ⟨0, 0, 0, 0, 0, 0, 0, 0, 0, 0, 0, 0, 0⟩⟩) ∧
  p.geo = ⟨⟨0, 0, 0, 0⟩, 0, 0, false⟩ ∧
  (∀ k, p.slot k = ⟨.free, false, 0, 0, 0, 0, false, ⟨false, false, false, false⟩, ⟨[], [], [], []⟩, none, 0⟩) ∧
    p.fra.queue = [] ∧ p.fra.rr = 3 ∧ p.fra.highest = none ∧
  p.fra.abandons = 0 ∧ p.fra.gapTimer = none ∧ p.fra.freshBank = false ∧ p.fra.windowUs = 1000 ∧ p.fra.abandonLimit = 5 ∧
  p.fra.gapMs = 20 ∧
  (∀ j, Sparse.get 0 p.scn.refLive j = 0 ∧ Sparse.get 0 p.scn.refShadow j = 0 ∧
    Sparse.get Kept.powerOn p.scn.kept j = ⟨0, 255⟩) ∧
  (∀ i, p.scn.parLive.get i = ⟨0, 16384, .zero, 3⟩ ∧ p.scn.parShadow.get i = ⟨0, 16384, .zero, 3⟩) ∧
  p.scn.refWaiting = false ∧ p.scn.parWaiting = false ∧ p.scn.load = none ∧
  (∀ k, p.scn.records.get k = ⟨[], 0, 0, 0⟩) ∧
  (∀ k, p.rca.acc.get k = [] ∧ p.rca.residual.get k = ⟨false, [], 0, 0⟩) ∧ p.rca.stream = [] ∧
  (∀ b, p.mxs.banks.get b = ⟨.empty, 0, 0, 0, 0, 0⟩) ∧ p.mxs.pendingSwap = none ∧ p.mxs.pairMode = false ∧
  p.mxs.rotation = [.stream, .loader, .reader] ∧ p.mxs.bursts = [] ∧ p.mxs.load = none ∧ p.mxs.readback = none ∧
  p.lpc.loop = .stopped ∧ p.loopClosedPin = false ∧ p.lpc.causes = ⟨false, false, false, false⟩ ∧ p.lpc.firstCause = none ∧
  (∀ a, p.lpc.value a = 8388608 ∧ p.lpc.limit a = ⟨0, 65535, 32768, true⟩ ∧
    Sparse.get Limits.powerOn p.lpc.limShadow a = ⟨0, 65535, 32768, true⟩) ∧
  p.lpc.pairLive = [] ∧ p.lpc.pairShadow = [] ∧
  (∀ m, p.lpc.gainLive.get m = ⟨32768, 0⟩ ∧ p.lpc.gainShadow.get m = ⟨32768, 0⟩) ∧
  p.lpc.limWaiting = false ∧ p.lpc.pairWaiting = false ∧ p.lpc.gainWaiting = false ∧
  p.lpc.rampLength = 0 ∧ p.lpc.rampCount = 0 ∧ p.lpc.threshold = 0 ∧ p.lpc.divLimit = 10 ∧ p.lpc.divCount = 0 ∧
  p.lpc.update = none ∧ p.lpc.shape = [] ∧ p.lpc.load = none ∧
  (∀ m, p.mlt.get m = ⟨.off, false, 0, [], none, 0, false, 0, 0, none, [], 500, 3, 20, 3,
    ⟨0, 0, 0, 0, 0, 0, 0, 0, 0, 0, 0, 0, 0, 0⟩⟩) ∧
  p.xu.exchEn = false ∧ p.xu.base = 0 ∧ p.xu.sweepTimer = none ∧ p.xu.periodUs = 100 ∧ p.xu.nextTicket = 0 ∧
  p.inFlight = [] ∧ p.xu.lane = none ∧ p.xu.queue = [] ∧ (∀ i, p.xu.windows.get i = ⟨false, 0, 0, 0⟩) ∧
  p.xu.sweepCount = 0 ∧ p.xu.hostFailures = 0 ∧
  p.tel = ⟨false, 0, 16, 0, 0, 0, 0, []⟩ ∧
  p.sns.filled = false ∧ p.sns.capturePending = false ∧ p.sns.copying = false ∧ p.sns.renewed = false ∧
  p.sns.overwritten = 0 ∧
  p.tlu.timebase = 0 ∧ p.tlu.latch = 0 ∧ p.tlu.pacer.running = false ∧ p.tlu.pacer.live = ⟨1000, 0, 10⟩ ∧
  p.tlu.pacer.next = none ∧ p.tlu.pacer.acc = 0 ∧ p.tlu.pacer.trigger = false ∧
  (p.tlu.interlock.level = false ∧ p.tlu.interlock.run = 0 ∧ p.tlu.interlock.count = 3) ∧
  (p.tlu.snap.level = false ∧ p.tlu.snap.run = 0 ∧ p.tlu.snap.count = 3) ∧
  (p.tlu.mark.level = false ∧ p.tlu.mark.run = 0 ∧ p.tlu.mark.count = 3) ∧
  p.tlu.blockInterlock = true ∧ p.tlu.blockMark = false ∧ p.tlu.blockLoop = false ∧ p.tlu.blockedSnaps = 0 ∧
  p.tlu.qualifiedSnaps = 0 ∧ p.tlu.markEdges = 0 ∧ p.tlu.events = 0 ∧ p.tlu.mask = 0

/-- Power is applied: every block takes its power-on values, which are also those of the reset state, and nothing is left of what
was (R19, R42, R58, R73, R92, R125, R148, R175, R185, R194, R207). What the part has issued, the free-value counter, and the
function's own configuration stand, which is the model's choice (log entries 4, 5, 9). -/
def Obligations.PowerIsApplied : Prop :=
  ∀ s : State, ∃ t, exec .powerOn s = .next t ∧ t.pending = s.pending ∧
    t.part.mxs = { Mxs.powerOn with epoch := s.part.mxs.epoch + 1 } ∧
    t.part.xu = { Xu.powerOn with memRequests := s.part.xu.memRequests, msiEnabled := s.part.xu.msiEnabled } ∧
    t.part.issued = s.part.issued ∧ t.part.frees = s.part.frees ∧
    t.part.sameBut State.reset.part [.mxs, .xu, .issued, .frees] ∧ powerOnValues t.part ∧ powerOnValues State.reset.part

/-- A part reset, by PART_RESET with either value of EXCH_EN in the same write, and a function-level reset: each block keeps its
settings and its tables and resets its dynamic state. The kept slopes have every age 255; a LOADING bank becomes EMPTY, and of the
store only the bytes of a granted loader burst can change; the loop is STOPPED with LOOP_CLOSED deasserted, and the integrator lies
at flat; a pending swap ends with a result ABORTED that raises no event, and a link that was sending is cut off (R20, R43, R59, R74,
R93, R126, R149, R151, R176, R185, R194, R208). Three points are the model's choice: that a granted write may or may not complete
(log entry 6), that the packets of a mirror link not yet begun are dropped (log entry 17), and that a slot's record is cleared whole
(log entry 26). The limits table is taken in the canonical form, which every step keeps. -/
def Obligations.PartReset : Prop :=
  ∀ (s : State) (c : Instr), (c = .functionLevelReset ∨ ∃ b, c = .partReset b) →
    ∃ t, exec c s = .next t ∧ t.pending = s.pending ∧
      t.part.geo = s.part.geo ∧
      (∀ i, t.part.links.get i = { SensorLink.powerOn with
        state := if (s.part.links.get i).enable then .acquiring else .off
        enable := (s.part.links.get i).enable
        expectedId := (s.part.links.get i).expectedId
        quietMs := (s.part.links.get i).quietMs }) ∧
      t.part.fra = { Fra.powerOn with
        windowUs := s.part.fra.windowUs
        abandonLimit := s.part.fra.abandonLimit
        gapMs := s.part.fra.gapMs
        freshBank := s.part.fra.freshBank } ∧
      t.part.scn = { Scn.powerOn with
        refLive := s.part.scn.refLive
        refShadow := s.part.scn.refShadow
        refWaiting := s.part.scn.refWaiting
        parLive := s.part.scn.parLive
        parShadow := s.part.scn.parShadow
        parWaiting := s.part.scn.parWaiting
        kept := t.part.scn.kept } ∧
      (∀ j, Sparse.get Kept.powerOn t.part.scn.kept j = ⟨(Sparse.get Kept.powerOn s.part.scn.kept j).value, 255⟩) ∧
      (∀ k, t.part.rca.acc.get k = [] ∧ t.part.rca.residual.get k = ⟨false, [], 0, 0⟩) ∧
      t.part.rca.stream = [] ∧ t.part.rca.extracting = none ∧
      (∀ b, t.part.mxs.banks.get b = { s.part.mxs.banks.get b with
        state := if (s.part.mxs.banks.get b).state = .loading then .empty else (s.part.mxs.banks.get b).state }) ∧
      t.part.mxs = { Mxs.powerOn with
        store := t.part.mxs.store
        epoch := s.part.mxs.epoch
        banks := t.part.mxs.banks
        pairMode := s.part.mxs.pairMode } ∧
      (∀ a, t.part.storeByte a = s.part.storeByte a ∨ ∃ offset data live n, Burst.loader offset data live ∈ s.part.mxs.bursts ∧
        n < data.length ∧ a = offset + n ∧ t.part.storeByte a = data.getD n 0) ∧
      t.part.lpc = { s.part.lpc with
        loop := .stopped
        causes := ⟨false, false, false, false⟩
        firstCause := none
        u := t.part.lpc.u
        rampCount := 0
        divCount := 0
        update := none
        shape := []
        load := none } ∧ t.part.loopClosedPin = false ∧
      (Sparse.wf Limits.powerOn s.part.lpc.limLive = true →
        ∀ a, t.part.lpc.value a = 256 * (s.part.lpc.limit a).flat.toNat) ∧
      (∀ m, t.part.mlt.get m = { MirrorLink.powerOn with
        state := if (s.part.mlt.get m).enable then .idle else .off
        enable := (s.part.mlt.get m).enable
        timeoutUs := (s.part.mlt.get m).timeoutUs
        queryLimit := (s.part.mlt.get m).queryLimit
        blockLimit := (s.part.mlt.get m).blockLimit
        rejectLimit := (s.part.mlt.get m).rejectLimit }) ∧
      t.part.xu = { Xu.powerOn with
        base := s.part.xu.base
        periodUs := s.part.xu.periodUs
        windows := s.part.xu.windows
        memRequests := s.part.xu.memRequests
        msiEnabled := s.part.xu.msiEnabled } ∧
      t.part.sns = { s.part.sns with
        filled := false
        capturePending := false
        copying := false
        renewed := false
        overwritten := 0 } ∧
      t.part.tel = { s.part.tel with written := 0, consumed := 0, dropped := 0, droppedSince := 0, queue := [] } ∧
      t.part.tlu = { s.part.tlu with
        pacer := { s.part.tlu.pacer with running := false, next := none, acc := 0, trigger := false }
        blockedSnaps := 0
        qualifiedSnaps := 0
        markEdges := 0
        events := 0 } ∧
      t.part.issued = s.part.issued ++
        (match s.part.mxs.pendingSwap with
          | some w => resultWrites s.part (headOf w.order) (.failed .aborted)
          | none => []) ++
        (if (s.part.mlt.get 0).tx = [] then [] else [.cutOff 0]) ++ (if (s.part.mlt.get 1).tx = [] then [] else [.cutOff 1])

/-! ## Sensor links (chapter 1) -/

/-- A packet is malformed (R2, with the header of R211). -/
def segmentMalformed (packet : List Byte) : Prop :=
  packet.length < 8 ∨ byteAt packet 0 ≠ 0x51 ∨ (byteAt packet 5).toNat < 1 ∨ 40 < (byteAt packet 5).toNat ∨
    39 < (byteAt packet 4).toNat ∨ (byteAt packet 6).toNat < 1 ∨ 64 < (byteAt packet 6).toNat ∨
    packet.length ≠ 8 + 6 * (byteAt packet 6).toNat + 2

/-- A well-formed packet does not fit a sensor of n subapertures (R5). -/
def segmentMisplaced (n : Nat) (packet : List Byte) : Prop :=
  (byteAt packet 5).toNat ≠ (n + 63) / 64 ∨ (byteAt packet 5).toNat ≤ (byteAt packet 4).toNat ∨
    (byteAt packet 6).toNat ≠ min 64 (n - 64 * (byteAt packet 4).toNat)

/-- The packet passes the four checks on link i (R2 to R5). -/
def segmentValid (p : Part) (i : LinkIx) (packet : List Byte) : Prop :=
  ¬ segmentMalformed packet ∧ crcMatches packet = true ∧
    (byteAt packet 1).toNat = (p.links.get i).expectedId ∧ ¬ segmentMisplaced (p.geo.n.get i) packet

/-- The part t is p with the record of link i replaced, and nothing else of the links. -/
def linkBecomes (p t : Part) (i : LinkIx) (l : SensorLink) : Prop := t.links = p.links.set i l

/-- A packet on an OFF link, or one whose reception began too early, changes nothing; a packet that fails a check counts in the
counter of the first check it fails, and moves neither state, L nor quiet timer, and raises no event (R1 to R5). -/
def Obligations.FailedSegmentsCountOnce : Prop :=
  ∀ (s : State) (i : LinkIx) (packet : List Byte),
    let l := s.part.links.get i
    let c := l.counters
    let counted (c' : SensorCounters) := ∃ t, exec (.segmentArrival i false packet) s = .next t ∧ t.pending = s.pending ∧
      linkBecomes s.part t.part i { l with counters := c' } ∧ t.part.sameBut s.part [.links]
    exec (.segmentArrival i true packet) s = .next s ∧
    (l.state = .off → exec (.segmentArrival i false packet) s = .next s) ∧
    (l.state ≠ .off → segmentMalformed packet → counted { c with format := c.format + 1 }) ∧
    (l.state ≠ .off → ¬ segmentMalformed packet → crcMatches packet = false → counted { c with crc := c.crc + 1 }) ∧
    (l.state ≠ .off → ¬ segmentMalformed packet → crcMatches packet = true →
      (byteAt packet 1).toNat ≠ l.expectedId → counted { c with foreign := c.foreign + 1 }) ∧
    (l.state ≠ .off → ¬ segmentMalformed packet → crcMatches packet = true →
      (byteAt packet 1).toNat = l.expectedId → segmentMisplaced (s.part.geo.n.get i) packet →
      counted { c with geometry := c.geometry + 1 })

/-- A valid segment counts VALID, becomes L and starts the quiet timer. In TRACKING, and in ACQUIRING when it is of frame L + 1,
which moves the link to TRACKING, it is discarded as STOPPED in a stopped loop, as OVERRUN with a full FIFO, and joins the FIFO
otherwise. In any other case it counts UNTRACKED, and a QUIET link becomes ACQUIRING. A change of state raises SENSOR_LINK (R6 to
R8, R10, R11, R15). -/
def Obligations.ValidSegmentMovesTheLink : Prop :=
  ∀ (s : State) (i : LinkIx) (packet : List Byte),
    let l := s.part.links.get i
    let frame := field16 packet 2
    let admits := l.state = .tracking ∨ (l.state = .acquiring ∧ l.lastFrame = some (frame - 1))
    l.state ≠ .off → segmentValid s.part i packet →
      ∃ (t : State) (state : LinkState) (fifo : List Segment) (c : SensorCounters),
        exec (.segmentArrival i false packet) s = .next t ∧ t.pending = s.pending ∧
        linkBecomes s.part t.part i { l with
          state := state
          lastFrame := some frame
          quietTimer := some (s.part.tlu.timebase + BitVec.ofNat 64 (1000 * l.quietMs))
          fifo := fifo
          counters := { c with valid := l.counters.valid + 1 } } ∧
        (admits → state = .tracking) ∧ (¬ admits → state = .acquiring) ∧
        (¬ admits → fifo = l.fifo ∧ c = { l.counters with untracked := l.counters.untracked + 1 }) ∧
        (admits → s.part.lpc.loop = .stopped →
          fifo = l.fifo ∧ c = { l.counters with stopped := l.counters.stopped + 1 }) ∧
        (admits → s.part.lpc.loop ≠ .stopped → 16 ≤ l.fifo.length →
          fifo = l.fifo ∧ c = { l.counters with overrun := l.counters.overrun + 1 }) ∧
        (admits → s.part.lpc.loop ≠ .stopped → l.fifo.length < 16 →
          fifo = l.fifo ++ [⟨i, frame, (byteAt packet 4).toNat, segRecords packet⟩] ∧
            c = { l.counters with delivered := l.counters.delivered + 1 }) ∧
        t.part.tlu = { s.part.tlu with
          events := if state = l.state then s.part.tlu.events else withFlag s.part.tlu.events .sensorLink } ∧
        t.part.issued = s.part.issued ++ (if state = l.state then [] else s.part.signal .sensorLink) ∧
        t.part.sameBut s.part [.links, .tlu, .issued]

/-- The quiet timer of a link expires at its time: in TRACKING the link becomes QUIET and raises SENSOR_LINK, with L and the FIFO
kept; in ACQUIRING L becomes none and no event is raised; either way the timer stops, and time has reached the expiry, as the
model reads it (R9, R15; log entry 10; a timer that runs in OFF or QUIET, which no run reaches, just stops, log entry 2). -/
def Obligations.QuietTimerExpires : Prop :=
  ∀ (s : State) (i : LinkIx) (at_ : Time), (s.part.links.get i).quietTimer = some at_ →
    let l := s.part.links.get i
    ∃ t, exec (.quietTimerExpiry i) s = .next t ∧ t.pending = s.pending ∧
      (l.state = .tracking → linkBecomes s.part t.part i { l with state := .quiet, quietTimer := none } ∧
        t.part.tlu.events = withFlag s.part.tlu.events .sensorLink ∧
        t.part.issued = s.part.issued ++ s.part.signal .sensorLink) ∧
      (l.state = .acquiring → linkBecomes s.part t.part i { l with lastFrame := none, quietTimer := none } ∧
        t.part.tlu.events = s.part.tlu.events ∧ t.part.issued = s.part.issued) ∧
      (l.state = .off ∨ l.state = .quiet → linkBecomes s.part t.part i { l with quietTimer := none } ∧
        t.part.tlu.events = s.part.tlu.events ∧ t.part.issued = s.part.issued) ∧
      t.part.tlu = { s.part.tlu with timebase := t.part.tlu.timebase, events := t.part.tlu.events } ∧
      reached t.part.tlu.timebase at_ = true ∧ t.part.sameBut s.part [.links, .tlu, .issued]

/-- SET_SENSOR refuses a link index, an enable, an expected id or a policy out of range, and changes nothing then. Otherwise it
stores the enable, the id and the clamped quiet interval, restarts link admission where the link is enabled or its id changes,
empties a link that it disables, writes the sensor's conditioning values into the shadow, which commits at once in a stopped loop,
and finishes DONE, with the ADJUSTED note for a clamp; where the link state changes, SENSOR_LINK is raised before the result is
written (R15, R16, R17, R44, R45). -/
def Obligations.SetSensorEffects : Prop :=
  ∀ (s : State) (h : OrderHead) (q : SensorOrderParams), s.part.readyFor h →
    let bad := 3 < q.link.toNat ∨ 1 < q.enable.toNat ∨ 15 < q.expectedId.toNat ∨ 2 < q.policy.toNat
    (bad → ∃ t, exec (.setSensor h q) s = .next t ∧ t.pending = s.pending ∧
      s.part.Answered h (.failed .badParameter) s.part.xu s.part.tlu [] t.part) ∧
    (∀ i : LinkIx, q.link.toNat = i.val → ¬ bad →
      let l := s.part.links.get i
      let quiet := max 1 (min 255 q.quietMs.toNat)
      let keep := max 1 (min 255 q.keepLimit.toNat)
      let stored := { l with enable := decide (q.enable = 1), expectedId := q.expectedId.toNat, quietMs := quiet }
      let restart (st : LinkState) := { stored with state := st, lastFrame := none, quietTimer := none, fifo := [] }
      ∃ (t : State) (l' : SensorLink) (par : Four SensorParam), exec (.setSensor h q) s = .next t ∧ t.pending = s.pending ∧
        linkBecomes s.part t.part i l' ∧
        (l.state = .off → q.enable = 0 → l' = stored) ∧
        (l.state ≠ .off → q.enable = 0 → l' = restart .off) ∧
        (l.state = .off → q.enable = 1 → l' = restart .acquiring) ∧
        (l.state ≠ .off → q.enable = 1 → q.expectedId.toNat ≠ l.expectedId → l' = restart .acquiring) ∧
        (l.state ≠ .off → q.enable = 1 → q.expectedId.toNat = l.expectedId → l' = stored) ∧
        par.get i = ⟨q.fluxFloor, q.weight, if q.policy = 0 then .keep else if q.policy = 1 then .zero else .require, keep⟩ ∧
        (∀ j, j ≠ i → par.get j =
          if s.part.scn.parWaiting then s.part.scn.parShadow.get j else s.part.scn.parLive.get j) ∧
        t.part.scn = (if s.part.lpc.loop = .stopped then
            { s.part.scn with parShadow := par, parLive := par, parWaiting := false }
          else { s.part.scn with parShadow := par, parWaiting := true }) ∧
        t.part.xu = { s.part.xu with nextTicket := s.part.xu.nextTicket + 1 } ∧
        (l'.state = l.state → s.part.Answered h
          (.adjustedDone (decide (q.quietMs.toNat ≠ quiet ∨ q.keepLimit.toNat ≠ keep))) s.part.xu s.part.tlu
          [.links, .scn] t.part) ∧
        (l'.state ≠ l.state → raisedOrderDone .sensorLink s.part t.part h
          (.adjustedDone (decide (q.quietMs.toNat ≠ quiet ∨ q.keepLimit.toNat ≠ keep))) [.links, .scn]))

/-! ## Frame assembly (chapter 2) -/

/-- SET_GEOMETRY is refused outside STOPPED, and for a count or a sum out of range; otherwise it replaces the whole geometry and
sets its mark. A pending swap stays where its target still fits; where it does not, the swap is cancelled and its order finishes
FAILED GEOMETRY_MISMATCH (R21, R84), with its result before that of SET_GEOMETRY, which is the model's choice (log entry 37). -/
def geometryReplaced : Prop :=
  ∀ (s : State) (h : OrderHead) (q : GeometryParams), s.part.readyFor h →
    let p := s.part
    let bad := (∃ i, 2560 < (q.n.get i).toNat) ∨ 4096 < q.a0.toNat ∨ 4096 < q.a1.toNat ∨
      q.a0.toNat + q.a1.toNat < 1 ∨ 4096 < q.a0.toNat + q.a1.toNat
    let fits (b : BankIx) := (p.mxs.banks.get b).s = 2 * (q.n.f0.toNat + q.n.f1.toNat + q.n.f2.toNat + q.n.f3.toNat) ∧
      (p.mxs.banks.get b).a = q.a0.toNat + q.a1.toNat
    ∃ t, exec (.setGeometry h q) s = .next t ∧ t.pending = s.pending ∧
      (p.lpc.loop ≠ .stopped → p.Answered h (.failed .wrongState) p.xu p.tlu [] t.part) ∧
      (p.lpc.loop = .stopped → bad → p.Answered h (.failed .badParameter) p.xu p.tlu [] t.part) ∧
      (p.lpc.loop = .stopped → ¬ bad →
        (∀ i, t.part.geo.n.get i = (q.n.get i).toNat) ∧ t.part.geo.a0 = q.a0.toNat ∧ t.part.geo.a1 = q.a1.toNat ∧
        t.part.geo.isSet = true ∧
        ((∀ w, p.mxs.pendingSwap = some w → fits w.target) → p.Answered h .done p.xu p.tlu [.geo] t.part) ∧
        (∀ w, p.mxs.pendingSwap = some w → ¬ fits w.target →
          t.part.mxs = { p.mxs with pendingSwap := none } ∧
          t.part.xu = { p.xu with nextTicket := p.xu.nextTicket + 1 } ∧
          (∃ m : Part, orderFinished (orderTaken p h) m (headOf w.order) (.failed .geometryMismatch) ∧
            m.sameBut (orderTaken p h) [.tlu, .issued] ∧ orderFinished m t.part h .done) ∧
          t.part.sameBut p [.geo, .mxs, .xu, .tlu, .issued]))

/-- Slopes are numbered sensor by sensor, each sensor's from where the one before ended, so that the sensors' runs cover 0 to S − 1
once each (R22). -/
def slopesNumbered : Prop :=
  ∀ g : Geometry, g.base 0 = 0 ∧ (∀ i : Fin 3, g.base i.succ = g.base i.castSucc + 2 * g.n.get i.castSucc) ∧
    g.slopeList.map Prod.fst = List.range g.slopes ∧
    ∀ (j : Nat) (i : LinkIx), (j, i) ∈ g.slopeList ↔ g.base i ≤ j ∧ j < g.base i + 2 * g.n.get i

/-- SET_GEOMETRY, and the numbering of the slopes that the geometry gives (R21, R22, R84). -/
def Obligations.GeometryReplacedAndNumbered : Prop := geometryReplaced ∧ slopesNumbered

/-- SET_LOOP stores its five values, the four ranged ones clamped, in every loop state, and finishes DONE with the ADJUSTED note
for a clamp (R39, R124). -/
def loopValuesStored : Prop :=
  ∀ (s : State) (h : OrderHead) (q : LoopOrderParams), s.part.readyFor h →
    let w := max 20 (min 20000 q.windowUs.toNat)
    let a := max 1 (min 255 q.abandonLimit.toNat)
    let g := max 1 (min 1000 q.gapMs.toNat)
    let d := max 1 (min 255 q.divergenceLimit.toNat)
    ∃ t, exec (.setLoop h q) s = .next t ∧ t.pending = s.pending ∧
      t.part.fra = { s.part.fra with windowUs := w, abandonLimit := a, gapMs := g } ∧
      t.part.lpc = { s.part.lpc with threshold := q.threshold, divLimit := d } ∧
      s.part.Answered h (.adjustedDone (decide (q.windowUs.toNat ≠ w ∨ q.abandonLimit.toNat ≠ a ∨ q.gapMs.toNat ≠ g ∨
        q.divergenceLimit.toNat ≠ d))) s.part.xu s.part.tlu [.fra, .lpc] t.part

/-- The link that admission searches first finds none before it: i is the first link after the round-robin position, which is
itself last, whose FIFO is not empty (R24). -/
def admissionTakes (p : Part) (i : LinkIx) : Prop :=
  ∃ d : Nat, 1 ≤ d ∧ d ≤ 4 ∧ i.val = (p.fra.rr.val + d) % 4 ∧ (p.links.get i).fifo ≠ [] ∧
    ∀ (e : Nat) (j : LinkIx), 1 ≤ e → e < d → j.val = (p.fra.rr.val + e) % 4 → (p.links.get j).fifo = []

/-- The part with the head of link i's FIFO taken (R12, R24). -/
def headTaken (p : Part) (i : LinkIx) : Four SensorLink :=
  p.links.set i { p.links.get i with fifo := (p.links.get i).fifo.tail }

/-- Admission with room in the work queue takes a head in round-robin order. A segment of a frame that a collecting slot holds is
LATE where its sensor is absent, a DUPLICATE where its index is received, and otherwise joins the received set and the tail of the
work queue. A slot that it leaves incomplete goes on collecting; a slot that it completes is sealing, and so is the other slot where
that is older and still collects (R12, R24, R25, R30, R32). -/
def admittedToASlot : Prop :=
  ∀ (s : State) (i : LinkIx) (k : SlotIx) (seg : Segment) (rest : List Segment),
    s.part.fra.queue.length < 64 → admissionTakes s.part i → (s.part.links.get i).fifo = seg :: rest → seg.link = i →
    (s.part.slot k).collecting = true → (s.part.slot k).frame = seg.frame →
    ((s.part.slot (other k)).collecting = true → (s.part.slot (other k)).frame ≠ seg.frame) →
    let x := s.part.slot k
    let o := s.part.slot (other k)
    let l := { s.part.links.get i with fifo := rest }
    let c := l.counters
    ∃ t, exec .admitSegment s = .next t ∧ t.pending = s.pending ∧
      (x.present.get i = false →
        t.part.links = s.part.links.set i { l with counters := { c with late := c.late + 1 } } ∧
        t.part.fra = { s.part.fra with rr := i } ∧ t.part.sameBut s.part [.links, .fra]) ∧
      (x.present.get i = true → seg.index ∈ x.received.get i →
        t.part.links = s.part.links.set i { l with counters := { c with duplicate := c.duplicate + 1 } } ∧
        t.part.fra = { s.part.fra with rr := i } ∧ t.part.sameBut s.part [.links, .fra]) ∧
      (x.present.get i = true → seg.index ∉ x.received.get i →
        t.part.links = headTaken s.part i ∧ t.part.sameBut s.part [.links, .fra] ∧
        t.part.fra.queue = s.part.fra.queue ++ [⟨k, seg⟩] ∧ t.part.fra.rr = i ∧
        (t.part.slot k).received = x.received.set i (x.received.get i ++ [seg.index]) ∧
        (t.part.slotComplete k = false → t.part.fra = { s.part.fra with
          rr := i
          queue := s.part.fra.queue ++ [⟨k, seg⟩]
          slots := s.part.fra.slots.set k { x with received := x.received.set i (x.received.get i ++ [seg.index]) } }) ∧
        (t.part.slotComplete k = true →
          t.part.fra = { s.part.fra with
            rr := i
            queue := s.part.fra.queue ++ [⟨k, seg⟩]
            slots := t.part.fra.slots } ∧
          t.part.slot k = { x with received := x.received.set i (x.received.get i ++ [seg.index]), sealing := true } ∧
          ((o.collecting = true ∧ newer x.frame o.frame = true) → t.part.slot (other k) = { o with sealing := true }) ∧
          (¬ (o.collecting = true ∧ newer x.frame o.frame = true) → t.part.slot (other k) = o)))

/-- A segment that opens no frame is LATE where a frame or link condition fails, and NO_SLOT where only a FREE slot is missing; its
head is gone either way (R26, R27). -/
def opensNoFrame : Prop :=
  ∀ (s : State) (i : LinkIx) (seg : Segment) (rest : List Segment),
    s.part.fra.queue.length < 64 → admissionTakes s.part i → (s.part.links.get i).fifo = seg :: rest → seg.link = i →
    (∀ k, (s.part.slot k).collecting = true → (s.part.slot k).frame ≠ seg.frame) →
    let opens := (∀ h, s.part.fra.highest = some h → newer seg.frame h = true) ∧
      (∀ k, (s.part.slot k).state ≠ .free → newer seg.frame (s.part.slot k).frame = true) ∧
      (s.part.links.get i).state = .tracking
    let l := { s.part.links.get i with fifo := rest }
    let c := l.counters
    (¬ opens → ∃ t, exec .admitSegment s = .next t ∧ t.pending = s.pending ∧
      t.part.links = s.part.links.set i { l with counters := { c with late := c.late + 1 } } ∧
      t.part.fra = { s.part.fra with rr := i } ∧ t.part.sameBut s.part [.links, .fra]) ∧
    (opens → (∀ k, (s.part.slot k).state ≠ .free) → ∃ t, exec .admitSegment s = .next t ∧ t.pending = s.pending ∧
      t.part.links = s.part.links.set i { l with counters := { c with noSlot := c.noSlot + 1 } } ∧
      t.part.fra = { s.part.fra with rr := i } ∧ t.part.sameBut s.part [.links, .fra])

/-- Admission of a segment of a frame that a slot collects, and of one that opens no frame (R12, R24 to R27, R30, R32). -/
def Obligations.AdmissionWithoutANewFrame : Prop := admittedToASlot ∧ opensNoFrame

/-- A segment that meets the conditions of R26 opens its frame in the FREE slot of lowest index, with the deadline one assembly
window away, the present set of the TRACKING links with subapertures, the received set of the segment alone, cleared accumulators,
slope statuses and residual record, and itself in the work queue. Where the other slot is not ASSEMBLING, the waiting slope-side
shadows become live and a pending swap takes effect first, its order finishing DONE, so that the slot records the new bank and the
swap-frame mark; beside an ASSEMBLING slot both wait. A frame complete at once is sealing, and so is an older one that still
collects (R14, R26, R28 to R30, R32, R44, R50, R61, R83). -/
def Obligations.AdmissionOpensAFrame : Prop :=
  ∀ (s : State) (i : LinkIx) (k : SlotIx) (b : BankIx) (seg : Segment) (rest : List Segment),
    s.part.fra.queue.length < 64 → admissionTakes s.part i → (s.part.links.get i).fifo = seg :: rest → seg.link = i →
    (∀ k, (s.part.slot k).collecting = true → (s.part.slot k).frame ≠ seg.frame) →
    (∀ h, s.part.fra.highest = some h → newer seg.frame h = true) →
    (∀ k, (s.part.slot k).state ≠ .free → newer seg.frame (s.part.slot k).frame = true) →
    (s.part.links.get i).state = .tracking → 0 < s.part.geo.n.get i →
    (s.part.slot k).state = .free → (k = 1 → (s.part.slot 0).state ≠ .free) → s.part.mxs.activeBank = some b →
    let p := s.part
    let x := p.slot (other k)
    let commits := x.state ≠ .assembling
    let swap := if commits then p.mxs.pendingSwap else none
    ∃ t, exec .admitSegment s = .next t ∧ t.pending = s.pending ∧
      t.part.links = headTaken p i ∧
      t.part.slot k = { AsmSlot.cleared with
        state := .assembling
        sealing := t.part.slotComplete k
        frame := seg.frame
        openTime := p.tlu.timebase
        deadline := p.tlu.timebase + BitVec.ofNat 64 p.fra.windowUs
        bank := match swap with
          | some w => w.target
          | none => b
        swapFrame := decide (p.fra.freshBank = true ∨ swap.isSome = true)
        present := Four.make fun j => decide ((p.links.get j).state = .tracking ∧ 0 < p.geo.n.get j)
        received := (Four.all []).set i [seg.index] } ∧
      t.part.slot (other k) = { x with
        sealing := decide (x.sealing = true ∨ (t.part.slotComplete k = true ∧ x.state = .assembling)) } ∧
      t.part.fra = { p.fra with
        slots := t.part.fra.slots
        queue := p.fra.queue ++ [⟨k, seg⟩]
        rr := i
        highest := some seg.frame
        freshBank := false } ∧
      t.part.scn = { p.scn with
        refLive := if commits ∧ p.scn.refWaiting = true then p.scn.refShadow else p.scn.refLive
        refWaiting := decide (p.scn.refWaiting = true ∧ ¬ commits)
        parLive := if commits ∧ p.scn.parWaiting = true then p.scn.parShadow else p.scn.parLive
        parWaiting := decide (p.scn.parWaiting = true ∧ ¬ commits)
        records := p.scn.records.set k ⟨[], 0, 0, 0⟩ } ∧
      t.part.rca = { p.rca with
        acc := p.rca.acc.set k []
        residual := p.rca.residual.set k { p.rca.residual.get k with valid := false } } ∧
      (swap = none → t.part.sameBut p [.links, .fra, .scn, .rca]) ∧
      (∀ w, swap = some w →
        t.part.mxs.banks.get w.target = { p.mxs.banks.get w.target with state := .active } ∧
        t.part.mxs.banks.get (other w.target) = { p.mxs.banks.get (other w.target) with
          state := if (p.mxs.banks.get (other w.target)).state = .active then .ready
            else (p.mxs.banks.get (other w.target)).state } ∧
        t.part.mxs = { p.mxs with pendingSwap := none, banks := t.part.mxs.banks } ∧
        orderFinished p t.part (headOf w.order) .done ∧
        t.part.sameBut p [.links, .fra, .scn, .rca, .mxs, .tlu, .issued])

/-- A collecting slot's deadline sets its sealing mark, and before it that of an older slot that still collects; for any other
slot the expiry does nothing (R31, R32). That time has reached the expiry is the model's reading (log entry 10). -/
def deadlineSeals : Prop :=
  ∀ (s : State) (k : SlotIx),
    let x := s.part.slot k
    let y := s.part.slot (other k)
    (¬ (x.state = .assembling ∧ x.sealing = false) → exec (.deadlineExpiry k) s = .next s) ∧
    (x.state = .assembling → x.sealing = false →
      ∃ t, exec (.deadlineExpiry k) s = .next t ∧ t.pending = s.pending ∧
        t.part.slot k = { x with sealing := true } ∧
        t.part.slot (other k) =
          { y with sealing := decide (y.sealing = true ∨ (y.state = .assembling ∧ newer x.frame y.frame = true)) } ∧
        t.part.fra = { s.part.fra with slots := t.part.fra.slots } ∧
        t.part.tlu = { s.part.tlu with timebase := t.part.tlu.timebase } ∧
        reached t.part.tlu.timebase x.deadline = true ∧ t.part.sameBut s.part [.fra, .tlu])

/-- Slot k's seal is to be decided now: it is sealing and drained, no decision has been made, and no older slot is sealing before
it (R32, R33). -/
def sealDue (p : Part) (k : SlotIx) : Prop :=
  (p.slot k).state = .assembling ∧ (p.slot k).sealing = true ∧ (p.slot k).sealKind = none ∧
    (∀ e ∈ p.fra.queue, e.slot ≠ k) ∧
    ¬ ((p.slot (other k)).state = .assembling ∧ (p.slot (other k)).sealing = true ∧
      newer (p.slot k).frame (p.slot (other k)).frame = true)

/-- The sensor is present in the slot's frame, and every segment index of it is received. -/
abbrev sensorComplete (p : Part) (k : SlotIx) (i : LinkIx) : Prop := segmentsWhole p.geo (p.slot k) i

/-- A sensor with subapertures whose policy is REQUIRE is absent or lacks a segment, so that the frame is ABANDONED (R33). -/
def frameAbandoned (p : Part) (k : SlotIx) : Prop :=
  ∃ i, 0 < p.geo.n.get i ∧ (p.scn.parLive.get i).policy = .require ∧ ¬ sensorComplete p k i

/-- INCOMPLETE rises once on each present sensor that lacks a segment (R36). -/
def incompleteCounted (p t : Part) (k : SlotIx) : Prop :=
  ∀ i, t.links.get i = { p.links.get i with counters := { (p.links.get i).counters with
    incomplete := t.links.get i |>.counters.incomplete } } ∧
    ((p.slot k).present.get i = true → ¬ sensorComplete p k i →
      (t.links.get i).counters.incomplete = (p.links.get i).counters.incomplete + 1) ∧
    (¬ ((p.slot k).present.get i = true ∧ ¬ sensorComplete p k i) →
      (t.links.get i).counters.incomplete = (p.links.get i).counters.incomplete)

/-- An accumulator of a slot's set (R61). -/
def accumulatorAt (p : Part) (k : SlotIx) (a : Nat) : BitVec 48 := Sparse.get 0 (p.rca.acc.get k) a

/-- The entry of the kept slope table at a slope (section 3.1). -/
def keptAt (p : Part) (j : Nat) : Kept := Sparse.get Kept.powerOn p.scn.kept j

/-- The residuals of a slot are extracted with the scale exponent of the slot's bank, for each actuator of the geometry, from
accumulators that stay; RESID_SAT counts those that saturate (R65, R66). -/
def extractionBegun (p t : Part) (k : SlotIx) : Prop :=
  let e := (p.mxs.banks.get (p.slot k).bank).e
  let count := p.geo.a0 + p.geo.a1
  let r := t.rca.residual.get k
  (∀ a, Sparse.get 0 r.e a = if a < count then residualOf e (accumulatorAt p k a) else 0) ∧
  r.resSat = ((List.range count).filter fun a => residualSaturates e (accumulatorAt p k a)).length ∧
  t.rca = { p.rca with
    extracting := some k
    residual := p.rca.residual.set k { p.rca.residual.get k with e := r.e, resSat := r.resSat } }

/-- Substitution takes the conditioner for a slot. The slopes are visited in ascending order: a VALID one refreshes its kept
entry, any other becomes SUBSTITUTED, is counted, and ages its kept entry. It visits the slopes below n, and no slope from n on is
touched: either all S, none with a value to hand on, so that extraction begins at once; or up to slope n − 1, the first whose
substituted value is not 0, which waits to be handed on (R54 to R57, R65; that a visit is the smallest step is the model's choice,
log entry 14). -/
def substitutionBegun (p t : Part) (k : SlotIx) : Prop :=
  let visit (x : Nat × LinkIx) := substituteSlope (p.scn.parLive.get x.2) (keptAt p x.1) (slopeStatus p k x.1)
  let silent (x : Nat × LinkIx) : Prop := (visit x).value.getD 0 = 0
  let before := p.scn.records.get k
  ∃ n ≤ p.geo.slopes,
    (∀ x ∈ p.geo.slopeList, x.1 < n → slopeStatus t k x.1 = (visit x).status ∧ keptAt t x.1 = (visit x).kept) ∧
    (∀ j, n ≤ j → slopeStatus t k j = slopeStatus p k j ∧ keptAt t j = keptAt p j) ∧
    t.scn.records.get k = { before with
      status := (t.scn.records.get k).status
      substituted := before.substituted + (p.geo.slopeList.take n).countP fun x => (visit x).value.isSome } ∧
    t.scn = { p.scn with
      records := p.scn.records.set k (t.scn.records.get k)
      kept := t.scn.kept
      job := t.scn.job
      substDue := none } ∧
    (∀ x ∈ p.geo.slopeList, x.1 + 1 < n → silent x) ∧
    ((n = p.geo.slopes ∧ (∀ x ∈ p.geo.slopeList, silent x) ∧ t.scn.job = none ∧ extractionBegun p t k) ∨
      ∃ x ∈ p.geo.slopeList, ∃ c, x.1 + 1 = n ∧ (visit x).value = some c ∧ c ≠ 0 ∧ t.rca = p.rca ∧
        t.scn.job = some ⟨.substitution, k, p.geo.slopeVisits.drop n, [(x.1, c)]⟩)

/-- A seal that is not abandoned is COMPLETE when every present sensor has all its segments and PARTIAL otherwise. The decision
records kind and time, counts INCOMPLETE, starts the frame-gap timer, zeroes the consecutive-abandon count, and leaves the slot in
its seal, whose substitution begins, or is due at the end of the entry that is being processed (R33, R34, R36 to R38, R54). -/
def sealGoesOn : Prop :=
  ∀ (s : State) (k : SlotIx), sealDue s.part k → (k = 1 → ¬ sealDue s.part 0) → ¬ frameAbandoned s.part k →
    ∃ t, exec .sealDecision s = .next t ∧ t.pending = s.pending ∧
      (∃ kind, ((∀ i, (s.part.slot k).present.get i = true → sensorComplete s.part k i) → kind = .complete) ∧
        (¬ (∀ i, (s.part.slot k).present.get i = true → sensorComplete s.part k i) → kind = .partialSeal) ∧
        t.part.fra = { s.part.fra with
          slots := s.part.fra.slots.set k
            { s.part.slot k with sealKind := some kind, sealTime := s.part.tlu.timebase }
          lastSealed := some ((s.part.slot k).frame, kind)
          gapTimer := some (s.part.tlu.timebase + BitVec.ofNat 64 (1000 * s.part.fra.gapMs))
          abandons := 0 }) ∧
      (s.part.scn.job = none → substitutionBegun s.part t.part k) ∧
      (s.part.scn.job.isSome = true → t.part.scn = { s.part.scn with substDue := some k } ∧ t.part.rca = s.part.rca) ∧
      incompleteCounted s.part t.part k ∧ t.part.sameBut s.part [.links, .fra, .scn, .rca]

/-- An ABANDONED seal ends at the decision: the slot is FREE, its accumulators are cleared, the slope conditioner is left as it
was, the frame's record is formed, with a substituted count of 0, and handled, the consecutive-abandon count rises to at most 255,
and at the abandon limit SENSOR_LOSS is taken as a hold cause (R33, R35 to R38, R57, R99, R178). That the record is formed before
the count rises is the model's reading (log entry 19). -/
def abandonedSealEnds : Prop :=
  ∀ (s : State) (k : SlotIx), sealDue s.part k → (k = 1 → ¬ sealDue s.part 0) → frameAbandoned s.part k →
    let n := min 255 (s.part.fra.abandons + 1)
    let record := { recordOf s.part k s.part.geo .abandoned s.part.lpc.loop with
      sealOffset := some ((s.part.tlu.timebase - (s.part.slot k).openTime).setWidth 32)
      substituted := 0 }
    ∃ t, exec .sealDecision s = .next t ∧ t.pending = s.pending ∧
      t.part.fra = { s.part.fra with
        slots := s.part.fra.slots.set k { s.part.slot k with
          state := .free
          sealing := false
          sealKind := some .abandoned
          sealTime := s.part.tlu.timebase }
        lastSealed := some ((s.part.slot k).frame, .abandoned)
        gapTimer := some (s.part.tlu.timebase + BitVec.ofNat 64 (1000 * s.part.fra.gapMs))
        abandons := n } ∧
      t.part.rca = { s.part.rca with acc := s.part.rca.acc.set k [] } ∧ incompleteCounted s.part t.part k ∧
      (let m := ({ s.part with fra := t.part.fra } : Part).submitRecord record
       t.part.tel = m.tel ∧
       (n < s.part.fra.abandonLimit → t.part.lpc = s.part.lpc ∧ t.part.tlu = m.tlu ∧ t.part.issued = m.issued) ∧
       (s.part.fra.abandonLimit ≤ n → holdReported m t.part .sensorLoss)) ∧
      t.part.sameBut s.part [.links, .fra, .rca, .lpc, .tel, .tlu, .issued]

/-- The seal decision, for a frame that goes on to its substitution and for one that is abandoned (R33 to R38, R54). -/
def Obligations.SealDecided : Prop := sealGoesOn ∧ abandonedSealEnds

/-- The frame-gap timer expires at its time: it stops, and SENSOR_LOSS is taken as a hold cause, which raises LOOP_STATE, with its
message where the mask asks for one, in OPEN and CLOSED, and raises and sends nothing in the other states; without a running timer
nothing happens (R38, R94, R99, R206; that time has reached the expiry is the model's reading, log entry 10). -/
def frameGapExpires : Prop :=
  ∀ s : State,
    (s.part.fra.gapTimer = none → exec .frameGapExpiry s = .next s) ∧
    (∀ at_, s.part.fra.gapTimer = some at_ → ∃ t, exec .frameGapExpiry s = .next t ∧ t.pending = s.pending ∧
      reached t.part.tlu.timebase at_ = true ∧
      let expired : Part := { s.part with
        fra := { s.part.fra with gapTimer := none }
        tlu := { s.part.tlu with timebase := t.part.tlu.timebase } }
      holdReported expired t.part .sensorLoss ∧ t.part.sameBut expired [.lpc, .tlu, .issued])

/-- The timers of the frame assembler: a slot's deadline, and the frame gap (R31, R32, R38, R94, R99, R206). -/
def Obligations.AssemblyTimersExpire : Prop := deadlineSeals ∧ frameGapExpires

/-! ## Slope conditioning (chapter 3) -/

/-- A value brought to the range of a signed 16-bit number. -/
def clamped16 (z v : Int) : Prop := (v = z ∧ -32768 ≤ z ∧ z ≤ 32767) ∨ (v = 32767 ∧ 32767 < z) ∨ (v = -32768 ∧ z < -32768)

/-- The conditioned value: the saturated difference times the weight, divided by 16,384 with rounding half up, saturated; the slope
counts as saturated when either step saturates (R52). -/
def slopeConditioned : Prop :=
  ∀ x ref w : BitVec 16, ∃ d z : Int,
    clamped16 (x.toInt - ref.toInt) d ∧
    16384 * z ≤ d * w.toNat + 8192 ∧ d * w.toNat + 8192 < 16384 * (z + 1) ∧
    clamped16 z (conditionSlope x ref w).value.toInt ∧
    ((conditionSlope x ref w).saturated = true ↔ d ≠ x.toInt - ref.toInt ∨ z ≠ (conditionSlope x ref w).value.toInt)

/-- The two conditioned slopes of a record that stands at slope j. -/
def conditionedPair (p : Part) (i : LinkIx) (j : Nat) (r : SegRecord) : Conditioned × Conditioned :=
  (conditionSlope r.x (Sparse.get 0 p.scn.refLive j) (p.scn.parLive.get i).weight,
    conditionSlope r.y (Sparse.get 0 p.scn.refLive (j + 1)) (p.scn.parLive.get i).weight)

/-- A record's flux is below its sensor's flux floor (R51). -/
def fluxInvalid (p : Part) (i : LinkIx) (r : SegRecord) : Bool := decide (r.flux.toNat < (p.scn.parLive.get i).fluxFloor.toNat)

/-- The slope at which record n of a segment stands (R22). -/
def slopeOfRecord (p : Part) (seg : Segment) (n : Nat) : Nat := p.geo.base seg.link + 2 * (64 * seg.index + n)

/-- How many slopes of a segment saturate as they are conditioned: each flux-valid one counts once, whichever step saturates
(R52). -/
def saturations (p : Part) (seg : Segment) : Nat :=
  ((List.range seg.records.length).map fun n =>
    let r := seg.records.getD n ⟨0, 0, 0⟩
    let c := conditionedPair p seg.link (slopeOfRecord p seg n) r
    if fluxInvalid p seg.link r then 0 else (if c.1.saturated then 1 else 0) + if c.2.saturated then 1 else 0).sum

/-- The values that record n of an entry hands on: its nonzero conditioned values, x before y, and none where its flux is invalid
(R51, R53). -/
def recordValues (p : Part) (seg : Segment) (n : Nat) : List (Nat × BitVec 16) :=
  let r := seg.records.getD n ⟨0, 0, 0⟩
  let j := slopeOfRecord p seg n
  let c := conditionedPair p seg.link j r
  if fluxInvalid p seg.link r then [] else [(j, c.1.value), (j + 1, c.2.value)].filter fun v => v.2 ≠ 0

/-- A free conditioner takes up the head of the work queue and goes through its records in order, up to the first that gives a
value to hand on, or through all. Each pair reached is judged by the flux floor: both slopes of an invalid pair become INVALID,
those of a valid pair VALID with their conditioned values, the counts rise, and no other slope moves. The nonzero values of the
last record reached wait to be handed on, with the records after it still to come; an entry without any value, its slot having
nothing left to add, leaves the queue at once (R51 to R53, R57; that a record is the smallest step is the model's choice, log
entry 14). -/
def Obligations.EntryIsConditioned : Prop :=
  ∀ (s : State) (e : QueueEntry) (rest : List QueueEntry), s.part.fra.queue = e :: rest →
    s.part.scn.job = none → s.part.scn.substDue = none →
    let p := s.part
    let seg := e.seg
    let i := seg.link
    let j := slopeOfRecord p seg
    let count := seg.records.length
    let before := p.scn.records.get e.slot
    ∃ (t : State) (job : Option ScnJob) (queue : List QueueEntry) (record : SlopeRecord),
      exec .processEntry s = .next t ∧ t.pending = s.pending ∧
      t.part.scn = { p.scn with records := p.scn.records.set e.slot record, job := job } ∧
      t.part.fra = { p.fra with queue := queue } ∧ t.part.sameBut p [.scn, .fra] ∧
      ∃ n ≤ count,
        (∀ m r, seg.records[m]? = some r → m < n → fluxInvalid p i r = true →
          slopeStatus t.part e.slot (j m) = .invalid ∧ slopeStatus t.part e.slot (j m + 1) = .invalid) ∧
        (∀ m r, seg.records[m]? = some r → m < n → fluxInvalid p i r = false →
          slopeStatus t.part e.slot (j m) = .valid (conditionedPair p i (j m) r).1.value ∧
          slopeStatus t.part e.slot (j m + 1) = .valid (conditionedPair p i (j m) r).2.value) ∧
        (∀ x, (∀ m < n, x ≠ j m ∧ x ≠ j m + 1) → slopeStatus t.part e.slot x = slopeStatus p e.slot x) ∧
        record.invalidPairs = before.invalidPairs + (seg.records.take n).countP (fluxInvalid p i) ∧
        record.slopeSat = before.slopeSat + saturations p { seg with records := seg.records.take n } ∧
        record.substituted = before.substituted ∧
        (∀ m, m + 1 < n → recordValues p seg m = []) ∧
        ((n = count ∧ (∀ m < count, recordValues p seg m = []) ∧
            ((∃ y ∈ p.rca.stream, y.slot = e.slot) → queue = e :: rest ∧ job = some ⟨.entry, e.slot, [], []⟩) ∧
            ((∀ y ∈ p.rca.stream, y.slot ≠ e.slot) → queue = rest ∧ job = none)) ∨
          ∃ m, m < count ∧ m + 1 = n ∧ recordValues p seg m ≠ [] ∧ queue = e :: rest ∧
            job = some ⟨.entry, e.slot,
              (seg.records.zipIdx.drop n).map fun x => .record (j x.2) i x.1, recordValues p seg m⟩)

/-- One visit of the conditioner. A record whose flux is below the floor makes both its slopes INVALID and is counted; otherwise
both become VALID with their conditioned values, saturated ones are counted, and the nonzero values are to be handed on, x before
y. A slope's visit at a seal does what substitution makes of it, counts it where it is substituted, and gives its value where that
is not 0. No other slope's status or kept entry moves (R51 to R54, R56). -/
def oneVisit : Prop :=
  ∀ (c : Scn) (w : SlopeWork) (j : Nat) (i : LinkIx) (r : SegRecord),
    let par := c.parLive.get i
    let at_ (u : SlopeWork) (k : Nat) : SlopeStatus := Sparse.get .missing u.record.status k
    let keeps (u : SlopeWork) (k : Nat) : Kept := Sparse.get Kept.powerOn u.kept k
    let x := conditionSlope r.x (Sparse.get 0 c.refLive j) par.weight
    let y := conditionSlope r.y (Sparse.get 0 c.refLive (j + 1)) par.weight
    let v := makeVisit c w (.record j i r)
    let u := makeVisit c w (.slope j i)
    let sub := substituteSlope par (keeps w j) (at_ w j)
    (∀ k, k ≠ j → k ≠ j + 1 → at_ v k = at_ w k) ∧
    (r.flux.toNat < par.fluxFloor.toNat → at_ v j = .invalid ∧ at_ v (j + 1) = .invalid ∧
      v = { w with record := { w.record with status := v.record.status, invalidPairs := w.record.invalidPairs + 1 } }) ∧
    (par.fluxFloor.toNat ≤ r.flux.toNat → at_ v j = .valid x.value ∧ at_ v (j + 1) = .valid y.value ∧
      v = { w with
        record := { w.record with
          status := v.record.status
          slopeSat := w.record.slopeSat + (if x.saturated then 1 else 0) + if y.saturated then 1 else 0 }
        values := w.values ++ [(j, x.value), (j + 1, y.value)].filter fun z => z.2 ≠ 0 }) ∧
    (∀ k, at_ u k = (if k = j then sub.status else at_ w k) ∧ keeps u k = if k = j then sub.kept else keeps w k) ∧
    u = { record := { w.record with
            status := u.record.status
            substituted := w.record.substituted + if sub.value.isSome then 1 else 0 }
          kept := u.kept
          values := w.values ++ [(j, sub.value.getD 0)].filter fun z => z.2 ≠ 0 }

/-- The conditioner has made the first n of the visits that stand before it, for slot k: all of them, or up to the first that
gives a value (R53, R56, R57). -/
def visited (c : Scn) (k : SlotIx) (visits : List Visit) (n : Nat) (w : SlopeWork) : Prop :=
  let after (m : Nat) := (visits.take m).foldl (makeVisit c) ⟨c.records.get k, c.kept, []⟩
  n ≤ visits.length ∧ w = after n ∧ (∀ m < n, (after m).values = []) ∧ (n < visits.length → w.values ≠ [])

/-- A value goes from the conditioner to the tail of the stream list when that holds fewer than 8 entries, and waits otherwise.
After the last value of a visit the conditioner goes on with the visits that are still to come (R53, R56, R57, R62). -/
def valueHandedOn : Prop :=
  ∀ (s : State) (kind : JobKind) (k : SlotIx) (visits : List Visit) (j : Nat) (c : BitVec 16) (todo : List (Nat × BitVec 16)),
    s.part.scn.job = some ⟨kind, k, visits, (j, c) :: todo⟩ →
    (8 ≤ s.part.rca.stream.length → exec .handOnValue s = .next s) ∧
    (s.part.rca.stream.length < 8 → (s.part.slotRecord k).a ≠ 0 →
      ∃ t, exec .handOnValue s = .next t ∧ t.pending = s.pending ∧
        t.part.rca = { s.part.rca with stream := s.part.rca.stream ++ [⟨k, j, c, 0, 0⟩] } ∧
        (todo ≠ [] → t.part.scn = { s.part.scn with job := some ⟨kind, k, visits, todo⟩ }) ∧
        (todo = [] → ∃ n w, visited s.part.scn k visits n w ∧ t.part.scn = { s.part.scn with
          records := s.part.scn.records.set k w.record
          kept := w.kept
          job := some ⟨kind, k, visits.drop n, w.values⟩ }) ∧
        t.part.sameBut s.part [.rca, .scn])

/-- What substitution makes of one slope: a VALID slope keeps its value and refreshes its kept entry; a MISSING or INVALID one takes
the kept value under KEEP while its age is below the keep limit and 0 otherwise, and its kept entry ages to at most 255 (R54). -/
def slopeSubstituted : Prop :=
  ∀ (par : SensorParam) (k : Kept) (c : BitVec 16) (st : SlopeStatus),
    substituteSlope par k (.valid c) = ⟨.valid c, ⟨c, 0⟩, none⟩ ∧
    (st = .missing ∨ st = .invalid →
      ∃ v, substituteSlope par k st = ⟨.substituted v, ⟨k.value, min 255 (k.age + 1)⟩, some v⟩ ∧
        (par.policy = .keep → k.age < par.keepLimit → v = k.value) ∧
        (par.policy = .keep → par.keepLimit ≤ k.age → v = 0) ∧ (par.policy ≠ .keep → v = 0))

/-- What conditioning and substitution make of one slope (R52, R54). -/
def Obligations.SlopesConditionedAndSubstituted : Prop := slopeConditioned ∧ slopeSubstituted

/-! ## Reconstruction (chapter 4) -/

/-- A residual: the accumulator divided by 2^E, rounded half up for E from 1 to 31 and taken as it is for E = 0, then saturated to
24 bits (R65, R66). -/
def residualTaken : Prop :=
  ∀ (e : Nat) (acc : BitVec 48), e ≤ 31 → ∃ z : Int,
    2 ^ e * z ≤ acc.toInt + (if e = 0 then 0 else 2 ^ (e - 1)) ∧
    acc.toInt + (if e = 0 then 0 else 2 ^ (e - 1)) < 2 ^ e * (z + 1) ∧
    ((residualOf e acc = z ∧ -8388608 ≤ z ∧ z ≤ 8388607 ∧ residualSaturates e acc = false) ∨
      (residualOf e acc = 8388607 ∧ 8388607 < z ∧ residualSaturates e acc = true) ∨
      (residualOf e acc = -8388608 ∧ z < -8388608 ∧ residualSaturates e acc = true))

/-- A column burst that arrives adds, for each coefficient it carries, the product of value and coefficient into the accumulator
of its slot's set, and touches no other accumulator and nothing of the other slot's set; the burst is no longer in progress. Its
value leaves the stream list when a burst has arrived for every 256-byte block that its column touches, and is otherwise one burst
further. A burst whose data is dropped adds nothing. While its value, or another of its slot, is still to be added, the
conditioner and the work queue stay; when the last value of an entry has been added, the entry leaves the queue, and a
substitution that waits for it begins (R53, R54, R63, R71). -/
def columnBurstAdds : Prop :=
  ∀ (s : State) (k : SlotIx) (j : Nat) (c : BitVec 16) (b : BankIx) (first count : Nat) (dropped : Bool) (more : List Burst),
    s.part.mxs.bursts = .stream k j c b first count dropped :: more →
    let width := (s.part.mxs.banks.get b).a
    ∃ t, exec .columnBurstArrival s = .next t ∧ t.pending = s.pending ∧
      t.part.mxs = { s.part.mxs with bursts := more } ∧
      (dropped = true → t.part.sameBut s.part [.mxs]) ∧
      (dropped = false →
        (∀ a, (∃ n < count, a = first + n - j * width) → accumulatorAt t.part k a =
          BitVec.ofInt 48 ((accumulatorAt s.part k a).toInt + c.toInt * s.part.coefficient b (j * width + a))) ∧
        (∀ a, (∀ n < count, a ≠ first + n - j * width) → accumulatorAt t.part k a = accumulatorAt s.part k a) ∧
        t.part.rca.acc.get (other k) = s.part.rca.acc.get (other k) ∧
        (∀ y ∈ t.part.rca.stream, y ∈ s.part.rca.stream ∨ ∃ z ∈ s.part.rca.stream, y = { z with arrived := z.arrived + 1 }) ∧
        (∀ before y after, s.part.rca.stream = before ++ y :: after → y.slot = k → y.slope = j →
          (∀ z ∈ before ++ after, ¬ (z.slot = k ∧ z.slope = j)) →
          let column := (s.part.slotRecord k).a
          let blocks := if column = 0 then 0 else (2 * (j * column + column) - 1) / 256 - 2 * (j * column) / 256 + 1
          t.part.rca.stream = before ++
            (if blocks ≤ y.arrived + 1 then [] else [{ y with arrived := y.arrived + 1 }]) ++ after) ∧
        ((∃ y ∈ t.part.rca.stream, y.slot = k) →
          (∀ d, s.part.scn.job = some d → d.kind = .substitution ∨ d.slot = k ∨ d.todo ≠ [] ∨ d.rest ≠ []) →
          t.part.sameBut s.part [.mxs, .rca]) ∧
        (s.part.scn.job = some ⟨.entry, k, [], []⟩ → (∀ y ∈ t.part.rca.stream, y.slot ≠ k) →
          t.part.fra = { s.part.fra with queue := s.part.fra.queue.tail } ∧ t.part.sameBut s.part [.mxs, .rca, .scn, .fra] ∧
          (s.part.scn.substDue = none → t.part.scn = { s.part.scn with job := none } ∧
            t.part.rca = { s.part.rca with acc := t.part.rca.acc, stream := t.part.rca.stream }) ∧
          (∀ m, s.part.scn.substDue = some m → ∃ q, exec .columnBurstArrival
              { s with part := { s.part with scn := { s.part.scn with substDue := none } } } = .next q ∧
            substitutionBegun q.part t.part m ∧ t.part.sameBut q.part [.scn, .rca])))

/-- The conditioner's visits, the values that join the stream list, and the bursts of their columns that are added (R51 to R54, R56,
R57, R62, R63, R71). -/
def Obligations.ValuesStreamAndAdd : Prop := oneVisit ∧ valueHandedOn ∧ columnBurstAdds

/-- A substitution whose visits are all made and whose last value has been added ends: the conditioner is free, and the residuals
of its slot are extracted with the scale exponent of the slot's bank, for each actuator of the geometry, from accumulators that
stay (R56, R65, R66; an extraction that begins without a value to hand on stands with the seal decision). -/
def substitutionEnds : Prop :=
  ∀ (s : State) (k : SlotIx), s.part.scn.job = some ⟨.substitution, k, [], []⟩ → (∀ y ∈ s.part.rca.stream, y.slot ≠ k) →
    ∃ t, exec .substitutionEnd s = .next t ∧ t.pending = s.pending ∧
      t.part.scn = { s.part.scn with job := none } ∧ extractionBegun s.part t.part k ∧ t.part.sameBut s.part [.scn, .rca]

/-- Extraction ends: the residual energy is the sum of the squares over the active actuators, the residual record is valid, and the
slot is SEALED with its sealing mark cleared (R34, R67, R68). -/
def extractionEnds : Prop :=
  ∀ (s : State) (k : SlotIx), s.part.rca.extracting = some k →
    let e (a : Nat) : Int := Sparse.get 0 (s.part.rca.residual.get k).e a
    ∃ t, exec .extractionEnd s = .next t ∧ t.pending = s.pending ∧
      t.part.rca = { s.part.rca with
        extracting := none
        residual := s.part.rca.residual.set k { s.part.rca.residual.get k with
          valid := true
          energy := BitVec.ofNat 64 (((List.range (s.part.geo.a0 + s.part.geo.a1)).filter fun a =>
            (s.part.lpc.limit a).active).map fun a => (e a).natAbs ^ 2).sum } } ∧
      t.part.fra = { s.part.fra with
        slots := s.part.fra.slots.set k { s.part.slot k with state := .sealed, sealing := false } } ∧
      t.part.sameBut s.part [.rca, .fra]

/-- From the end of substitution to the SEALED slot: each residual, their extraction, and the energy (R34, R56, R65 to R68). -/
def Obligations.ResidualsExtracted : Prop := residualTaken ∧ substitutionEnds ∧ extractionEnds

/-! ## Matrix banks (chapter 5) -/

/-- SWAP_MATRIX takes its conditions in order, and the first that holds decides: a target other than A or B, one that is ACTIVE,
not READY, of other dimensions than the geometry, a swap already pending, a stopped loop, in which the swap takes effect at once,
and otherwise the swap is pending and the order stays TAKEN (R82). -/
def Obligations.SwapMatrixDecides : Prop :=
  ∀ (s : State) (h : OrderHead) (target : Byte), s.part.readyFor h →
    let p := s.part
    let answers (r : OrderResult) := ∃ t, exec (.swapMatrix h target) s = .next t ∧ t.pending = s.pending ∧
      p.Answered h r p.xu p.tlu [] t.part
    (2 ≤ target.toNat → answers (.failed .badParameter)) ∧
    (∀ b : BankIx, target.toNat = b.val →
      let r := p.mxs.banks.get b
      let fits := r.s = 2 * (p.geo.n.f0 + p.geo.n.f1 + p.geo.n.f2 + p.geo.n.f3) ∧ r.a = p.geo.a0 + p.geo.a1
      (r.state = .active → answers .done) ∧
      (r.state = .empty ∨ r.state = .loading → answers (.failed .bankNotReady)) ∧
      (r.state = .ready → ¬ fits → answers (.failed .geometryMismatch)) ∧
      (r.state = .ready → fits → p.mxs.pendingSwap.isSome = true → answers (.failed .swapPending)) ∧
      (r.state = .ready → fits → p.mxs.pendingSwap = none → p.lpc.loop = .stopped →
        ∃ t, exec (.swapMatrix h target) s = .next t ∧ t.pending = s.pending ∧
          p.Answered h .done p.xu p.tlu [.mxs, .fra] t.part ∧
          t.part.mxs.banks.get b = { r with state := .active } ∧
          t.part.mxs.banks.get (other b) = { p.mxs.banks.get (other b) with
            state := if (p.mxs.banks.get (other b)).state = .active then .ready else (p.mxs.banks.get (other b)).state } ∧
          t.part.mxs = { p.mxs with banks := t.part.mxs.banks } ∧ t.part.fra = { p.fra with freshBank := true }) ∧
      (r.state = .ready → fits → p.mxs.pendingSwap = none → p.lpc.loop ≠ .stopped →
        ∃ t, exec (.swapMatrix h target) s = .next t ∧ t.pending = s.pending ∧
          t.part.mxs = { p.mxs with pendingSwap := some ⟨b, ⟨h.slot, p.xu.nextTicket, 0x000D, h.notify⟩⟩ } ∧
          t.part.xu = { p.xu with nextTicket := p.xu.nextTicket + 1 } ∧
          (p.xu.memRequests = true → t.part.issued = p.issued ++ [.hostWrite (p.slotAddr h.slot) [2]]) ∧
          t.part.sameBut p [.mxs, .xu, .issued]))

/-- Column slope of slot i, of which so many bursts have been granted, has a burst more: its next 256-byte block, of 128
coefficients, begins before the column's end (R62, R75). -/
def hasBurst (p : Part) (i : SlotIx) (slope granted : Nat) : Prop :=
  let a := (p.mxs.banks.get (p.slot i).bank).a
  128 * (slope * a / 128 + granted) < slope * a + a

/-- When each requester requests: fewer than 2 of its bursts are outstanding, and it has one to issue. STREAM has a listed column
with bursts not yet granted; LOADER has the whole next block of its image gathered, the last block as far as the image reaches;
READER has bytes of its image not yet read (R62, R79, R87, R89). -/
def requestersRequest : Prop :=
  ∀ p : Part,
    (p.requesting .stream = true ↔ p.mxs.outstanding .stream < 2 ∧ ∃ e ∈ p.rca.stream, hasBurst p e.slot e.slope e.granted) ∧
    (p.requesting .loader = true ↔ p.mxs.outstanding .loader < 2 ∧ ∃ l, p.mxs.load = some l ∧
      let block := min 256 (2 * (p.mxs.banks.get l.bank).s * (p.mxs.banks.get l.bank).a - l.granted)
      0 < block ∧ block ≤ l.buffer.length) ∧
    (p.requesting .reader = true ↔ p.mxs.outstanding .reader < 2 ∧ ∃ b, p.mxs.readback = some b ∧ b.next < b.stop)

/-- The burst that a grant to a requester makes, the last in grant order. STREAM's is the next block of the first listed column that
has one, cut to the column; LOADER's is its next block, at the offset of the bank that the load has reached, with the first bytes
gathered, which leave the buffer at the grant, as the model chooses (log entry 40); READER's runs from where the readback stands to
the end of the block or of its image (R62, R79, R87, R90). -/
def burstGranted (p t : Part) (r : Requester) : Prop :=
  let grants (b : Burst) (x : Mxs) := t.mxs = { x with
    bursts := p.mxs.bursts ++ [b]
    rotation := t.mxs.rotation
    pairNext := t.mxs.pairNext }
  match r with
  | .stream => ∀ before e after, p.rca.stream = before ++ e :: after →
    (∀ y ∈ before, ¬ hasBurst p y.slot y.slope y.granted ∧ ¬ (y.slot = e.slot ∧ y.slope = e.slope)) →
    hasBurst p e.slot e.slope e.granted →
    let bank := (p.slot e.slot).bank
    let a := (p.mxs.banks.get bank).a
    let block := e.slope * a / 128 + e.granted
    let first := max (e.slope * a) (128 * block)
    grants (.stream e.slot e.slope e.value bank first (min (e.slope * a + a) (128 * (block + 1)) - first) false) p.mxs ∧
    t.rca = { p.rca with stream := before ++ { e with granted := e.granted + 1 } :: after }
  | .loader => ∀ l, p.mxs.load = some l →
    let block := min 256 (2 * (p.mxs.banks.get l.bank).s * (p.mxs.banks.get l.bank).a - l.granted)
    grants (.loader ((if l.bank = 0 then 0 else 268435456) + l.granted) (l.buffer.take block) true)
      { p.mxs with load := some { l with granted := l.granted + block, buffer := l.buffer.drop block } } ∧
    t.rca = p.rca
  | .reader => ∀ b, p.mxs.readback = some b →
    let stop := min b.stop (256 * (b.next / 256) + 256)
    grants (.reader b.next (stop - b.next) false) { p.mxs with readback := some { b with next := stop } } ∧
    t.rca = p.rca

/-- A grant goes to LOADER in the second half of a pair; otherwise to STREAM when it requests while a slot is ASSEMBLING; otherwise
to the requesting requester that stands highest in the rotation order. The granted requester's next burst is in progress, it moves
to the bottom and has one burst more outstanding; with no requester requesting nothing happens (R89 to R91). -/
def grantGoesByRotation : Prop :=
  ∀ s : State, (∀ r, r ∈ s.part.mxs.rotation) →
    let p := s.part
    ((∀ r, p.requesting r = false) → exec .arbiterGrant s = .next s) ∧
    ((∃ r, p.requesting r = true) → ∃ (t : State) (r : Requester), exec .arbiterGrant s = .next t ∧ t.pending = s.pending ∧
      p.requesting r = true ∧
      (p.mxs.pairMode = true → p.mxs.pairNext = true → p.requesting .loader = true → r = .loader) ∧
      (¬ (p.mxs.pairMode = true ∧ p.mxs.pairNext = true ∧ p.requesting .loader = true) →
        (p.requesting .stream = true → (∃ k, (p.slot k).state = .assembling) → r = .stream) ∧
        (¬ (p.requesting .stream = true ∧ ∃ k, (p.slot k).state = .assembling) →
          ∀ q, p.requesting q = true → p.mxs.rotation.idxOf r ≤ p.mxs.rotation.idxOf q)) ∧
      t.part.mxs.rotation = (p.mxs.rotation.filter fun q => q ≠ r) ++ [r] ∧
      (∀ q, t.part.mxs.outstanding q = p.mxs.outstanding q + if q = r then 1 else 0) ∧
      (t.part.mxs.pairNext = true ↔ p.mxs.pairMode = true ∧ r = .loader ∧
        ¬ (p.mxs.pairNext = true ∧ p.requesting .loader = true)) ∧
      burstGranted p t.part r ∧
      t.part.mxs.banks = p.mxs.banks ∧ t.part.mxs.store = p.mxs.store ∧ t.part.sameBut p [.mxs, .rca])

/-- When each requester requests, which of them a grant goes to, and the burst that it makes (R62, R79, R87, R89 to R91); that a
granted block leaves the gathering buffer at its grant is the model's choice (log entry 40). -/
def Obligations.GrantGoesByRotation : Prop := requestersRequest ∧ grantGoesByRotation

/-- A loader burst that completes leaves its bytes in the store and every other byte as it was. Where its load has ended, nothing
else happens; where the load still runs, the bytes written rise, and the bank's progress counts the whole columns written (R79,
R81). -/
def loaderBurstWrites : Prop :=
  ∀ (s : State) (offset : Nat) (data : List Byte) (live : Bool) (more : List Burst),
    s.part.mxs.bursts = .loader offset data live :: more →
    ∃ t, exec .loaderBurstComplete s = .next t ∧ t.pending = s.pending ∧ t.part.mxs.bursts = more ∧
      (∀ n < data.length, t.part.storeByte (offset + n) = data.getD n 0) ∧
      (∀ m, (∀ n < data.length, m ≠ offset + n) → t.part.storeByte m = s.part.storeByte m) ∧
      (live = false → t.part.mxs = { s.part.mxs with bursts := more, store := t.part.mxs.store } ∧
        t.part.sameBut s.part [.mxs]) ∧
      (∀ l r, live = true → s.part.mxs.load = some l → s.part.xu.lane = some r → l.written + data.length ≠ r.total →
        t.part.mxs = { s.part.mxs with
          bursts := more
          store := t.part.mxs.store
          load := some { l with written := l.written + data.length }
          banks := s.part.mxs.banks.set l.bank { s.part.mxs.banks.get l.bank with
            progress := (l.written + data.length) / (2 * (s.part.mxs.banks.get l.bank).a) } } ∧
        t.part.sameBut s.part [.mxs])

/-- The last write burst of a matrix load ends it: with the running sum equal to the check word the bank is READY and the order
DONE, otherwise it is EMPTY and the order FAILED CHECK_MISMATCH with no bytes remaining; either way the first detail word is the
sum, the lane is empty, the record keeps dimensions, scale and check word, and nothing else in the part changes, the pending swap,
the rotation, the pairing, the other bursts and a readback among it (R80). What the burst leaves in the store stands above. -/
def matrixLoadEnds : Prop :=
  ∀ (s : State) (offset : Nat) (data : List Byte) (more : List Burst) (l : MatrixLoad) (r : Running),
    s.part.mxs.bursts = .loader offset data true :: more → s.part.mxs.load = some l → s.part.xu.lane = some r →
    l.written + data.length = r.total → r.moved = r.total →
    let b := s.part.mxs.banks.get l.bank
    ∃ t, exec .loaderBurstComplete s = .next t ∧ t.pending = s.pending ∧
      (l.sum = b.check → t.part.mxs.banks.get l.bank = { b with state := .ready, progress := r.total / (2 * b.a) }) ∧
      (l.sum ≠ b.check → t.part.mxs.banks.get l.bank = { b with state := .empty, progress := r.total / (2 * b.a) }) ∧
      t.part.mxs.banks.get (other l.bank) = s.part.mxs.banks.get (other l.bank) ∧
      t.part.mxs = { s.part.mxs with
        store := t.part.mxs.store
        banks := t.part.mxs.banks
        bursts := more
        load := none } ∧
      t.part.xu = { s.part.xu with lane := none } ∧
      orderFinished s.part t.part (headOf r.bulk.order) { OrderResult.done with
        reason := if l.sum = b.check then none else some .checkMismatch
        d1 := l.sum } ∧
      t.part.sameBut s.part [.mxs, .xu, .tlu, .issued]

/-- The write bursts of a matrix load, and its end (R79 to R81). -/
def Obligations.MatrixLoadWritesAndEnds : Prop := loaderBurstWrites ∧ matrixLoadEnds

/-! ## The loop controller (chapter 6) -/

/-- The limits and values that an update or a shape works with are in order: every limits entry has lo ≤ flat ≤ hi (R102). -/
def orderedLimits (t : Sparse Limits) : Prop :=
  ∀ a, (Sparse.get Limits.powerOn t a).lo.toNat ≤ (Sparse.get Limits.powerOn t a).flat.toNat ∧
    (Sparse.get Limits.powerOn t a).flat.toNat ≤ (Sparse.get Limits.powerOn t a).hi.toNat

/-- One actuator's integrator step: the deviation from flat times the leak and the residual times the effective gain, each divided
by 32,768 with rounding half up, are added to flat, and the sum is clamped to the actuator's limits, a clamp counting; an inactive
actuator takes its flat value (R113). -/
def Obligations.IntegratorStep : Prop :=
  ∀ (l : Limits) (u : Nat) (e : Int) (leak gain : Nat), l.lo.toNat ≤ l.hi.toNat →
    (l.active = false → integrate l u e leak gain = 256 * l.flat.toNat ∧ integrateClamps l u e leak gain = false) ∧
    (l.active = true → ∃ v t : Int,
      32768 * v ≤ ((u : Int) - 256 * l.flat.toNat) * leak + 16384 ∧
      ((u : Int) - 256 * l.flat.toNat) * leak + 16384 < 32768 * (v + 1) ∧
      32768 * t ≤ e * gain + 16384 ∧ e * gain + 16384 < 32768 * (t + 1) ∧
      (let z : Int := 256 * l.flat.toNat + v + t
       (256 * (l.lo.toNat : Int) ≤ z → z ≤ 256 * l.hi.toNat →
          (integrate l u e leak gain : Int) = z ∧ integrateClamps l u e leak gain = false) ∧
       (z < 256 * l.lo.toNat → integrate l u e leak gain = 256 * l.lo.toNat ∧ integrateClamps l u e leak gain = true) ∧
       (256 * (l.hi.toNat : Int) < z →
          integrate l u e leak gain = 256 * l.hi.toNat ∧ integrateClamps l u e leak gain = true)))

/-- One pair of the neighbour pass: a pair beyond the actuators, of two inactive actuators, or within its allowed difference is left
as it is and counts nothing. Otherwise it counts once; of two active actuators the larger code falls by half the excess rounded up
and the smaller rises by the rest, so that they differ by D; with one inactive, the active one moves by the whole excess. No other
code moves (R116). -/
def pairAdjusted : Prop :=
  ∀ (t : Sparse Limits) (a : Nat) (s : PassState) (x : ActuatorPair), s.codes.length = a → x.p ≠ x.r → 0 < x.d →
    let act (n : Nat) := (Sparse.get Limits.powerOn t n).active
    let q (n : Nat) := s.codes.getD n 0
    let s' := passPair t a s x
    let q' (n : Nat) := s'.codes.getD n 0
    let big := max (q x.p) (q x.r)
    let small := min (q x.p) (q x.r)
    let skipped := a ≤ x.p ∨ a ≤ x.r ∨ (act x.p = false ∧ act x.r = false) ∨ big ≤ small + x.d
    (skipped → s' = s) ∧
    (¬ skipped → s'.adjusted = s.adjusted + 1 ∧ s'.codes.length = a ∧ (∀ n, n ≠ x.p → n ≠ x.r → q' n = q n) ∧
      max (q' x.p) (q' x.r) = min (q' x.p) (q' x.r) + x.d ∧ (q x.r ≤ q x.p ↔ q' x.r ≤ q' x.p) ∧
      (act x.p = true → act x.r = true → max (q' x.p) (q' x.r) = big - (big - small - x.d + 1) / 2) ∧
      (act x.p = false → q' x.p = q x.p) ∧ (act x.r = false → q' x.r = q x.r))

/-- Shaping leaves, for every actuator, a code within its limits, which is the code of its value; a value whose final code is its
starting code is kept, a value that starts within the limits ends there, and an inactive actuator that starts at flat ends there
(R115, R117). -/
def shapingLeavesLimits : Prop :=
  ∀ (t : Sparse Limits) (pairs : List ActuatorPair) (w : List Nat), orderedLimits t →
    let l (a : Nat) := Sparse.get Limits.powerOn t a
    let s := shapeVector t pairs w
    s.vector.length = w.length ∧ s.codes.length = w.length ∧
    ∀ a < w.length,
      (l a).lo.toNat ≤ s.codes.getD a 0 ∧ s.codes.getD a 0 ≤ (l a).hi.toNat ∧
      (s.vector.getD a 0 + 128) / 256 = s.codes.getD a 0 ∧
      (s.codes.getD a 0 = (w.getD a 0 + 128) / 256 → s.vector.getD a 0 = w.getD a 0) ∧
      (s.codes.getD a 0 ≠ (w.getD a 0 + 128) / 256 → s.vector.getD a 0 = 256 * s.codes.getD a 0) ∧
      (256 * (l a).lo.toNat ≤ w.getD a 0 → w.getD a 0 ≤ 256 * (l a).hi.toNat →
        256 * (l a).lo.toNat ≤ s.vector.getD a 0 ∧ s.vector.getD a 0 ≤ 256 * (l a).hi.toNat) ∧
      ((l a).active = false → w.getD a 0 = 256 * (l a).flat.toNat → s.vector.getD a 0 = w.getD a 0)

/-- Shaping runs the neighbour pass over the pairs from the first to the last, beginning at the codes of the values, and then brings
each code within its actuator's limits. The NEIGHBOUR count is that of the pairs adjusted, and the CLAMP count that of the actuators
whose code the final clamp changes (R115 to R117). -/
def shapingPassesAndClamps : Prop :=
  ∀ (t : Sparse Limits) (pairs : List ActuatorPair) (w : List Nat), orderedLimits t →
    let l (a : Nat) := Sparse.get Limits.powerOn t a
    let pass := pairs.foldl (passPair t w.length) ⟨w.map fun v => (v + 128) / 256, 0⟩
    let s := shapeVector t pairs w
    pass.codes.length = w.length ∧
    (∀ a < w.length, s.codes.getD a 0 = max (l a).lo.toNat (min (l a).hi.toNat (pass.codes.getD a 0))) ∧
    s.clamps = (List.range w.length).countP (fun a => decide (s.codes.getD a 0 ≠ pass.codes.getD a 0)) ∧
    s.neighbours = pass.adjusted

/-- The neighbour pass, pair by pair and over all pairs, the final clamp, and what shaping leaves (R115 to R117). -/
def Obligations.CodesShaped : Prop := pairAdjusted ∧ shapingPassesAndClamps ∧ shapingLeavesLimits

/-- The part t is p after a loop order that moved the loop and finished with r (R94). -/
def loopOrderDone (p t : Part) (h : OrderHead) (r : OrderResult) (changed : List Block) : Prop :=
  raisedOrderDone .loopState p t h r changed

/-- The controller with the loop in a state, a running update no longer closed throughout (R94, R110). -/
def loopMoved (l : Lpc) (st : LoopState) : Lpc :=
  { l with loop := st, update := l.update.map fun u => { u with closed := false } }

/-- LOOP_OPEN: refused in OPEN and HELD; in STOPPED its five checks are made in order, and the first that fails decides the outcome;
in CLOSED no check is made. When it succeeds, the loop is OPEN, H is none, the consecutive-abandon and divergence counts are 0 and
the frame-gap timer starts; LOOP_CLOSED is deasserted, and the integrator stays (R40, R94 to R96). -/
def loopOpensByState : Prop :=
  ∀ (s : State) (h : OrderHead), s.part.readyFor h →
    let p := s.part
    let refused (r : OrderResult) := ∃ t, exec (.loopOpen h) s = .next t ∧ t.pending = s.pending ∧
      p.Answered h r p.xu p.tlu [] t.part
    let succeeds := ∃ t, exec (.loopOpen h) s = .next t ∧ t.pending = s.pending ∧
      t.part.lpc = { loopMoved p.lpc .opened with divCount := 0 } ∧ t.part.loopClosedPin = false ∧
      t.part.fra = { p.fra with
        highest := none
        abandons := 0
        gapTimer := some (p.tlu.timebase + BitVec.ofNat 64 (1000 * p.fra.gapMs)) } ∧
      loopOrderDone p t.part h .done [.lpc, .fra]
    let fits (b : BankIx) := (p.mxs.banks.get b).s = 2 * (p.geo.n.f0 + p.geo.n.f1 + p.geo.n.f2 + p.geo.n.f3) ∧
      (p.mxs.banks.get b).a = p.geo.a0 + p.geo.a1
    let sensor := ∃ i, (p.links.get i).state ≠ .off ∧ 0 < p.geo.n.get i
    (p.lpc.loop = .opened ∨ p.lpc.loop = .held → refused (.failed .wrongState)) ∧
    (p.lpc.loop = .closed → succeeds) ∧
    (p.lpc.loop = .stopped →
      (p.geo.isSet = false → refused (.failedWith .geometryMismatch 1)) ∧
      (p.geo.isSet = true → (∀ b, (p.mxs.banks.get b).state ≠ .active) → refused (.failedWith .geometryMismatch 2)) ∧
      (∀ b, p.geo.isSet = true → (p.mxs.banks.get b).state = .active → (p.mxs.banks.get (other b)).state ≠ .active →
        (¬ fits b → refused (.failedWith .geometryMismatch 3)) ∧
        (fits b → ¬ sensor → refused (.failedWith .geometryMismatch 4)) ∧
        (fits b → sensor → p.tlu.interlock.level = true → refused (.failed .interlock)) ∧
        (fits b → sensor → p.tlu.interlock.level = false → succeeds)))


/-- The LOOP_CLOSED output is asserted while the loop is CLOSED and deasserted in the other three states, in every part, so that it
changes at the change of state (R94). -/
def loopClosedFollowsState : Prop :=
  ∀ p : Part, (p.lpc.loop = .closed → p.loopClosedPin = true) ∧
    (p.lpc.loop = .stopped ∨ p.lpc.loop = .opened ∨ p.lpc.loop = .held → p.loopClosedPin = false)

/-- LOOP_OPEN by the loop state, and the output that follows the loop state (R40, R94 to R96). -/
def Obligations.LoopOpens : Prop := loopOpensByState ∧ loopClosedFollowsState

/-- LOOP_CLOSE: refused outside OPEN; its checks are made in order: a mirror with actuators whose link is not enabled, an enabled
link in FAULT, an asserted INTERLOCK. When it succeeds, the ramp length is stored, at most 1,023, the ramp and divergence counts
are 0, the loop is CLOSED, LOOP_CLOSED is asserted and LOOP_STATE is raised (R97). -/
def Obligations.LoopCloses : Prop :=
  ∀ (s : State) (h : OrderHead) (k : BitVec 16), s.part.readyFor h →
    let p := s.part
    let refused (r : OrderResult) := ∃ t, exec (.loopClose h k) s = .next t ∧ t.pending = s.pending ∧
      p.Answered h r p.xu p.tlu [] t.part
    let lacking (m : MirrorIx) := 0 < p.geo.mirror m ∧ (p.mlt.get m).enable = false
    let faulty (m : MirrorIx) := (p.mlt.get m).enable = true ∧ (p.mlt.get m).state = .fault
    (p.lpc.loop ≠ .opened → refused (.failed .wrongState)) ∧
    (p.lpc.loop = .opened →
      (lacking 0 → refused (.failedWith .wrongState 1)) ∧
      (¬ lacking 0 → lacking 1 → refused (.failedWith .wrongState 2)) ∧
      (¬ lacking 0 → ¬ lacking 1 → faulty 0 → refused (.failedWith .wrongState 1)) ∧
      (¬ lacking 0 → ¬ lacking 1 → ¬ faulty 0 → faulty 1 → refused (.failedWith .wrongState 2)) ∧
      (¬ lacking 0 → ¬ lacking 1 → ¬ faulty 0 → ¬ faulty 1 → p.tlu.interlock.level = true → refused (.failed .interlock)) ∧
      (¬ lacking 0 → ¬ lacking 1 → ¬ faulty 0 → ¬ faulty 1 → p.tlu.interlock.level = false →
        ∃ t, exec (.loopClose h k) s = .next t ∧ t.pending = s.pending ∧
          t.part.lpc = { loopMoved p.lpc .closed with
            rampLength := min 1023 k.toNat
            rampCount := 0
            divCount := 0 } ∧ t.part.loopClosedPin = true ∧
          loopOrderDone p t.part h (.adjustedDone (decide (1023 < k.toNat))) [.lpc]))

/-- RESUME: refused outside HELD, and while INTERLOCK is asserted or an enabled mirror link is in FAULT, with the cause in the first
detail word. When it succeeds, the loop is OPEN, the hold causes are gone, the abandon and divergence counts are 0 and the frame-gap
timer starts, LOOP_CLOSED stays deasserted, and H and the slots stay (R40, R94, R101). -/
def Obligations.ResumeOpens : Prop :=
  ∀ (s : State) (h : OrderHead), s.part.readyFor h →
    let p := s.part
    let refused (r : OrderResult) := ∃ t, exec (.resume h) s = .next t ∧ t.pending = s.pending ∧
      p.Answered h r p.xu p.tlu [] t.part
    let faulty (m : MirrorIx) := (p.mlt.get m).enable = true ∧ (p.mlt.get m).state = .fault
    (p.lpc.loop ≠ .held → refused (.failed .nothingHeld)) ∧
    (p.lpc.loop = .held →
      (p.tlu.interlock.level = true → refused (.failedWith .causePresent 1)) ∧
      (p.tlu.interlock.level = false → faulty 0 → refused (.failedWith .causePresent 2)) ∧
      (p.tlu.interlock.level = false → ¬ faulty 0 → faulty 1 → refused (.failedWith .causePresent 3)) ∧
      (p.tlu.interlock.level = false → ¬ faulty 0 → ¬ faulty 1 →
        ∃ t, exec (.resume h) s = .next t ∧ t.pending = s.pending ∧
          t.part.lpc = { loopMoved p.lpc .opened with causes := .empty, firstCause := none, divCount := 0 } ∧
          t.part.loopClosedPin = false ∧
          t.part.fra = { p.fra with
            abandons := 0
            gapTimer := some (p.tlu.timebase + BitVec.ofNat 64 (1000 * p.fra.gapMs)) } ∧
          loopOrderDone p t.part h .done [.lpc, .fra]))

/-- A slot that LOOP_STOP discards: ASSEMBLING or SEALED (R41). -/
abbrev discarded (p : Part) (k : SlotIx) : Prop := (p.slot k).state = .assembling ∨ (p.slot k).state = .sealed

/-- A burst after the discard of slots: the data of a granted column burst of a discarded slot is not added when it arrives; every
other burst is as it was (R71). -/
def streamsDropped (p : Part) : Burst → Burst
  | .stream slot slope value bank first count dropped =>
    .stream slot slope value bank first count (dropped || decide (discarded p slot))
  | .loader offset data live => .loader offset data live
  | .reader offset count dropped => .reader offset count dropped

/-- The part m with slot k discarded, where it is one to discard, in its slot and its record: the record of kind DISCARDED, with the
frame counts as they stand and the loop STOPPED, is formed and handled as the slot no longer counts (R41, R57, R178, R180). -/
def slotDiscarded (m : Part) (k : SlotIx) : Part :=
  if discarded m k then
    ({ m with fra := { m.fra with slots := m.fra.slots.set k { m.slot k with state := .free, sealing := false } } } :
      Part).submitRecord (recordOf m k m.geo .discarded .stopped)
  else m

/-- LOOP_STOP in STOPPED finishes DONE and changes nothing. In the other states the loop is STOPPED; every ASSEMBLING and SEALED
slot is discarded, the older first, so that it is FREE, its record formed and handled, its accumulators cleared, its values gone
from the stream list and its entries from the work queue, what is left of both in its order, its granted column bursts no longer to
be added and every other burst as it was, its conditioning or substitution stopped, with no INCOMPLETE and no abandon counted and
the kept slopes as they are, while an UPDATING slot stays; every FIFO is empty, its segments counted STOPPED; the frame-gap timer is
stopped, the hold causes and the divergence count are cleared; the integrator and its tables stay. LOOP_CLOSED is deasserted,
LOOP_STATE is raised, and the order finishes DONE (R13, R41, R57, R71, R94, R98, R163, R178, R180). That LOOP_STATE is raised after
the records have been handled is the model's reading (log entry 28). -/
def Obligations.LoopStops : Prop :=
  ∀ (s : State) (h : OrderHead), s.part.readyFor h →
    let p := s.part
    let first : SlotIx := if newer (p.slot 0).frame (p.slot 1).frame then 1 else 0
    (p.lpc.loop = .stopped → ∃ t, exec (.loopStop h) s = .next t ∧ t.pending = s.pending ∧
      p.Answered h .done p.xu p.tlu [] t.part) ∧
    (p.lpc.loop ≠ .stopped → ∃ t, exec (.loopStop h) s = .next t ∧ t.pending = s.pending ∧
      t.part.lpc = { loopMoved p.lpc .stopped with causes := .empty, firstCause := none, divCount := 0 } ∧
      t.part.loopClosedPin = false ∧
      (∀ k, discarded p k → t.part.slot k = { p.slot k with state := .free, sealing := false } ∧
        t.part.rca.acc.get k = [] ∧ t.part.rca.residual.get k = { p.rca.residual.get k with valid := false }) ∧
      (∀ k, ¬ discarded p k → t.part.slot k = p.slot k ∧ t.part.rca.acc.get k = p.rca.acc.get k ∧
        t.part.rca.residual.get k = p.rca.residual.get k) ∧
      t.part.fra = { p.fra with slots := t.part.fra.slots, queue := t.part.fra.queue, gapTimer := none } ∧
      t.part.fra.queue = p.fra.queue.filter (fun e => decide (¬ discarded p e.slot)) ∧
      t.part.rca.stream = p.rca.stream.filter (fun y => decide (¬ discarded p y.slot)) ∧
      (∀ k, t.part.rca.extracting = some k ↔ p.rca.extracting = some k ∧ ¬ discarded p k) ∧
      (∀ i, t.part.links.get i = { p.links.get i with
        fifo := []
        counters := { (p.links.get i).counters with
          stopped := (p.links.get i).counters.stopped + BitVec.ofNat 32 (p.links.get i).fifo.length } }) ∧
      t.part.scn = { p.scn with job := t.part.scn.job, substDue := t.part.scn.substDue } ∧
      (∀ d, t.part.scn.job = some d ↔ p.scn.job = some d ∧ ¬ discarded p d.slot) ∧
      (∀ k, t.part.scn.substDue = some k ↔ p.scn.substDue = some k ∧ ¬ discarded p k) ∧
      t.part.mxs = { p.mxs with bursts := p.mxs.bursts.map (streamsDropped p) } ∧
      t.part.xu = { p.xu with nextTicket := p.xu.nextTicket + 1 } ∧
      (let m := slotDiscarded (slotDiscarded (orderTaken p h) first) (other first)
       let q : Part := { m with
         tlu := { m.tlu with events := withFlag m.tlu.events .loopState }
         issued := m.issued ++ m.signal .loopState }
       t.part.tel = m.tel ∧ orderFinished q t.part h .done) ∧
      t.part.sameBut p [.lpc, .links, .fra, .scn, .rca, .mxs, .tel, .tlu, .xu, .issued])

/-- SET_GAINS refuses a mirror index above 1. Otherwise the mirror's entry of the gains shadow, a copy of the live gains unless it
was waiting, receives leak and gain, each at most 1.0; in a stopped loop the shadow commits at once, and otherwise it waits (R105,
R108). -/
def gainsStored : Prop :=
  ∀ (s : State) (h : OrderHead) (q : GainsOrderParams), s.part.readyFor h →
    let p := s.part
    (2 ≤ q.mirror.toNat → ∃ t, exec (.setGains h q) s = .next t ∧ t.pending = s.pending ∧
      p.Answered h (.failed .badParameter) p.xu p.tlu [] t.part) ∧
    (∀ m : MirrorIx, q.mirror.toNat = m.val →
      let base := if p.lpc.gainWaiting then p.lpc.gainShadow else p.lpc.gainLive
      let g := base.set m ⟨min 32768 q.leak.toNat, min 32768 q.gain.toNat⟩
      ∃ t, exec (.setGains h q) s = .next t ∧ t.pending = s.pending ∧
        p.Answered h (.adjustedDone (decide (32768 < q.leak.toNat ∨ 32768 < q.gain.toNat))) p.xu p.tlu [.lpc] t.part ∧
        t.part.lpc = (if p.lpc.loop = .stopped then { p.lpc with gainShadow := g, gainLive := g, gainWaiting := false }
          else { p.lpc with gainShadow := g, gainWaiting := true }))

/-- The slot that an update takes: SEALED, and the older of two SEALED slots (R110). -/
def updateTakes (p : Part) (k : SlotIx) : Prop :=
  (p.slot k).state = .sealed ∧
    ((p.slot (other k)).state = .sealed → newer (p.slot (other k)).frame (p.slot k).frame = true)

/-- In OPEN and HELD an update is report-only: it ends as it begins, with the slot FREE, its frame's record formed and handled,
and a pending capture taken, and the loop controller does not change. In STOPPED, while an update runs, or with no slot SEALED, no
update begins (R110, R120, R178 to R182, R188, R189). -/
def reportOnlyUpdate : Prop :=
  ∀ s : State,
    (s.part.lpc.loop = .stopped ∨ s.part.lpc.update.isSome = true ∨ (∀ k, (s.part.slot k).state ≠ .sealed) →
      exec .updateBegin s = .next s) ∧
    (∀ k, s.part.lpc.update = none → s.part.lpc.loop = .opened ∨ s.part.lpc.loop = .held → updateTakes s.part k →
      ∃ t, exec .updateBegin s = .next t ∧ t.pending = s.pending ∧ t.part.lpc = s.part.lpc ∧
        t.part.fra = { s.part.fra with slots := s.part.fra.slots.set k { s.part.slot k with state := .free } } ∧
        updateEnded s.part t.part k s.part.geo ⟨false, 0, 0, none, none⟩ false)

/-- The tables that a full update works with, after the commit of those that wait (R105, R111). -/
def committed (l : Lpc) : Lpc :=
  { l with
    limLive := if l.limWaiting then l.limShadow else l.limLive
    limWaiting := false
    pairLive := if l.pairWaiting then l.pairShadow else l.pairLive
    pairWaiting := false
    gainLive := if l.gainWaiting then l.gainShadow else l.gainLive
    gainWaiting := false }

/-- In CLOSED an update is a full one. It commits the waiting tables, bringing the integrator within new limits; the divergence
guard counts the frames above the threshold and at its limit holds the loop and ends the update as a report-only one that is
marked discarded; otherwise the ramp counter advances, each actuator is integrated from its residual with the ramped gain, the
vector is shaped, and the update runs, its slot UPDATING, the integrator not yet replaced. The clamps of the commit, of the
integrator and of shaping are counted together (R110 to R117, R120). What an update that the guard ends reports, and that the
stages of a full update are one step, is the model's reading (log entries 20 and 29). -/
def fullUpdate : Prop :=
  ∀ (s : State) (k : SlotIx), s.part.lpc.loop = .closed → s.part.lpc.update = none → updateTakes s.part k →
    let p := s.part
    let l := committed p.lpc
    let count := p.geo.a0 + p.geo.a1
    let energy := (p.rca.residual.get k).energy.toNat
    let above := 0 < p.lpc.threshold.toNat ∧ p.lpc.threshold.toNat < energy
    let ramp := min 1024 (p.lpc.rampCount + 1)
    let diverging := above ∧ p.lpc.divLimit ≤ min 255 (p.lpc.divCount + 1)
    ∃ t, exec .updateBegin s = .next t ∧ t.pending = s.pending ∧
      (∀ a, t.part.lpc.value a =
        if p.lpc.limWaiting then (if (l.limit a).active then max (256 * (l.limit a).lo.toNat) (min (256 * (l.limit a).hi.toNat)
          (p.lpc.value a)) else 256 * (l.limit a).flat.toNat) else p.lpc.value a) ∧
      (let clamps := (List.range count).countP fun a =>
         p.lpc.limWaiting && (l.limit a).active && decide (t.part.lpc.value a ≠ p.lpc.value a)
       (diverging →
         let q : Part := { p with
           lpc := { l with
             u := t.part.lpc.u
             loop := .held
             causes := CauseSet.empty.add .divergence
             firstCause := some .divergence
             divCount := min 255 (p.lpc.divCount + 1) }
           tlu := { p.tlu with events := withFlag p.tlu.events .loopState }
           issued := p.issued ++ p.signal .loopState }
         updateEnded q t.part k p.geo ⟨true, clamps, 0, none, none⟩ false) ∧
       (¬ diverging → ∃ (u : Update) (w : List Nat), t.part.lpc = { l with
           u := t.part.lpc.u
           divCount := if above then min 255 (p.lpc.divCount + 1) else 0
           rampCount := ramp
           update := some u } ∧ u.slot = k ∧ u.closed = true ∧ u.geo = p.geo ∧
         (let gain (a : Nat) :=
            let m : MirrorIx := if a < p.geo.a0 then 0 else 1
            let g := (l.gainLive.get m).gain
            if 0 < l.rampLength ∧ ramp ≤ l.rampLength then g * ramp / l.rampLength else g
          let leak (a : Nat) := (l.gainLive.get (if a < p.geo.a0 then 0 else 1)).leak
          let e (a : Nat) := Sparse.get 0 (p.rca.residual.get k).e a
          let shaped := shapeVector l.limLive l.pairLive w
          w = (List.range count).map (fun a => integrate (l.limit a) (t.part.lpc.value a) (e a) (leak a) (gain a)) ∧
          u.shaped = shaped.vector ∧ u.codes = shaped.codes ∧ u.neighbours = shaped.neighbours ∧
          u.clamps = clamps + ((List.range count).countP fun a =>
            integrateClamps (l.limit a) (t.part.lpc.value a) (e a) (leak a) (gain a)) + shaped.clamps ∧
          u.ramp = decide (0 < l.rampLength ∧ ramp < l.rampLength)) ∧
         t.part.fra = { p.fra with slots := p.fra.slots.set k { p.slot k with state := .updating } } ∧
         t.part.sameBut p [.fra, .lpc]))

/-- An update begins: none, report-only, or full, by the loop state; one that ends at once leaves its record and a pending capture
(R105, R110 to R117, R120, R188). -/
def Obligations.UpdateBeginsByLoopState : Prop := reportOnlyUpdate ∧ fullUpdate

/-- A mirror's codes are handed to its link; a mirror without actuators receives nothing and has no sequence (R119). That mirror 0
comes first is the model's choice (log entry 37). -/
def handedOver (p : Part) (g : Geometry) (codes : List Nat) (h0 h1 : HandOver) : Prop :=
  h0 = (if g.a0 = 0 then ⟨p, none⟩ else p.handOver 0 (codes.take g.a0)) ∧
  h1 = (if g.a1 = 0 then ⟨h0.part, none⟩ else h0.part.handOver 1 (codes.drop g.a0))

/-- The send point. Where the loop state has not changed since the update began, the shaped vector replaces the first values of
the integrator and leaves the others, and the codes are handed to both mirrors; otherwise the integrator and the mirror links
stay. Either way the update ends, with the sequences of the frames sent in its record, its slot is FREE, and a pending capture is
taken; with no update running nothing happens (R118 to R120, R178, R188). -/
def sendPointReplaces : Prop :=
  ∀ s : State,
    (s.part.lpc.update = none → exec .sendPoint s = .next s) ∧
    (∀ u, s.part.lpc.update = some u →
      ∃ t, exec .sendPoint s = .next t ∧ t.pending = s.pending ∧
        t.part.slot u.slot = { s.part.slot u.slot with state := .free } ∧
        t.part.slot (other u.slot) = s.part.slot (other u.slot) ∧
        t.part.lpc.update = none ∧
        (u.closed = true →
          (∀ a, t.part.lpc.value a = if a < u.shaped.length then u.shaped.getD a 0 else s.part.lpc.value a) ∧
          ∃ h0 h1, handedOver { s.part with lpc := { s.part.lpc with u := t.part.lpc.u } } u.geo u.codes h0 h1 ∧
            t.part.mlt = h1.part.mlt ∧
            updateEnded h1.part t.part u.slot u.geo ⟨false, u.clamps, u.neighbours, h0.seq, h1.seq⟩ u.ramp) ∧
        (u.closed = false → t.part.lpc.u = s.part.lpc.u ∧ t.part.mlt = s.part.mlt ∧
          updateEnded s.part t.part u.slot u.geo ⟨true, u.clamps, u.neighbours, none, none⟩ u.ramp) ∧
        t.part.lpc = { s.part.lpc with u := t.part.lpc.u, update := none } ∧
        t.part.fra = { s.part.fra with slots := t.part.fra.slots } ∧
        t.part.sameBut s.part [.fra, .lpc, .mlt, .tel, .sns, .tlu, .issued])

/-- The send point, and what becomes of a record that is formed (R118 to R120, R178, R180 to R182, R188). -/
def Obligations.SendPointReplaces : Prop := sendPointReplaces ∧ recordsKeptInOrder

/-- FLATTEN and APPLY_SHAPE hand a mirror its codes: it has actuators, and its link is enabled and IDLE or RUNNING (R119). -/
abbrev shapeGoesTo (p : Part) (m : MirrorIx) : Prop :=
  0 < p.geo.mirror m ∧ (p.mlt.get m).enable = true ∧ ((p.mlt.get m).state = .idle ∨ (p.mlt.get m).state = .running)

/-- The part t is p after a shape's codes have been handed over (R119), mirror 0 first, which is the model's choice (log entry
37). -/
def shapeHandedOver (p t : Part) (codes : List Nat) : Prop :=
  ∃ q : Part, q = (if shapeGoesTo p 0 then (p.handOver 0 (codes.take p.geo.a0)).part else p) ∧
    t = (if shapeGoesTo p 1 then (q.handOver 1 (codes.drop p.geo.a0)).part else q)

/-- FLATTEN is refused in CLOSED and HELD, and while INTERLOCK is asserted. Otherwise every integrator value becomes 256 times
flat, that of an actuator of the geometry as shaping leaves it; the codes go to the links that take them; the loop state, its
counts and the waiting tables stay; and the order finishes DONE with the counts of clamps and neighbours, and the number of frames
handed over, sent or skipped, which is the model's reading of R121 (R119, R121; log entry 21). The hand-overs, and the end of a
probe that one brings, come before the order's own result by the model's choice (log entry 37). The limits table is taken in the
canonical form, which every step keeps. -/
def Obligations.FlattenSetsFlat : Prop :=
  ∀ (s : State) (h : OrderHead), s.part.readyFor h → Sparse.wf Limits.powerOn s.part.lpc.limLive = true →
    let p := s.part
    let count := p.geo.a0 + p.geo.a1
    let shaped := shapeVector p.lpc.limLive p.lpc.pairLive ((List.range count).map fun n => 256 * (p.lpc.limit n).flat.toNat)
    (p.lpc.loop = .closed ∨ p.lpc.loop = .held → ∃ t, exec (.flatten h) s = .next t ∧ t.pending = s.pending ∧
      p.Answered h (.failed .wrongState) p.xu p.tlu [] t.part) ∧
    (p.lpc.loop = .stopped ∨ p.lpc.loop = .opened → p.tlu.interlock.level = true →
      ∃ t, exec (.flatten h) s = .next t ∧ t.pending = s.pending ∧ p.Answered h (.failed .interlock) p.xu p.tlu [] t.part) ∧
    (p.lpc.loop = .stopped ∨ p.lpc.loop = .opened → p.tlu.interlock.level = false →
      ∃ t, exec (.flatten h) s = .next t ∧ t.pending = s.pending ∧
        (∀ a, count ≤ a → t.part.lpc.value a = 256 * (p.lpc.limit a).flat.toNat) ∧
        (∀ a < count, t.part.lpc.value a = shaped.vector.getD a 0) ∧
        t.part.lpc = { p.lpc with u := t.part.lpc.u } ∧
        t.part.xu = { p.xu with nextTicket := p.xu.nextTicket + 1 } ∧
        (∃ q : Part, shapeHandedOver { orderTaken p h with lpc := t.part.lpc } q shaped.codes ∧
          orderFinished q t.part h { OrderResult.done with
            d1 := BitVec.ofNat 32 shaped.clamps
            d2 := BitVec.ofNat 32 shaped.neighbours
            d3 := (if shapeGoesTo p 0 then 1 else 0) + if shapeGoesTo p 1 then 1 else 0 } ∧
          t.part.sameBut q [.tlu, .issued]) ∧
        t.part.sameBut p [.lpc, .mlt, .xu, .tlu, .issued])

/-! ## Mirror links (chapter 7) -/

/-- The pending probe of link m has ended with a result: the timer stops, its QUERY, if it is still being sent, no longer belongs
to a probe, and its order finishes (R146). -/
def probeEnded (p t : Part) (m : MirrorIx) (r : OrderResult) : Prop :=
  let l := p.mlt.get m
  ∃ pr, l.probe = some pr ∧
    t.mlt = p.mlt.set m { l with
      probe := none
      timer := none
      tx := l.tx.map fun x => match x with
        | .frame seq codes => .frame seq codes
        | .query _ => .query false } ∧
    orderFinished p t (headOf pr.order) r ∧ t.sameBut p [.mlt, .tlu, .issued]

/-- A hand-over of a mirror's codes, by the state of its link: from IDLE a pending probe ends ABORTED, the frame is sent and the
link becomes RUNNING with its timer stopped; in RUNNING it is sent with fewer than two outstanding; otherwise it counts SKIPPED, in
OFF and FAULT not even that. A frame that is sent takes the next sequence, which rises, is appended to the outstanding list as still
being sent, and counts SENT; one that is not sent takes no sequence (R127 to R129, R136, R146). -/
def Obligations.HandOverByState : Prop :=
  ∀ (p : Part) (m : MirrorIx) (codes : List Nat),
    let l := p.mlt.get m
    let r := p.handOver m codes
    let sent := r.seq = some l.nextSeq ∧ (r.part.mlt.get m).state = .running ∧
      (r.part.mlt.get m).nextSeq = l.nextSeq + 1 ∧
      (r.part.mlt.get m).outstanding = l.outstanding ++ [⟨l.nextSeq, none⟩] ∧
      (r.part.mlt.get m).tx.getLast? = some (.frame l.nextSeq codes) ∧
      (r.part.mlt.get m).counters = { l.counters with sent := l.counters.sent + 1 }
    (l.state = .idle → sent ∧ (r.part.mlt.get m).probe = none ∧ (r.part.mlt.get m).timer = none ∧
      (∃ q : Part, (l.probe = none → q = p) ∧ (l.probe.isSome = true → probeEnded p q m (.failed .aborted)) ∧
        r.part.mlt = q.mlt.set m { q.mlt.get m with
          state := .running
          timer := none
          nextSeq := l.nextSeq + 1
          outstanding := l.outstanding ++ [⟨l.nextSeq, none⟩]
          tx := (q.mlt.get m).tx ++ [.frame l.nextSeq codes]
          counters := { l.counters with sent := l.counters.sent + 1 } } ∧ r.part.sameBut q [.mlt]) ∧
      (∀ pr, l.probe = some pr → p.xu.memRequests = true → p.issued ++
        [.hostWrite (p.slotAddr pr.order.slot + 0x60) (resultBytes (.failed .aborted) (low32 p.tlu.timebase)),
          .hostWrite (p.slotAddr pr.order.slot) [4]] <+: r.part.issued)) ∧
    (l.state = .running → l.outstanding.length < 2 → sent ∧
      r.part.mlt = p.mlt.set m { l with
        nextSeq := l.nextSeq + 1
        outstanding := l.outstanding ++ [⟨l.nextSeq, none⟩]
        tx := l.tx ++ [.frame l.nextSeq codes]
        counters := { l.counters with sent := l.counters.sent + 1 } } ∧ r.part.sameBut p [.mlt]) ∧
    ((l.state = .running ∧ 2 ≤ l.outstanding.length) ∨ l.state = .checking ∨ l.state = .blocked →
      r.seq = none ∧ r.part.sameBut p [.mlt] ∧
      r.part.mlt = p.mlt.set m { l with counters := { l.counters with skipped := l.counters.skipped + 1 } }) ∧
    (l.state = .off ∨ l.state = .fault → r.seq = none ∧ r.part = p) ∧
    r.part.mlt.get (other m) = p.mlt.get (other m) ∧ r.part.sameBut p [.mlt, .tlu, .issued]

/-- A packet of the drive electronics is malformed: it is no whole RECEIPT with a known status, and no whole REPLY (R130, R212). -/
def driverMalformed (packet : List Byte) : Prop :=
  ¬ (packet.length = 8 ∧ byteAt packet 0 = 0x71 ∧ (byteAt packet 4).toNat ≤ 3) ∧
    ¬ (packet.length = 6 ∧ byteAt packet 0 = 0x72)

/-- In OFF, or where reception began too early, a packet changes nothing; a packet that fails the format, the CRC or, for a receipt,
the mirror id check counts in the counter of the first check it fails; a receipt that matches no outstanding frame, any receipt in
FAULT, and a reply that no link state awaits count STRAY; and none of them changes anything else (R130, R133, R135, R139, R143). -/
def Obligations.MirrorPacketsRefused : Prop :=
  ∀ (s : State) (m : MirrorIx) (packet : List Byte),
    let l := s.part.mlt.get m
    let c := l.counters
    let counted (c' : MirrorCounters) := ∃ t, exec (.mirrorPacketArrival m false packet) s = .next t ∧
      t.pending = s.pending ∧ t.part.mlt = s.part.mlt.set m { l with counters := c' } ∧ t.part.sameBut s.part [.mlt]
    let isReceipt := byteAt packet 0 = 0x71
    let awaited := l.state = .checking ∨ l.state = .blocked ∨ (l.state = .idle ∧ l.probe.isSome = true)
    exec (.mirrorPacketArrival m true packet) s = .next s ∧
    (l.state = .off → exec (.mirrorPacketArrival m false packet) s = .next s) ∧
    (l.state ≠ .off →
      (driverMalformed packet → counted { c with format := c.format + 1 }) ∧
      (¬ driverMalformed packet → crcMatches packet = false → counted { c with crc := c.crc + 1 }) ∧
      (¬ driverMalformed packet → crcMatches packet = true → isReceipt → (byteAt packet 1).toNat ≠ m.val →
        counted { c with foreign := c.foreign + 1 }) ∧
      (¬ driverMalformed packet → crcMatches packet = true → isReceipt → (byteAt packet 1).toNat = m.val →
        (l.state = .fault ∨ ∀ o ∈ l.outstanding, o.seq ≠ field16 packet 2) → counted { c with stray := c.stray + 1 }) ∧
      (¬ driverMalformed packet → crcMatches packet = true → ¬ isReceipt → ¬ awaited →
        counted { c with stray := c.stray + 1 }))

/-- The link, as l until then, is in FAULT: it sends nothing more, the timer and the query-awaiting mark are gone, the outstanding
list stands, MIRROR_LINK is raised, and the MIRROR_LINK cause holds an OPEN or CLOSED loop (R99, R143). That a packet being sent
is cut off and those behind it are dropped is the model's choice (log entry 34), and that the query count is cleared its reading
(log entry 35). -/
def faultEntered (p t : Part) (m : MirrorIx) (l : MirrorLink) : Prop :=
  let q : Part := { p with
    tlu := { p.tlu with events := withFlag p.tlu.events .mirrorLink }
    issued := p.issued ++ (if l.tx = [] then [] else [.cutOff m]) ++ p.signal .mirrorLink }
  t.mlt = p.mlt.set m { l with state := .fault, timer := none, awaiting := false, queryCount := 0, tx := [] } ∧
  holdReported q t .mirrorLink ∧ t.sameBut p [.mlt, .lpc, .tlu, .issued]

/-- The link, as l until then, is in BLOCKED: block count and query count 0, no query awaited, the timer started, and MIRROR_LINK
raised (R141). -/
def blockedEntered (p t : Part) (m : MirrorIx) (l : MirrorLink) : Prop :=
  t.mlt = p.mlt.set m { l with
    state := .blocked
    blockCount := 0
    awaiting := false
    queryCount := 0
    timer := some (p.tlu.timebase + BitVec.ofNat 64 l.timeoutUs) } ∧
  t.tlu = { p.tlu with events := withFlag p.tlu.events .mirrorLink } ∧ t.issued = p.issued ++ p.signal .mirrorLink ∧
  t.sameBut p [.mlt, .tlu, .issued]

/-- A receipt for an outstanding frame retires it with its status and every older frame as IMPLICIT. A driver fault, or a
rejection that brings the consecutive rejects to the limit, puts the link in FAULT. A BUSY puts it in BLOCKED, with the block
count at 0 and the timer started, and leaves a BLOCKED link, its block count, its mark and its timer as they are. Otherwise
RUNNING times the new oldest frame, CHECKING ends in RUNNING when nothing is outstanding, and BLOCKED stays (R133 to R136, R141,
R143). -/
def Obligations.ReceiptRetiresFrames : Prop :=
  ∀ (s : State) (m : MirrorIx) (packet : List Byte) (x : Serial) (st : ReceiptStatus) (fault : Bool)
    (older newer : List Outstanding) (sent : Option Time),
    let l := s.part.mlt.get m
    driverPacket packet = some (.receipt (BitVec.ofNat 8 m.val) x st fault) → crcMatches packet = true →
    l.state = .running ∨ l.state = .checking ∨ l.state = .blocked → l.outstanding = older ++ ⟨x, sent⟩ :: newer →
    (∀ o ∈ older, o.seq ≠ x) →
    let c := l.counters
    let counted := { c with
      accepted := if st = .accepted then c.accepted + 1 else c.accepted
      clipped := if st = .clipped then c.clipped + 1 else c.clipped
      rejected := if st = .rejected then c.rejected + 1 else c.rejected
      busy := if st = .busy then c.busy + 1 else c.busy
      implicitly := c.implicitly + BitVec.ofNat 32 older.length }
    let retired := { l with outstanding := newer, counters := counted }
    let rejects := if st = .rejected then min 15 (l.rejectCount + 1) else if st = .busy then l.rejectCount else 0
    let refusing := st = .rejected ∧ l.rejectLimit ≤ rejects
    ∃ t, exec (.mirrorPacketArrival m false packet) s = .next t ∧ t.pending = s.pending ∧
      (t.part.mlt.get m).outstanding = newer ∧ (t.part.mlt.get m).counters = counted ∧
      t.part.mlt.get (other m) = s.part.mlt.get (other m) ∧
      (fault = true → faultEntered s.part t.part m retired) ∧
      (fault = false → refusing → faultEntered s.part t.part m { retired with rejectCount := rejects }) ∧
      (fault = false → st = .busy → l.state ≠ .blocked → blockedEntered s.part t.part m retired) ∧
      (fault = false → st ≠ .busy → ¬ refusing → l.state = .running →
        t.part.mlt.get m = { retired with
          rejectCount := rejects
          timer := match newer with
            | [] => none
            | o :: _ => o.sent.map fun left => left + BitVec.ofNat 64 l.timeoutUs } ∧ t.part.sameBut s.part [.mlt]) ∧
      (fault = false → st ≠ .busy → ¬ refusing → l.state = .checking → newer = [] →
        t.part.mlt.get m = { retired with
          state := .running
          rejectCount := rejects
          queryCount := 0
          timer := none } ∧ t.part.sameBut s.part [.mlt]) ∧
      (fault = false → st ≠ .busy → ¬ refusing → l.state = .checking → newer ≠ [] →
        t.part.mlt.get m = { retired with rejectCount := rejects } ∧ t.part.sameBut s.part [.mlt]) ∧
      (fault = false → ¬ refusing → l.state = .blocked →
        t.part.mlt.get m = { retired with rejectCount := rejects } ∧ t.part.sameBut s.part [.mlt]) ∧
      t.part.sameBut s.part [.mlt, .lpc, .tlu, .issued]

/-- A link whose outstanding list a reply reconciles with the driver's last accepted sequence Y: frames at or older than Y count
ACCEPTED, which zeroes the consecutive rejects, and the others LOST (R139); of these, that a frame exactly 32,768 away from Y
counts LOST is the model's choice (log entry 36). -/
def reconciled (l : MirrorLink) (y : Serial) : MirrorLink :=
  let accepted := l.outstanding.filter fun o => decide ((y - o.seq).toNat ≤ 32767)
  let lost := l.outstanding.filter fun o => decide (32767 < (y - o.seq).toNat)
  { l with
    outstanding := []
    rejectCount := if accepted = [] then l.rejectCount else 0
    counters := { l.counters with
      accepted := l.counters.accepted + BitVec.ofNat 32 accepted.length
      lost := l.counters.lost + BitVec.ofNat 32 lost.length } }

/-- A reply in CHECKING empties the outstanding list; then a fault puts the link in FAULT, a driver that is not ready in BLOCKED,
and a ready one in RUNNING while the loop is CLOSED and in IDLE otherwise, with the timer stopped (R139). -/
def replyInChecking : Prop :=
  ∀ (s : State) (m : MirrorIx) (packet : List Byte) (ready fault : Bool) (y : Serial),
    let l := s.part.mlt.get m
    driverPacket packet = some (.reply ready fault y) → crcMatches packet = true → l.state = .checking →
    let l' := { reconciled l y with queryCount := 0, timer := none }
    ∃ t, exec (.mirrorPacketArrival m false packet) s = .next t ∧ t.pending = s.pending ∧
      (fault = true → faultEntered s.part t.part m l') ∧
      (fault = false → ready = false → blockedEntered s.part t.part m l') ∧
      (fault = false → ready = true → t.part.mlt = s.part.mlt.set m
          { l' with state := if s.part.lpc.loop = .closed then .running else .idle } ∧ t.part.sameBut s.part [.mlt])

/-- A reply in BLOCKED, awaited or not, clears the query-awaiting mark and empties the outstanding list; then a fault puts the
link in FAULT; a driver that is not ready counts to the block limit, at which the link enters FAULT, and otherwise leaves it
BLOCKED with its timer; and a ready one stops the timer and moves it to RUNNING or IDLE (R142). -/
def replyInBlocked : Prop :=
  ∀ (s : State) (m : MirrorIx) (packet : List Byte) (ready fault : Bool) (y : Serial),
    let l := s.part.mlt.get m
    driverPacket packet = some (.reply ready fault y) → crcMatches packet = true → l.state = .blocked →
    let l' := { reconciled l y with awaiting := false }
    let blocks := min 255 (l.blockCount + 1)
    ∃ t, exec (.mirrorPacketArrival m false packet) s = .next t ∧ t.pending = s.pending ∧
      (fault = true → faultEntered s.part t.part m l') ∧
      (fault = false → ready = false → l.blockLimit ≤ blocks →
        faultEntered s.part t.part m { l' with blockCount := blocks }) ∧
      (fault = false → ready = false → blocks < l.blockLimit →
        t.part.mlt = s.part.mlt.set m { l' with blockCount := blocks } ∧ t.part.sameBut s.part [.mlt]) ∧
      (fault = false → ready = true → t.part.mlt = s.part.mlt.set m
          { l' with state := if s.part.lpc.loop = .closed then .running else .idle, timer := none } ∧
        t.part.sameBut s.part [.mlt])

/-- A reply in IDLE ends a pending probe DONE, with the round-trip time, the driver's last accepted sequence and its two flags; a
fault then puts the link in FAULT (R146). A round-trip time without a recorded send time is a free value (log entry 7). -/
def replyEndsProbe : Prop :=
  ∀ (s : State) (m : MirrorIx) (packet : List Byte) (ready fault : Bool) (y : Serial) (pr : Probe),
    let l := s.part.mlt.get m
    driverPacket packet = some (.reply ready fault y) → crcMatches packet = true → l.state = .idle → l.probe = some pr →
    ∃ (t : State) (q : Part) (trip : BitVec 32), exec (.mirrorPacketArrival m false packet) s = .next t ∧
      t.pending = s.pending ∧ (∀ left, pr.sendTime = some left → trip = (s.part.tlu.timebase - left).setWidth 32) ∧
      probeEnded { s.part with frees := if pr.sendTime.isSome then s.part.frees else s.part.frees + 1 } q m
        { OrderResult.done with
          d1 := trip
          d2 := y.setWidth 32
          d3 := if ready then 1 else 0
          d4 := if fault then 1 else 0 } ∧
      (fault = true → faultEntered q t.part m (q.mlt.get m)) ∧ (fault = false → t.part = q)

/-- A reply in CHECKING, in BLOCKED, and in IDLE with a probe pending (R139, R142, R146). -/
def Obligations.ReplyReconciles : Prop := replyInChecking ∧ replyInBlocked ∧ replyEndsProbe

/-- The packet being sent leaves the link whole. A command frame leaves as ceil(n / 256) segments that carry its codes in order,
each closed by its CRC; the time at which the last left is recorded, and in RUNNING it starts the receipt timer of the oldest
frame. A QUERY that a pending probe awaits records the probe's send time and starts the timer (R127, R136, R145). -/
def packetsLeave : Prop :=
  ∀ (s : State) (m : MirrorIx) (rest : List TxPacket),
    let l := s.part.mlt.get m
    let now := s.part.tlu.timebase
    (l.tx = [] → exec (.packetTransmitEnd m) s = .next s) ∧
    (∀ seq codes, l.tx = .frame seq codes :: rest →
      ∃ (t : State) (segments : List (List Byte)), exec (.packetTransmitEnd m) s = .next t ∧ t.pending = s.pending ∧
        t.part.issued = s.part.issued ++ segments.map (.packet m) ∧ segments.length = (codes.length + 255) / 256 ∧
        (∀ k < segments.length, segments.getD k [] =
          let part := (codes.drop (256 * k)).take 256
          let body := leBytes 1 0x61 ++ leBytes 1 m.val ++ leBytes 2 seq.toNat ++ leBytes 1 k ++
            leBytes 1 segments.length ++ leBytes 2 part.length ++ part.flatMap (leBytes 2)
          body ++ leBytes 2 (crc16 body).toNat) ∧
        (∀ older more, l.outstanding = older ++ ⟨seq, none⟩ :: more → (∀ o ∈ older, o.seq ≠ seq) →
          t.part.mlt = s.part.mlt.set m { l with
            tx := rest
            outstanding := older ++ ⟨seq, some now⟩ :: more
            timer := if l.state = .running ∧ older = [] then some (now + BitVec.ofNat 64 l.timeoutUs) else l.timer }) ∧
        ((∀ o ∈ l.outstanding, o.seq ≠ seq) → t.part.mlt = s.part.mlt.set m { l with tx := rest }) ∧
        t.part.sameBut s.part [.mlt, .issued]) ∧
    (∀ pr, l.tx = .query true :: rest → l.probe = some pr →
      ∃ t, exec (.packetTransmitEnd m) s = .next t ∧ t.pending = s.pending ∧
        t.part.issued = s.part.issued ++ [.packet m (queryPacket m)] ∧
        t.part.mlt = s.part.mlt.set m { l with
          tx := rest
          probe := some { pr with sendTime := some now }
          timer := some (now + BitVec.ofNat 64 l.timeoutUs) } ∧ t.part.sameBut s.part [.mlt, .issued]) ∧
    (l.tx = .query false :: rest → ∃ t, exec (.packetTransmitEnd m) s = .next t ∧ t.pending = s.pending ∧
      t.part.issued = s.part.issued ++ [.packet m (queryPacket m)] ∧
      t.part.mlt = s.part.mlt.set m { l with tx := rest } ∧ t.part.sameBut s.part [.mlt, .issued])

/-- The receipt timer of a link expires: RUNNING becomes CHECKING with a first QUERY; CHECKING sends a further QUERY below the
query limit and enters FAULT at it; BLOCKED counts an unanswered QUERY and sends the next below the block limit, and enters FAULT
at it; in IDLE a pending probe ends FAILED TIMEOUT. Where no FAULT and no probe's end follows, nothing beside the link changes but
the time: no event, no message, no hold (R137, R138, R141, R143, R146). That time has reached the expiry is the model's
reading (log entry 10). -/
def Obligations.ReceiptTimerExpires : Prop :=
  ∀ (s : State) (m : MirrorIx),
    let l := s.part.mlt.get m
    (l.timer = none → exec (.receiptTimerExpiry m) s = .next s) ∧
    (∀ at_, l.timer = some at_ → ∃ t, exec (.receiptTimerExpiry m) s = .next t ∧ t.pending = s.pending ∧
      reached t.part.tlu.timebase at_ = true ∧ t.part.mlt.get (other m) = s.part.mlt.get (other m) ∧
      (let timer := some (t.part.tlu.timebase + BitVec.ofNat 64 l.timeoutUs)
       let queried := { l with
         tx := l.tx ++ [TxPacket.query false]
         timer := timer
         counters := { l.counters with queries := l.counters.queries + 1 } }
       let blocks := if l.awaiting then min 255 (l.blockCount + 1) else l.blockCount
       let timed : Part := { s.part with tlu := { s.part.tlu with timebase := t.part.tlu.timebase } }
       (l.state = .running → t.part.mlt.get m = { queried with state := .checking, queryCount := 1 } ∧
         t.part.sameBut timed [.mlt]) ∧
       (l.state = .checking → l.queryCount < l.queryLimit →
         t.part.mlt.get m = { queried with queryCount := l.queryCount + 1 } ∧ t.part.sameBut timed [.mlt]) ∧
       (l.state = .checking → l.queryLimit ≤ l.queryCount → faultEntered timed t.part m l) ∧
       (l.state = .blocked → blocks < l.blockLimit →
         t.part.mlt.get m = { queried with awaiting := true, blockCount := blocks } ∧
         t.part.sameBut timed [.mlt]) ∧
       (l.state = .blocked → l.blockLimit ≤ blocks → faultEntered timed t.part m { l with blockCount := blocks }) ∧
       (l.state = .idle → l.probe.isSome = true → probeEnded timed t.part m (.failed .timeout))) ∧
      t.part.sameBut s.part [.mlt, .lpc, .tlu, .issued])

/-- SET_MIRROR refuses an index above 1, an enable above 1, and the disable of a link with actuators in a CLOSED loop. Otherwise
it stores the clamped values; an OFF link that it enables becomes IDLE with nothing outstanding; an enabled one stays as it was. A
link that it disables becomes OFF, its outstanding frames count CLEARED, a pending probe ends ABORTED before the order's own
result, and a packet being sent is cut off (R131, R132, R146), while those issued behind it are dropped. The order of the two
results and the drop are the model's choice (log entries 37 and 17). -/
def Obligations.SetMirrorEffects : Prop :=
  ∀ (s : State) (h : OrderHead) (q : MirrorOrderParams), s.part.readyFor h →
    let p := s.part
    let answers (r : OrderResult) (changed : List Block) (t : State) :=
      exec (.setMirror h q) s = .next t ∧ t.pending = s.pending ∧ p.Answered h r p.xu p.tlu changed t.part
    (2 ≤ q.mirror.toNat ∨ 2 ≤ q.enable.toNat → ∃ t, answers (.failed .badParameter) [] t) ∧
    (∀ m : MirrorIx, q.mirror.toNat = m.val → q.enable.toNat < 2 →
      let l := p.mlt.get m
      let timeout := max 50 (min 5000 q.timeoutUs.toNat)
      let queries := max 1 (min 7 q.queryLimit.toNat)
      let blocks := max 1 (min 255 q.blockLimit.toNat)
      let rejects := max 1 (min 15 q.rejectLimit.toNat)
      let stored := { l with timeoutUs := timeout, queryLimit := queries, blockLimit := blocks, rejectLimit := rejects }
      let quiet := { stored with
        outstanding := []
        timer := none
        queryCount := 0
        awaiting := false
        blockCount := 0
        rejectCount := 0 }
      let done := OrderResult.adjustedDone (decide (q.timeoutUs.toNat ≠ timeout ∨ q.queryLimit.toNat ≠ queries ∨
        q.blockLimit.toNat ≠ blocks ∨ q.rejectLimit.toNat ≠ rejects))
      let closed := p.lpc.loop = .closed ∧ 0 < p.geo.mirror m
      (q.enable = 0 → l.state ≠ .off → closed → ∃ t, answers (.failed .wrongState) [] t) ∧
      (q.enable = 1 → l.state = .off → ∃ t, answers done [.mlt] t ∧
        t.part.mlt = p.mlt.set m { quiet with state := .idle, enable := true }) ∧
      (q.enable = 1 → l.state ≠ .off → ∃ t, answers done [.mlt] t ∧ t.part.mlt = p.mlt.set m stored) ∧
      (q.enable = 0 → l.state = .off → ∃ t, answers done [.mlt] t ∧ t.part.mlt = p.mlt.set m stored) ∧
      (q.enable = 0 → l.state ≠ .off → ¬ closed → ∃ (t : State) (v : Part), exec (.setMirror h q) s = .next t ∧
        t.pending = s.pending ∧
        (l.probe = none → v = orderTaken p h) ∧ (l.probe.isSome = true → probeEnded (orderTaken p h) v m (.failed .aborted)) ∧
        t.part.mlt = p.mlt.set m { quiet with
          state := .off
          enable := false
          probe := none
          tx := []
          counters := { l.counters with
            cleared := l.counters.cleared + BitVec.ofNat 32 l.outstanding.length } } ∧
        orderFinished { v with issued := v.issued ++ if l.tx = [] then [] else [.cutOff m] } t.part h done ∧
        t.part.sameBut v [.mlt, .tlu, .issued]))

/-- MIRROR_RESET refuses an index above 1 and an OFF link; otherwise a pending probe ends ABORTED before the order's own result,
the link is IDLE, its outstanding frames count CLEARED, its timer and counts are cleared, its counters and next sequence stay, and
a packet being sent goes on; the order of the two results, and that the packets issued behind it go out too, is the model's choice
(log entries 37 and 34). MIRROR_PROBE refuses an index above 1, a link that is not IDLE, and a second probe; otherwise the probe
is pending with its order, which stays TAKEN, and a QUERY is issued (R144 to R146). -/
def Obligations.MirrorResetAndProbe : Prop :=
  ∀ (s : State) (h : OrderHead) (index : Byte), s.part.readyFor h →
    let p := s.part
    let resets (r : OrderResult) (changed : List Block) (t : State) :=
      exec (.mirrorReset h index) s = .next t ∧ t.pending = s.pending ∧ p.Answered h r p.xu p.tlu changed t.part
    let probes (r : OrderResult) (t : State) :=
      exec (.mirrorProbe h index) s = .next t ∧ t.pending = s.pending ∧ p.Answered h r p.xu p.tlu [] t.part
    (2 ≤ index.toNat → (∃ t, resets (.failed .badParameter) [] t) ∧ ∃ t, probes (.failed .badParameter) t) ∧
    (∀ m : MirrorIx, index.toNat = m.val →
      let l := p.mlt.get m
      (l.state = .off → ∃ t, resets (.failed .wrongState) [] t) ∧
      (l.state ≠ .off → ∃ (t : State) (v : Part), exec (.mirrorReset h index) s = .next t ∧ t.pending = s.pending ∧
        (l.probe = none → v = orderTaken p h) ∧ (l.probe.isSome = true → probeEnded (orderTaken p h) v m (.failed .aborted)) ∧
        t.part.mlt = v.mlt.set m { v.mlt.get m with
          state := .idle
          outstanding := []
          timer := none
          queryCount := 0
          awaiting := false
          blockCount := 0
          rejectCount := 0
          counters := { l.counters with
            cleared := l.counters.cleared + BitVec.ofNat 32 l.outstanding.length } } ∧
        orderFinished v t.part h .done ∧ t.part.sameBut v [.mlt, .tlu, .issued]) ∧
      (l.state ≠ .idle → ∃ t, probes (.failed .wrongState) t) ∧
      (l.state = .idle → l.probe.isSome = true → ∃ t, probes (.failed .busy) t) ∧
      (l.state = .idle → l.probe = none → ∃ t, exec (.mirrorProbe h index) s = .next t ∧ t.pending = s.pending ∧
        t.part.mlt = p.mlt.set m { l with
          probe := some ⟨⟨h.slot, p.xu.nextTicket, 0x000C, h.notify⟩, none⟩
          tx := l.tx ++ [.query true]
          counters := { l.counters with queries := l.counters.queries + 1 } } ∧
        t.part.xu = { p.xu with nextTicket := p.xu.nextTicket + 1 } ∧
        (p.xu.memRequests = true → t.part.issued = p.issued ++ [.hostWrite (p.slotAddr h.slot) [2]]) ∧
        t.part.sameBut p [.mlt, .xu, .issued]))

/-! ## Orders, sweeps and transfers (chapters 8 and 9) -/

/-- SET_STORE stores pair mode 0 or 1 and refuses any other value (R91). -/
def setStoreStores : Prop :=
  ∀ (s : State) (h : OrderHead) (v : Byte), s.part.readyFor h →
    (2 ≤ v.toNat → ∃ t, exec (.setStore h v) s = .next t ∧ t.pending = s.pending ∧
      s.part.Answered h (.failed .badParameter) s.part.xu s.part.tlu [] t.part) ∧
    (v.toNat < 2 → ∃ t, exec (.setStore h v) s = .next t ∧ t.pending = s.pending ∧
      t.part.mxs = { s.part.mxs with pairMode := decide (v = 1) } ∧
      s.part.Answered h .done s.part.xu s.part.tlu [.mxs] t.part)

/-- SET_EXCHANGE stores the sweep period, clamped to 10..1,000 µs (R174). -/
def setExchangeStores : Prop :=
  ∀ (s : State) (h : OrderHead) (v : BitVec 16), s.part.readyFor h →
    let period := max 10 (min 1000 v.toNat)
    ∃ t, exec (.setExchange h v) s = .next t ∧ t.pending = s.pending ∧
      s.part.Answered h (.adjustedDone (decide (v.toNat ≠ period))) { s.part.xu with periodUs := period } s.part.tlu [] t.part

/-- CAPTURE sets the capture-pending mark, and its first detail word says whether it was set (R187). -/
def captureRequests : Prop :=
  ∀ (s : State) (h : OrderHead), s.part.readyFor h →
    ∃ t, exec (.capture h) s = .next t ∧ t.pending = s.pending ∧
      t.part.sns = { s.part.sns with capturePending := true } ∧
      s.part.Answered h { OrderResult.done with d1 := if s.part.sns.capturePending then 1 else 0 } s.part.xu s.part.tlu
        [.sns] t.part

/-- SET_WINDOW refuses a value out of its range, then a lane or queue that holds an order, and otherwise replaces the window at
once (R167). -/
def setWindowReplaces : Prop :=
  ∀ (s : State) (h : OrderHead) (q : WindowOrderParams), s.part.readyFor h →
    let bad := 4 ≤ q.index.toNat ∨ 2 ≤ q.enable.toNat ∨ q.partBase.toNat % 4096 ≠ 0 ∨ q.hostAddr.toNat % 4096 ≠ 0 ∨
      (∀ k, 12 ≤ k → k ≤ 34 → q.size.toNat ≠ 2 ^ k) ∨ 2 ^ 64 < q.partBase.toNat + q.size.toNat ∨
      2 ^ 64 < q.hostAddr.toNat + q.size.toNat
    let busy := s.part.xu.lane.isSome = true ∨ s.part.xu.queue ≠ []
    (bad → ∃ t, exec (.setWindow h q) s = .next t ∧ t.pending = s.pending ∧
      s.part.Answered h (.failed .badParameter) s.part.xu s.part.tlu [] t.part) ∧
    (¬ bad → busy → ∃ t, exec (.setWindow h q) s = .next t ∧ t.pending = s.pending ∧
      s.part.Answered h (.failed .busy) s.part.xu s.part.tlu [] t.part) ∧
    (∀ i : Fin 4, ¬ bad → ¬ busy → q.index.toNat = i.val → ∃ t, exec (.setWindow h q) s = .next t ∧ t.pending = s.pending ∧
      s.part.Answered h .done
        { s.part.xu with windows := s.part.xu.windows.set i ⟨decide (q.enable = 1), q.partBase, q.size, q.hostAddr⟩ }
        s.part.tlu [] t.part)

/-- A buffer of a length at a part address: aligned to 64 bytes, it lies within the enabled window of lowest index that covers its
first byte, which translates it to the host address (R165, R166). -/
def bufferAt (p : Part) (addr : BitVec 64) (length : Nat) (host : BitVec 64) : Prop :=
  addr.toNat % 64 = 0 ∧ ∃ i : Fin 4,
    let covers (j : Fin 4) := (p.xu.windows.get j).enable = true ∧ (p.xu.windows.get j).partBase.toNat ≤ addr.toNat ∧
      addr.toNat < (p.xu.windows.get j).partBase.toNat + (p.xu.windows.get j).size.toNat
    covers i ∧ (∀ j < i, ¬ covers j) ∧
      addr.toNat + length ≤ (p.xu.windows.get i).partBase.toNat + (p.xu.windows.get i).size.toNat ∧
      host = (p.xu.windows.get i).hostAddr + (addr - (p.xu.windows.get i).partBase)

/-- A buffer of so many bytes at a part address fails a check of R166, with the reason of the first that fails: the address is not a
multiple of 64, or the size is given as unfit; no enabled window covers it; or the buffer's end leaves the covering window of lowest
index. -/
def bufferRefused (p : Part) (addr : BitVec 64) (length : Nat) (unfit : Prop) (r : Reason) : Prop :=
  let covers (j : Fin 4) := (p.xu.windows.get j).enable = true ∧ (p.xu.windows.get j).partBase.toNat ≤ addr.toNat ∧
    addr.toNat < (p.xu.windows.get j).partBase.toNat + (p.xu.windows.get j).size.toNat
  let aligned := addr.toNat % 64 = 0 ∧ ¬ unfit
  (¬ aligned ∧ r = .alignment) ∨ (aligned ∧ (∀ j, ¬ covers j) ∧ r = .badAddress) ∨
    (aligned ∧ r = .windowCrossing ∧ ∃ i, covers i ∧ (∀ j < i, ¬ covers j) ∧
      (p.xu.windows.get i).partBase.toNat + (p.xu.windows.get i).size.toNat < addr.toNat + length)

/-- SET_TELEMETRY refuses a capacity that is no power of two from 16 to 65,536, then a loop that is not STOPPED, then a ring that
fails a check of R166, with that check's reason. With its ring in a window it places the ring, sets its mark and zeroes its counts.
The record queue keeps its records; those that no older frame holds back go to the write point in turn, into the new ring, and the
order finishes DONE (R166, R177, R180 to R182). That such writes come before the order's own result is the model's choice (log
entry 37). -/
def setTelemetryPlaces : Prop :=
  ∀ (s : State) (h : OrderHead) (ring : BitVec 64) (capacity : BitVec 32), s.part.readyFor h →
    let p := s.part
    let bad := ∀ k, 4 ≤ k → k ≤ 16 → capacity.toNat ≠ 2 ^ k
    let refused (r : Reason) := ∃ t, exec (.setTelemetry h ring capacity) s = .next t ∧ t.pending = s.pending ∧
      p.Answered h (.failed r) p.xu p.tlu [] t.part
    (bad → refused .badParameter) ∧
    (¬ bad → p.lpc.loop ≠ .stopped → refused .wrongState) ∧
    (¬ bad → p.lpc.loop = .stopped → ∀ r, bufferRefused p ring (64 * capacity.toNat) False r → refused r) ∧
    (∀ host, ¬ bad → p.lpc.loop = .stopped → bufferAt p ring (64 * capacity.toNat) host →
      ∃ (t : State) (m : Part), exec (.setTelemetry h ring capacity) s = .next t ∧ t.pending = s.pending ∧
        released p.tel.queue { orderTaken p h with tel := { p.tel with
          ringSet := true
          ringAddr := host
          capacity := capacity.toNat
          written := 0
          consumed := 0
          dropped := 0
          droppedSince := 0 } } m ∧
        orderFinished m t.part h .done ∧ t.part.sameBut m [.tlu, .issued])

/-- The setting orders SET_LOOP, SET_GAINS, SET_STORE, SET_EXCHANGE and CAPTURE (R39, R91, R105, R108, R124, R174, R187). -/
def Obligations.SettingOrdersStore : Prop :=
  loopValuesStored ∧ gainsStored ∧ setStoreStores ∧ setExchangeStores ∧ captureRequests

/-- The orders that place windows and the telemetry ring (R165 to R167, R177, R180). -/
def Obligations.WindowsAndRing : Prop := setWindowReplaces ∧ setTelemetryPlaces

/-- A sweep is abandoned: nothing is taken or written, the failure counts and HOST_ACCESS is raised, the consumed count stays, and
the timer starts for the next sweep (R157). -/
def sweepAbandoned (p t : Part) : Prop :=
  t.xu = { p.xu with
    sweeping := false
    hostFailures := p.xu.hostFailures + 1
    sweepTimer := some (t.tlu.timebase + BitVec.ofNat 64 p.xu.periodUs) } ∧
  t.tlu = { p.tlu with timebase := t.tlu.timebase, events := withFlag p.tlu.events .hostAccess } ∧
  t.issued = p.issued ++ p.signal .hostAccess ∧ t.sameBut p [.xu, .tlu, .issued]

/-- The sweep timer's expiry begins a sweep: the timer stops and the reads of the consumed count and of the 32 slots are issued;
while memory requests are disabled, and at a host access failure of a sweep's read, the sweep is abandoned (R153, R156, R157; that
time has reached the expiry is the model's reading, log entry 10). -/
def Obligations.SweepBegins : Prop :=
  ∀ s : State,
    (s.part.xu.sweepTimer = none → exec .sweepTimerExpiry s = .next s) ∧
    (∀ at_, s.part.xu.sweepTimer = some at_ → ∃ t, exec .sweepTimerExpiry s = .next t ∧ t.pending = s.pending ∧
      reached t.part.tlu.timebase at_ = true ∧
      (s.part.xu.memRequests = true →
        t.part.xu = { s.part.xu with sweepTimer := none, sweeping := true } ∧
        t.part.issued = s.part.issued ++
          [.hostRead (s.part.area + 0x100) 4, .hostRead (s.part.area + 0x1000) 4096] ∧
        t.part.tlu = { s.part.tlu with timebase := t.part.tlu.timebase } ∧ t.part.sameBut s.part [.xu, .tlu, .issued]) ∧
      (s.part.xu.memRequests = false → sweepAbandoned s.part t.part)) ∧
    (s.part.xu.sweeping = false → exec (.hostAccessFailure .sweepRead) s = .next s) ∧
    (s.part.xu.sweeping = true → ∃ t, exec (.hostAccessFailure .sweepRead) s = .next t ∧ t.pending = s.pending ∧
      t.part.tlu.timebase = s.part.tlu.timebase ∧ sweepAbandoned s.part t.part)

/-- The part after a sweep's read of the consumed count: accepted where it lies within the capacity behind the written count
(R183). -/
def consumedJudged (p : Part) (v : BitVec 32) : Tel :=
  if (p.tel.written - v).toNat ≤ p.tel.capacity then { p.tel with consumed := v } else p.tel

/-- The slots that lose a duplicate ticket finish FAILED DUPLICATE_TICKET, one after the other, a bulk order with its buffer
length as bytes remaining (R158, R164, log entry 22; a buffer without a length has a free value there, log entry 8). -/
def duplicatesLost : List PostedSlot → Part → Part → Prop
  | [], p, t => t = p
  | x :: rest, p, t => ∃ (m : Part) (d4 : BitVec 32),
    (∀ n, bufferLength x.order = some n → d4 = BitVec.ofNat 32 n ∧ m.frees = p.frees) ∧
    orderFinished p m ⟨x.slot, x.notify⟩ { OrderResult.done with reason := some .duplicateTicket, d4 := d4 } ∧
    m.sameBut p [.tlu, .issued, .frees] ∧ duplicatesLost rest m t

/-- Taking from a list of slots, in slot order. While no slot holds the next ticket, or n orders have been taken, no more are
taken. Otherwise the slot of lowest index that holds it wins, and every other that holds it loses, in slot order, which is the
model's choice (log entry 37). A winner that is a bulk order and finds the lane and the queue full is not taken, and taking ends;
otherwise the winner does what its own command does, one of an unknown kind finishing FAILED BAD_KIND, and taking goes on with the
slots of other tickets (R158, R159; that an order's command takes it from its slot is the model's reading of the table's rows, log
entry 13). -/
def ordersTaken : Prop :=
  ∀ (n : Nat) (slots : List PostedSlot) (p : Part),
    (n = 0 ∨ (∀ x ∈ slots, x.ticket ≠ p.xu.nextTicket) → Part.takeOrders n slots p = p) ∧
    (∀ before x after, slots = before ++ x :: after → (∀ y ∈ before, y.ticket ≠ p.xu.nextTicket) →
      x.ticket = p.xu.nextTicket →
      ∃ q, duplicatesLost (after.filter fun y => y.ticket = p.xu.nextTicket) p q ∧
        (isBulk x.order = true → q.xu.lane.isSome = true → 4 ≤ q.xu.queue.length → Part.takeOrders (n + 1) slots p = q) ∧
        (isBulk x.order = false ∨ q.xu.lane = none ∨ q.xu.queue.length < 4 →
          ∃ m, m = q.takeOrder x.order ⟨x.slot, p.xu.nextTicket, orderCode x.order, x.notify⟩ ∧
            m.xu.nextTicket = p.xu.nextTicket + 1 ∧
            (∀ code, x.order = .unknownKind code → q.Answered ⟨x.slot, x.notify⟩ (.failed .badKind) q.xu q.tlu [] m) ∧
            (q.readyFor ⟨x.slot, x.notify⟩ → m = Part.orderCommand ⟨x.slot, x.notify⟩ x.order q) ∧
            Part.takeOrders (n + 1) slots p = Part.takeOrders n (slots.filter fun y => y.ticket ≠ x.ticket) m))

/-- A POSTED slot whose kind code stands for no order holds an order of unknown kind, with its ticket and notify flag (R159, R214).
-/
def unknownKindRead : Prop :=
  ∀ (i : Fin 32) (bytes : List Byte), byteAt bytes 0 = 1 →
    let code := (field16 bytes 2).toNat
    code = 0 ∨ (0x15 < code ∧ code < 0x20) ∨ 0x24 < code →
    postedSlot i bytes = some ⟨i, byteAt bytes 1, (byteAt bytes 4).getLsbD 0, .unknownKind (field16 bytes 2)⟩

/-- The summary part of the status block: 256 bytes with the sweep count first and last, the timebase, the loop state with its
causes, the waiting marks, the pending swap, the next ticket, the transfer lane, the last sealed frame, the telemetry and failure
counts, the two bank records, the six link records, and 0 where no field stands (R76, R162, R209, section 11.7). -/
def summaryLaid : Prop :=
  ∀ p : Part,
    let b := p.summaryBytes
    b.length = 256 ∧ field32 b 0x00 = p.xu.sweepCount ∧ field32 b 0xFC = p.xu.sweepCount ∧
    field32 b 0x04 = p.tlu.timebase.setWidth 32 ∧
    byteAt b 0x08 = (match p.lpc.loop with | .stopped => 0 | .opened => 1 | .closed => 2 | .held => 3) ∧
    (let c := p.lpc.causes
     ∀ n < 8, (byteAt b 0x09).getLsbD n = [c.interlock, c.mirrorLink, c.sensorLoss, c.divergence].getD n false) ∧
    byteAt b 0x0A = (match p.lpc.firstCause with
      | none => 0 | some .interlock => 1 | some .mirrorLink => 2 | some .sensorLoss => 3 | some .divergence => 4) ∧
    (∀ n < 8, (byteAt b 0x0B).getLsbD n =
      [p.scn.refWaiting, p.scn.parWaiting, p.lpc.limWaiting, p.lpc.pairWaiting, p.lpc.gainWaiting].getD n false) ∧
    byteAt b 0x0C = (match p.mxs.pendingSwap with | none => 0 | some w => if w.target = 0 then 1 else 2) ∧
    byteAt b 0x0D = p.xu.nextTicket ∧
    byteAt b 0x0E = (match p.xu.lane with | none => 0 | some r => r.bulk.order.ticket) ∧
    byteAt b 0x0F = BitVec.ofNat 8 ((if p.xu.lane.isSome then 1 else 0) + 16 * p.xu.queue.length) ∧
    (p.fra.lastSealed = none → byteAt b 0x10 = 0 ∧ field16 b 0x12 = 0) ∧
    (∀ f k, p.fra.lastSealed = some (f, k) → field16 b 0x12 = f ∧ (k = .complete → byteAt b 0x10 = 1) ∧
      (k = .partialSeal → byteAt b 0x10 = 2) ∧ (k = .abandoned → byteAt b 0x10 = 3)) ∧
    field32 b 0x14 = p.tel.written ∧ field32 b 0x18 = p.tel.dropped ∧ field32 b 0x1C = p.xu.hostFailures ∧
    (∀ k : BankIx,
      let x := p.mxs.banks.get k
      let at_ := 0x20 + 16 * k.val
      byteAt b at_ = (match x.state with | .empty => 0 | .loading => 1 | .ready => 2 | .active => 3) ∧
      byteAt b (at_ + 1) = BitVec.ofNat 8 x.e ∧ field16 b (at_ + 2) = BitVec.ofNat 16 x.s ∧
      field16 b (at_ + 4) = BitVec.ofNat 16 x.a ∧ field16 b (at_ + 6) = BitVec.ofNat 16 x.progress ∧
      field32 b (at_ + 8) = x.check ∧ field32 b (at_ + 12) = 0) ∧
    (∀ i : LinkIx,
      let l := p.links.get i
      let at_ := 0x40 + 4 * i.val
      byteAt b at_ = (match l.state with | .off => 0 | .acquiring => 1 | .tracking => 2 | .quiet => 3) ∧
      byteAt b (at_ + 1) = (if l.lastFrame.isSome then 1 else 0) ∧ field16 b (at_ + 2) = l.lastFrame.getD 0) ∧
    (∀ m : MirrorIx,
      let l := p.mlt.get m
      let at_ := 0x50 + 4 * m.val
      byteAt b at_ = (match l.state with
        | .off => 0 | .idle => 1 | .running => 2 | .checking => 3 | .blocked => 4 | .fault => 5) ∧
      byteAt b (at_ + 1) = BitVec.ofNat 8 l.outstanding.length ∧ field16 b (at_ + 2) = l.nextSeq) ∧
    byteAt b 0x11 = 0 ∧ ∀ n, 0x58 ≤ n → n < 0xFC → byteAt b n = 0

/-- The counter part of the status block: 512 bytes with a block of 64 for each sensor link and then for each mirror link, their
counters in the order of section 11.7, and 0 where none stands (R10, R147, R162, R209). -/
def countersLaid : Prop :=
  ∀ p : Part,
    let b := p.counterBytes
    let laid (at_ : Nat) (counters : List (BitVec 32)) :=
      (∀ n x, counters[n]? = some x → field32 b (at_ + 4 * n) = x) ∧
        ∀ n, counters.length ≤ n → n < 16 → field32 b (at_ + 4 * n) = 0
    b.length = 512 ∧
    (∀ i : LinkIx,
      let c := (p.links.get i).counters
      laid (64 * i.val) [c.valid, c.delivered, c.untracked, c.overrun, c.stopped, c.format, c.crc, c.foreign, c.geometry,
        c.duplicate, c.late, c.noSlot, c.incomplete]) ∧
    (∀ m : MirrorIx,
      let c := (p.mlt.get m).counters
      laid (0x100 + 64 * m.val) [c.sent, c.skipped, c.accepted, c.clipped, c.rejected, c.busy, c.implicitly, c.lost, c.cleared,
        c.queries, c.stray, c.format, c.crc, c.foreign]) ∧
    ∀ n, 0x180 ≤ n → n < 0x200 → byteAt b n = 0

/-- A sweep whose reads succeed judges the consumed count, takes at most 32 orders from the POSTED slots that are not in flight,
in ticket order, then raises the sweep count, writes the status block last, and starts its timer; outside a sweep nothing happens
(R155 to R158, R161, R183). That the slots are found once, after the reads, is the model's reading (log entry 16). -/
def sweepEnds : Prop :=
  ∀ (s : State) (v : BitVec 32) (slots : List (List Byte)),
    let accepted : Part := { s.part with tel := consumedJudged s.part v }
    let eligible := (postedSlots slots).filter fun x => s.part.inFlight.all fun o => o.slot ≠ x.slot
    let q := Part.takeOrders 32 eligible accepted
    let last : Part := { q with xu := { q.xu with sweepCount := q.xu.sweepCount + 1 } }
    (s.part.xu.sweeping = false → exec (.sweepReadCompletion v slots) s = .next s) ∧
    (s.part.xu.sweeping = true → ∃ t, exec (.sweepReadCompletion v slots) s = .next t ∧ t.pending = s.pending ∧
      t.part.xu = { q.xu with
        sweeping := false
        sweepCount := s.part.xu.sweepCount + 1
        sweepTimer := some (q.tlu.timebase + BitVec.ofNat 64 q.xu.periodUs) } ∧
      t.part.issued = q.issued ++ (if s.part.xu.memRequests then
        [.hostWrite s.part.area last.summaryBytes, .hostWrite (s.part.area + 0x200) last.counterBytes] else []) ∧
      t.part.sameBut q [.xu, .issued] ∧ t.part.xu.exchEn = s.part.xu.exchEn ∧
      (∃ n ≤ 32, t.part.xu.nextTicket = s.part.xu.nextTicket + BitVec.ofNat 8 n) ∧
      ((∀ x ∈ eligible, x.ticket ≠ s.part.xu.nextTicket) → q = accepted) ∧
      (∀ x, eligible = [x] → x.ticket = s.part.xu.nextTicket → isBulk x.order = false → s.part.xu.exchEn = true →
        q = Part.orderCommand ⟨x.slot, x.notify⟩ x.order accepted))

/-- Orders are taken in ticket order, those of unknown kind among them, and a sweep ends with the status block, whose fields stand
where section 11.7 puts them (R155 to R159, R161, R162, R183, R209). -/
def Obligations.SweepTakesOrders : Prop := ordersTaken ∧ unknownKindRead ∧ sweepEnds ∧ summaryLaid ∧ countersLaid

/-- The part after a bulk order has joined the tail of the transfer queue behind other transfers: TAKEN, the next ticket, and the
queue's new entry, nothing else (R158, R160). -/
def bulkQueued (p t : Part) (h : OrderHead) (code : BitVec 16) (op : BulkOp) (host : BitVec 64) (length : Nat) : Prop :=
  t.xu = { p.xu with
    nextTicket := p.xu.nextTicket + 1
    queue := p.xu.queue ++ [⟨⟨h.slot, p.xu.nextTicket, code, h.notify⟩, op, host, length⟩] } ∧
  t.issued = p.issued ++ (if p.xu.memRequests then [.hostWrite (p.slotAddr h.slot) [2]] else []) ∧
  t.sameBut p [.xu, .issued]

/-- The part t is p after so many starts of the transfer queue's head, each as TRANSFER_START makes it, which does nothing once the
lane is occupied (R168). -/
def headsStarted : Nat → Part → Part → Prop
  | 0, p, t => t = p
  | n + 1, p, t => ∃ m : Part, exec .transferStart ⟨p, []⟩ = .next ⟨m, []⟩ ∧ headsStarted n m t

/-- The READ_BACK source code of a table (R214). -/
def sourceCode : TableSource → Byte
  | .reference => 2
  | .sensors => 3
  | .limits => 4
  | .pairs => 5

/-- A bulk order whose values are in range and whose buffer lies in a window joins the queue where the lane is empty or a place is
free: LOAD_MATRIX, LOAD_TABLE of each kind, one of no PAIRS without any buffer, APPLY_SHAPE in OPEN for the A of the geometry,
READ_BACK of a bank that is not LOADING or of a table of each kind, live or shadow, and COPY_SNAPSHOT. While a transfer runs it
waits there; with the lane empty the queue's heads start in the same step, as far as their starts are refused (R46, R77, R86, R106,
R107, R122, R160, R166, R168, R190). -/
def bulkOrdersJoin : Prop :=
  ∀ (s : State) (h : OrderHead) (host : BitVec 64), s.part.readyFor h →
    s.part.xu.lane = none ∨ s.part.xu.queue.length < 4 →
    let p := s.part
    let joins (c : Instr) (code : BitVec 16) (op : BulkOp) (length : Nat) :=
      ∃ (t : State) (m : Part), exec c s = .next t ∧ t.pending = s.pending ∧ bulkQueued p m h code op host length ∧
        (p.xu.lane.isSome = true → t.part = m) ∧ (p.xu.lane = none → headsStarted m.xu.queue.length m t.part)
    (∀ (q : MatrixOrderParams) (b : BankIx), q.bank.toNat = b.val → 2 ≤ q.s.toNat → q.s.toNat ≤ 20480 → q.s.toNat % 2 = 0 →
      1 ≤ q.a.toNat → q.a.toNat ≤ 4096 → q.e.toNat ≤ 31 → bufferAt p q.source (2 * q.s.toNat * q.a.toNat) host →
      joins (.loadMatrix h q) 0x0020 (.loadMatrix b q.s.toNat q.a.toNat q.e.toNat q.check) (2 * q.s.toNat * q.a.toNat)) ∧
    (∀ (q : TableOrderParams) (n : Nat), q.count.toNat = n → 1 ≤ n →
      (q.kind = 0 → n ≤ 20480 → bufferAt p q.source (2 * n) host → joins (.loadTable h q) 0x0022 (.loadReference n) (2 * n)) ∧
      (q.kind = 1 → n ≤ 4 → bufferAt p q.source (8 * n) host → joins (.loadTable h q) 0x0022 (.loadSensors n) (8 * n)) ∧
      (q.kind = 2 → n ≤ 4096 → bufferAt p q.source (8 * n) host → joins (.loadTable h q) 0x0022 (.loadLimits n) (8 * n)) ∧
      (q.kind = 3 → n ≤ 8192 → bufferAt p q.source (6 * n) host → joins (.loadTable h q) 0x0022 (.loadPairs n) (6 * n))) ∧
    (∀ q : TableOrderParams, q.kind = 3 → q.count = 0 → host = 0 → joins (.loadTable h q) 0x0022 (.loadPairs 0) 0) ∧
    (∀ q : ShapeOrderParams, p.lpc.loop = .opened → q.count.toNat = p.geo.a0 + p.geo.a1 → 1 ≤ q.count.toNat →
      bufferAt p q.source (2 * q.count.toNat) host →
      joins (.applyShape h q) 0x0023 (.applyShape q.count.toNat) (2 * q.count.toNat)) ∧
    (∀ (q : ReadBackParams) (b : BankIx), q.source.toNat = b.val → q.firstColumn.toNat ≤ 20479 → 1 ≤ q.columns.toNat →
      q.firstColumn.toNat + q.columns.toNat ≤ 20480 → (p.mxs.banks.get b).state ≠ .loading → q.size.toNat % 64 = 0 →
      0 < q.size.toNat → bufferAt p q.dest q.size.toNat host →
      joins (.readBack h q) 0x0021 (.readBank b q.firstColumn.toNat q.columns.toNat) q.size.toNat) ∧
    (∀ (q : ReadBackParams) (table : TableSource), q.source = sourceCode table → q.copy.toNat < 2 → q.size.toNat % 64 = 0 →
      0 < q.size.toNat → bufferAt p q.dest q.size.toNat host →
      joins (.readBack h q) 0x0021 (.readTable table (decide (q.copy = 1))) q.size.toNat) ∧
    (∀ dest : BitVec 64, bufferAt p dest 65600 host → joins (.copySnapshot h dest) 0x0024 .copySnapshot 65600)

/-- The values of a LOAD_MATRIX are out of range (R77). -/
def badMatrix (q : MatrixOrderParams) : Prop :=
  1 < q.bank.toNat ∨ q.s.toNat < 2 ∨ 20480 < q.s.toNat ∨ q.s.toNat % 2 = 1 ∨ q.a.toNat < 1 ∨ 4096 < q.a.toNat ∨ 31 < q.e.toNat

/-- The columns of a bank READ_BACK are out of range (R86). -/
def badColumns (q : ReadBackParams) : Prop :=
  20479 < q.firstColumn.toNat ∨ q.columns.toNat < 1 ∨ 20480 < q.columns.toNat ∨ 20480 < q.firstColumn.toNat + q.columns.toNat

/-- A bulk order of each kind with the lane and all four places occupied is not taken (R158). -/
def bulkOrdersWait : Prop :=
  ∀ (s : State) (h : OrderHead), s.part.xu.lane.isSome = true → 4 ≤ s.part.xu.queue.length →
    (∀ q, exec (.loadMatrix h q) s = .next s) ∧ (∀ q, exec (.readBack h q) s = .next s) ∧
    (∀ q, exec (.loadTable h q) s = .next s) ∧ (∀ q, exec (.applyShape h q) s = .next s) ∧
    (∀ dest, exec (.copySnapshot h dest) s = .next s)

/-- Refusals of bulk orders at take, each with the buffer's length as bytes remaining (DEDUCED, log entry 22; modulo 2^32, log entry
38). BAD_PARAMETER: a LOAD_MATRIX with a value out of range; a LOAD_TABLE of another kind than the four (with a free value as bytes
remaining, log entry 8) or with a count out of its kind's range; an APPLY_SHAPE in OPEN of another count than the geometry's A, or
of none; a READ_BACK of no source, of a table's copy that is neither live nor shadow, or of a bank's columns out of range.
WRONG_STATE: an APPLY_SHAPE outside OPEN. BANK_BUSY: a READ_BACK of a LOADING bank. An order that passes these is refused for its
buffer (R46, R77, R86, R106, R107, R122, R160, R164, R166, R190). -/
def bulkOrdersRefused : Prop :=
  ∀ (s : State) (h : OrderHead), s.part.readyFor h → s.part.xu.lane = none ∨ s.part.xu.queue.length < 4 →
    let p := s.part
    let refused (c : Instr) (r : Reason) (length : Nat) := ∃ t, exec c s = .next t ∧ t.pending = s.pending ∧
      p.Answered h { OrderResult.done with reason := some r, d4 := BitVec.ofNat 32 length } p.xu p.tlu [] t.part
    (∀ q : MatrixOrderParams,
      (badMatrix q → refused (.loadMatrix h q) .badParameter (2 * q.s.toNat * q.a.toNat)) ∧
      (¬ badMatrix q → ∀ r, bufferRefused p q.source (2 * q.s.toNat * q.a.toNat) False r →
        refused (.loadMatrix h q) r (2 * q.s.toNat * q.a.toNat))) ∧
    (∀ (q : TableOrderParams) (lo hi size : Nat),
      (q.kind = 0 ∧ lo = 1 ∧ hi = 20480 ∧ size = 2) ∨ (q.kind = 1 ∧ lo = 1 ∧ hi = 4 ∧ size = 8) ∨
        (q.kind = 2 ∧ lo = 1 ∧ hi = 4096 ∧ size = 8) ∨ (q.kind = 3 ∧ lo = 0 ∧ hi = 8192 ∧ size = 6) →
      (q.count.toNat < lo ∨ hi < q.count.toNat → refused (.loadTable h q) .badParameter (size * q.count.toNat)) ∧
      (lo ≤ q.count.toNat → q.count.toNat ≤ hi → 0 < q.count.toNat →
        ∀ r, bufferRefused p q.source (size * q.count.toNat) False r →
          refused (.loadTable h q) r (size * q.count.toNat))) ∧
    (∀ q : TableOrderParams, 3 < q.kind.toNat → ∃ (t : State) (d4 : BitVec 32), exec (.loadTable h q) s = .next t ∧
      t.pending = s.pending ∧
      p.Answered h { OrderResult.done with reason := some .badParameter, d4 := d4 } p.xu p.tlu [.frees] t.part) ∧
    (∀ q : ShapeOrderParams,
      let n := q.count.toNat
      (p.lpc.loop ≠ .opened → refused (.applyShape h q) .wrongState (2 * n)) ∧
      (p.lpc.loop = .opened → n ≠ p.geo.a0 + p.geo.a1 ∨ n = 0 → refused (.applyShape h q) .badParameter (2 * n)) ∧
      (p.lpc.loop = .opened → n = p.geo.a0 + p.geo.a1 → n ≠ 0 → ∀ r, bufferRefused p q.source (2 * n) False r →
        refused (.applyShape h q) r (2 * n))) ∧
    (∀ q : ReadBackParams,
      let unfit := q.size.toNat % 64 ≠ 0 ∨ q.size.toNat = 0
      (5 < q.source.toNat → refused (.readBack h q) .badParameter q.size.toNat) ∧
      (∀ table, q.source = sourceCode table →
        (1 < q.copy.toNat → refused (.readBack h q) .badParameter q.size.toNat) ∧
        (q.copy.toNat ≤ 1 → ∀ r, bufferRefused p q.dest q.size.toNat unfit r → refused (.readBack h q) r q.size.toNat)) ∧
      (∀ b : BankIx, q.source.toNat = b.val →
        (badColumns q → refused (.readBack h q) .badParameter q.size.toNat) ∧
        (¬ badColumns q → (p.mxs.banks.get b).state = .loading → refused (.readBack h q) .bankBusy q.size.toNat) ∧
        (¬ badColumns q → (p.mxs.banks.get b).state ≠ .loading → ∀ r, bufferRefused p q.dest q.size.toNat unfit r →
          refused (.readBack h q) r q.size.toNat))) ∧
    (∀ dest r, bufferRefused p dest 65600 False r → refused (.copySnapshot h dest) r 65600)

/-- Bulk orders are checked at take: they join the queue, wait in their slots, or are refused (R158, R160, R166). -/
def Obligations.BulkOrdersTaken : Prop := bulkOrdersJoin ∧ bulkOrdersWait ∧ bulkOrdersRefused

/-- The part t is p after the head of the queue was refused at its start: it finishes FAILED with its buffer length as bytes
remaining, and the lane is empty (R164, R168, R169). -/
def startRefused (p t : Part) (b : Bulk) (rest : List Bulk) (r : Reason) : Prop :=
  t.xu = { p.xu with queue := rest } ∧
  orderFinished p t (headOf b.order) { OrderResult.done with reason := some r, d4 := BitVec.ofNat 32 b.length } ∧
  t.sameBut p [.xu, .tlu, .issued]

/-- The part t is p after a load of the host's bytes has moved to the lane: its owning block has begun, and the whole source is
read; while memory requests are disabled the read fails at once, and the order finishes FAILED HOST_ACCESS with nothing moved
(R153, R169, R170). One read of the whole buffer is the model's choice (log entry 23). -/
def loadStarted (p t : Part) (b : Bulk) (rest : List Bulk) (owning : Block) (begun dropped : Part → Prop) : Prop :=
  (p.xu.memRequests = true → t.xu = { p.xu with lane := some ⟨b, b.length, 0, [], false⟩, queue := rest } ∧ begun t ∧
    t.issued = p.issued ++ [.hostRead b.host b.length] ∧ t.sameBut p [.xu, owning, .issued]) ∧
  (p.xu.memRequests = false → ∃ q : Part,
    orderFinished p q (headOf b.order) { OrderResult.done with reason := some .hostAccess, d4 := BitVec.ofNat 32 b.length } ∧
    t.tlu = { q.tlu with events := withFlag q.tlu.events .hostAccess } ∧ t.issued = q.issued ∧ dropped t ∧
    t.xu = { p.xu with queue := rest, hostFailures := p.xu.hostFailures + 1 } ∧
    t.sameBut p [.xu, owning, .tlu, .issued])

/-- The head of the queue moves to an empty lane and starts, and with a transfer running or nothing queued nothing happens. A
LOAD_MATRIX fails BANK_ACTIVE or, for the target of a pending swap, BANK_BUSY; otherwise its bank is LOADING with the order's
dimensions and its source is read. A table load begins with an empty load buffer and changes no table, an empty PAIRS load
completing at once; an APPLY_SHAPE is refused outside OPEN (R46, R78, R106, R107, R122, R168; log entries 23 and 24). That a LOADING
bank, which no run has at a start, is refused BANK_BUSY is the model's choice (log entry 25). -/
def loadsStart : Prop :=
  ∀ s : State,
    (s.part.xu.lane.isSome = true ∨ s.part.xu.queue = [] → exec .transferStart s = .next s) ∧
    (∀ (b : Bulk) (rest : List Bulk), s.part.xu.lane = none → s.part.xu.queue = b :: rest →
      let p := s.part
      ∃ t, exec .transferStart s = .next t ∧ t.pending = s.pending ∧
      (∀ k n m e check, b.op = .loadMatrix k n m e check →
        ((p.mxs.banks.get k).state = .active → startRefused p t.part b rest .bankActive) ∧
        ((p.mxs.banks.get k).state = .loading → startRefused p t.part b rest .bankBusy) ∧
        (∀ w, (p.mxs.banks.get k).state = .ready → p.mxs.pendingSwap = some w → w.target = k →
          startRefused p t.part b rest .bankBusy) ∧
        ((p.mxs.banks.get k).state = .ready ∨ (p.mxs.banks.get k).state = .empty →
          (∀ w, p.mxs.pendingSwap = some w → w.target ≠ k) → 0 < b.length →
          loadStarted p t.part b rest .mxs
            (fun t => t.mxs = { p.mxs with
              banks := p.mxs.banks.set k ⟨.loading, n, m, e, check, 0⟩
              load := some ⟨k, 0, [], 0, 0, 0, none⟩ })
            (fun t => t.mxs = { p.mxs with
              banks := p.mxs.banks.set k ⟨.empty, n, m, e, check, 0⟩
              load := none
              bursts := p.mxs.bursts.map loaderOrphaned }))) ∧
      (∀ n, 0 < b.length →
        (b.op = .loadReference n → loadStarted p t.part b rest .scn
          (fun t => t.scn = { p.scn with load := some ⟨.reference, n, 0, [], [], 0, none⟩ })
          (fun t => t.scn = { p.scn with load := none })) ∧
        (b.op = .loadSensors n → loadStarted p t.part b rest .scn
          (fun t => t.scn = { p.scn with load := some ⟨.sensors, n, 0, [], [], 0, none⟩ })
          (fun t => t.scn = { p.scn with load := none })) ∧
        (b.op = .loadLimits n → loadStarted p t.part b rest .lpc
          (fun t => t.lpc = { p.lpc with load := some ⟨.limits, n, 0, [], [], 0, 0, none⟩ })
          (fun t => t.lpc = { p.lpc with load := none })) ∧
        (b.op = .loadPairs n → loadStarted p t.part b rest .lpc
          (fun t => t.lpc = { p.lpc with load := some ⟨.pairs, n, 0, [], [], 0, 0, none⟩ })
          (fun t => t.lpc = { p.lpc with load := none })) ∧
        (b.op = .applyShape n → p.lpc.loop = .opened → loadStarted p t.part b rest .lpc
          (fun t => t.lpc = { p.lpc with shape := [] }) (fun t => t.lpc = { p.lpc with shape := [] }))) ∧
      (∀ n, b.op = .applyShape n → p.lpc.loop ≠ .opened → startRefused p t.part b rest .wrongState) ∧
      (b.op = .loadPairs 0 → b.length = 0 → t.part.xu = { p.xu with queue := rest } ∧
        orderFinished p t.part (headOf b.order) .done ∧
        t.part.lpc = (if p.lpc.loop = .stopped then
            { p.lpc with load := none, pairShadow := [], pairLive := [], pairWaiting := false }
          else { p.lpc with load := none, pairShadow := [], pairWaiting := true }) ∧
        t.part.sameBut p [.xu, .lpc, .tlu, .issued]))

/-- The image of a table, live or shadow, as a readback takes it: every entry of the table with its fields, least significant byte
first (R86, R88). -/
def tableImaged (p : Part) (table : TableSource) (shadow : Bool) (image : List Byte) : Prop :=
  match table with
  | .reference => image.length = 40960 ∧ ∀ j < 20480,
    field16 image (2 * j) = Sparse.get 0 (if shadow then p.scn.refShadow else p.scn.refLive) j
  | .sensors => image.length = 32 ∧ ∀ i : LinkIx,
    let x := (if shadow then p.scn.parShadow else p.scn.parLive).get i
    field16 image (8 * i.val) = x.fluxFloor ∧ field16 image (8 * i.val + 2) = x.weight ∧
    byteAt image (8 * i.val + 4) = x.policy.code ∧ byteAt image (8 * i.val + 5) = 0 ∧
    field16 image (8 * i.val + 6) = BitVec.ofNat 16 x.keepLimit
  | .limits => image.length = 32768 ∧ ∀ a < 4096,
    let x := Sparse.get Limits.powerOn (if shadow then p.lpc.limShadow else p.lpc.limLive) a
    field16 image (8 * a) = x.lo ∧ field16 image (8 * a + 2) = x.hi ∧ field16 image (8 * a + 4) = x.flat ∧
    byteAt image (8 * a + 6) = (if x.active then 1 else 0) ∧ byteAt image (8 * a + 7) = 0
  | .pairs =>
    let pairs := if shadow then p.lpc.pairShadow else p.lpc.pairLive
    image.length = 6 * pairs.length ∧ ∀ n x, pairs[n]? = some x →
      field16 image (6 * n) = BitVec.ofNat 16 x.p ∧ field16 image (6 * n + 2) = BitVec.ofNat 16 x.r ∧
      field16 image (6 * n + 4) = BitVec.ofNat 16 x.d

/-- A readback starts. One of a bank is refused for an EMPTY bank, for columns beyond its S and for a destination that does not hold
the image, and, as the model reads a case that R86 says cannot arise, BANK_BUSY for a LOADING bank (log entry 25); otherwise the
readback runs from its first column to its last. One of a table is refused where the image does not fit, and otherwise takes the
image as it stands, an empty one being confirmed at once. A COPY_SNAPSHOT fails NOTHING_HELD for an empty store, and begins
otherwise (R86 to R88, R168, R169, R190). -/
def readbacksStart : Prop :=
  ∀ (s : State) (b : Bulk) (rest : List Bulk), s.part.xu.lane = none → s.part.xu.queue = b :: rest →
    let p := s.part
    let moved (t : Part) (total : Nat) := t.xu = { p.xu with lane := some ⟨b, total, 0, [], false⟩, queue := rest }
    ∃ t, exec .transferStart s = .next t ∧ t.pending = s.pending ∧
    (∀ k first columns, b.op = .readBank k first columns →
      let x := p.mxs.banks.get k
      let image := 2 * columns * x.a
      (x.state = .empty → startRefused p t.part b rest .bankNotReady) ∧
      (x.state = .loading → startRefused p t.part b rest .bankBusy) ∧
      (x.state = .ready ∨ x.state = .active →
        (x.s < first + columns ∨ b.length < image → startRefused p t.part b rest .badParameter) ∧
        (first + columns ≤ x.s → image ≤ b.length → 0 < image →
          moved t.part image ∧ t.part.mxs = { p.mxs with
            readback := some ⟨268435456 * k.val + 2 * (first * x.a), 268435456 * k.val + 2 * ((first + columns) * x.a)⟩ } ∧
          t.part.sameBut p [.xu, .mxs]))) ∧
    (∀ table shadow, b.op = .readTable table shadow → ∃ image, tableImaged p table shadow image ∧
      (b.length < image.length → startRefused p t.part b rest .badParameter) ∧
      (image.length ≤ b.length → 0 < image.length → moved t.part image.length ∧
        t.part.mxs = { p.mxs with tableImage := image } ∧ t.part.sameBut p [.xu, .mxs]) ∧
      (image.length ≤ b.length → image.length = 0 → p.xu.memRequests = true →
        t.part.xu = { p.xu with lane := some ⟨b, 0, 0, [], true⟩, queue := rest } ∧
        t.part.mxs = { p.mxs with tableImage := [] } ∧
        t.part.issued = p.issued ++ [.hostRead (b.host + BitVec.ofNat 64 (b.length - 64)) 64] ∧
        t.part.sameBut p [.xu, .mxs, .issued])) ∧
    (b.op = .copySnapshot → p.sns.filled = false → startRefused p t.part b rest .nothingHeld) ∧
    (b.op = .copySnapshot → p.sns.filled = true → moved t.part 65600 ∧
      t.part.sns = { p.sns with copying := true, renewed := false } ∧ t.part.sameBut p [.xu, .sns])

/-- The head of the transfer queue starts: loads from the host, and readbacks to it (R46, R78, R86 to R88, R106, R107, R122, R168,
R190; that a start reads the whole source at once, and that it is a step of its own, are the model's, log entries 23 and 24,
and so is what a start finds at a LOADING bank, log entry 25). -/
def Obligations.TransferStarts : Prop := loadsStart ∧ readbacksStart

/-- Bytes of a matrix load join the gathering buffer, which takes them only when its 512 bytes have room, and count as handed
over; each coefficient of which both bytes have come is added to the running sum as a signed 16-bit number, and a low byte left
over waits for the next piece (R79). That a piece without room is not taken, and that a granted block leaves
room, are the model's choices (log entries 15, 40). -/
def matrixBytesArrive : Prop :=
  ∀ (s : State) (bytes : List Byte) (r : Running), s.part.xu.lane = some r → r.confirming = false → bytes ≠ [] →
    r.moved + bytes.length ≤ r.total →
    let p := s.part
    ∀ k n m e check l, r.bulk.op = .loadMatrix k n m e check → p.mxs.load = some l →
      (512 < l.buffer.length + bytes.length → exec (.hostReadCompletion bytes) s = .next s) ∧
      (l.buffer.length + bytes.length ≤ 512 →
        let all := l.low.toList ++ bytes
        ∃ t, exec (.hostReadCompletion bytes) s = .next t ∧ t.pending = s.pending ∧
        t.part.xu = { p.xu with lane := some { r with moved := r.moved + bytes.length } } ∧
        t.part.mxs = { p.mxs with load := some { l with
          taken := l.taken + bytes.length
          buffer := l.buffer ++ bytes
          sum := (List.range (all.length / 2)).foldl (fun sum n => sum + (field16 all (2 * n)).signExtend 32) l.sum
          low := if all.length % 2 = 1 then all.getLast? else none } } ∧
        t.part.sameBut p [.xu, .mxs])

/-- The size of an entry of a load that takes whole entries, in bytes (section 11.8). -/
def entryBytes : BulkOp → Option Nat
  | .loadReference _ | .applyShape _ => some 2
  | .loadSensors _ | .loadLimits _ => some 8
  | .loadPairs _ => some 6
  | .loadMatrix _ _ _ _ _ | .readBank _ _ _ | .readTable _ _ | .copySnapshot => none

/-- The load buffer l' is l after k REFERENCE entries (R47). -/
def referencesGathered (l l' : SlopeLoad) (all : List Byte) (k : Nat) : Prop :=
  l' = { l with got := l.got + k, refs := l.refs ++ (List.range k).map fun j => field16 all (2 * j) }

/-- The load buffer l' is l after k SENSORS entries: the entries with each keep limit brought within 1..255, those so changed
counted, and the index of the first of them all with a policy code above 2 (R47). -/
def parametersGathered (l l' : SlopeLoad) (all : List Byte) (k : Nat) : Prop :=
  let code (j : Nat) := (byteAt all (8 * j + 4)).toNat
  let keep (j : Nat) := (field16 all (8 * j + 6)).toNat
  ∃ new : List SensorParam, new.length = k ∧
    (∀ j < k, code j ≤ 2 → new.getD j ⟨0, 0, .zero, 1⟩ = ⟨field16 all (8 * j), field16 all (8 * j + 2),
      if code j = 0 then .keep else if code j = 1 then .zero else .require, max 1 (min 255 (keep j))⟩) ∧
    l' = { l with
      got := l.got + k
      params := l.params ++ new
      adjusted := l.adjusted + (List.range k).countP fun j => decide (keep j < 1 ∨ 255 < keep j)
      bad := l'.bad } ∧
    (l.bad.isSome = true ∨ (∀ j < k, code j ≤ 2) → l'.bad = l.bad) ∧
    (∀ j < k, l.bad = none → 2 < code j → (∀ m < j, code m ≤ 2) → l'.bad = some (l.got + j))

/-- The load buffer l' is l after k LIMITS entries: the entries with hi raised to lo and flat brought within, those so changed
counted, and the index of the first of them all with an active byte above 1 (R106). -/
def limitsGathered (l l' : ActuatorLoad) (all : List Byte) (k : Nat) : Prop :=
  let lo (a : Nat) := field16 all (8 * a)
  let hi (a : Nat) := field16 all (8 * a + 2)
  let flat (a : Nat) := field16 all (8 * a + 4)
  let code (a : Nat) := (byteAt all (8 * a + 6)).toNat
  let hi' (a : Nat) := max (lo a).toNat (hi a).toNat
  let flat' (a : Nat) := max (lo a).toNat (min (hi' a) (flat a).toNat)
  ∃ new : List Limits, new.length = k ∧
    (∀ a < k, code a ≤ 1 → new.getD a Limits.powerOn =
      ⟨lo a, BitVec.ofNat 16 (hi' a), BitVec.ofNat 16 (flat' a), decide (code a = 1)⟩) ∧
    l' = { l with
      got := l.got + k
      limits := l.limits ++ new
      adjusted := l.adjusted +
        (List.range k).countP fun a => decide (hi' a ≠ (hi a).toNat ∨ flat' a ≠ (flat a).toNat)
      bad := l'.bad } ∧
    (l.bad.isSome = true ∨ (∀ a < k, code a ≤ 1) → l'.bad = l.bad) ∧
    (∀ a < k, l.bad = none → 1 < code a → (∀ m < a, code m ≤ 1) → l'.bad = some (l.got + a))

/-- The load buffer l' is l after k PAIRS entries: a pair of equal actuators, of one not below the geometry's A, or with a
difference of 0 is dropped and counted, and the others join the list in their order (R107). -/
def pairsGathered (p : Part) (l l' : ActuatorLoad) (all : List Byte) (k : Nat) : Prop :=
  let pairs := (List.range k).map fun j => (⟨(field16 all (6 * j)).toNat, (field16 all (6 * j + 2)).toNat,
    (field16 all (6 * j + 4)).toNat⟩ : ActuatorPair)
  let count := p.geo.a0 + p.geo.a1
  let good (x : ActuatorPair) := decide (x.p ≠ x.r ∧ x.p < count ∧ x.r < count ∧ 0 < x.d)
  l' = { l with
    got := l.got + k
    pairs := l.pairs ++ pairs.filter good
    dropped := l.dropped + (k - (pairs.filter good).length) }

/-- Bytes of a table or a shape short of its last one change no table, live or shadow: they count as handed over, whole entries go
to the load buffer, each judged as it is placed, and the bytes of an entry not yet whole wait (R47, R106, R107, R122, R169). -/
def entriesGather : Prop :=
  ∀ (s : State) (bytes : List Byte) (r : Running) (size : Nat), s.part.xu.lane = some r → r.confirming = false → bytes ≠ [] →
    r.moved + bytes.length < r.total → entryBytes r.bulk.op = some size →
    let p := s.part
    let all := r.carry ++ bytes
    ∃ t, exec (.hostReadCompletion bytes) s = .next t ∧ t.pending = s.pending ∧
      t.part.xu = { p.xu with lane := some { r with
        moved := r.moved + bytes.length
        carry := all.drop (size * (all.length / size)) } } ∧
      t.part.scn = { p.scn with load := t.part.scn.load } ∧
      t.part.lpc = { p.lpc with load := t.part.lpc.load, shape := t.part.lpc.shape } ∧
      (∀ n l, r.bulk.op = .loadReference n → p.scn.load = some l → l.kind = .reference →
        ∃ l', t.part.scn.load = some l' ∧ referencesGathered l l' all (all.length / 2)) ∧
      (∀ n l, r.bulk.op = .loadSensors n → p.scn.load = some l → l.kind = .sensors →
        ∃ l', t.part.scn.load = some l' ∧ parametersGathered l l' all (all.length / 8)) ∧
      (∀ n l, r.bulk.op = .loadLimits n → p.lpc.load = some l → l.kind = .limits →
        ∃ l', t.part.lpc.load = some l' ∧ limitsGathered l l' all (all.length / 8)) ∧
      (∀ n l, r.bulk.op = .loadPairs n → p.lpc.load = some l → l.kind = .pairs →
        ∃ l', t.part.lpc.load = some l' ∧ pairsGathered p l l' all (all.length / 6)) ∧
      (∀ n, r.bulk.op = .applyShape n →
        t.part.lpc.shape = p.lpc.shape ++ (List.range (all.length / 2)).map fun j => field16 all (2 * j)) ∧
      t.part.sameBut p [.xu, .scn, .lpc]

/-- The part t is p after a load has completed with a result, its blocks apart: the lane is empty, and the order has finished
(R163, R168). -/
def loadCompleted (p t : Part) (r : Running) (res : OrderResult) : Prop :=
  t.xu = { p.xu with lane := none } ∧ orderFinished p t (headOf r.bulk.order) res

/-- The note and the count of a completed load: the entries adjusted, or the pairs dropped (R48, R106, R107). -/
def countedResult (count : Nat) : OrderResult :=
  { OrderResult.done with adjusted := decide (0 < count), d1 := BitVec.ofNat 32 count }

/-- A slope-side load whose last bytes arrive, in one piece or after others: the last entries are gathered, and then it completes.
REFERENCE: the shadow becomes the live vector with its first entries replaced. SENSORS: a bad load fails with the index of its first
bad entry, and otherwise the shadow becomes the live parameters with the first entries replaced, the order reporting the entries
adjusted. The shadow then waits, or commits at once in a stopped loop (R44, R47, R48). -/
def slopeLoadsComplete : Prop :=
  ∀ (s : State) (bytes : List Byte) (r : Running) (n : Nat) (l : SlopeLoad), s.part.xu.lane = some r → r.confirming = false →
    bytes ≠ [] → r.moved + bytes.length = r.total → s.part.scn.load = some l →
    let p := s.part
    let all := r.carry ++ bytes
    (r.bulk.op = .loadReference n → l.kind = .reference → l.bad = none → l.adjusted = 0 →
      ∃ (t : State) (v : Sparse (BitVec 16)) (l' : SlopeLoad), exec (.hostReadCompletion bytes) s = .next t ∧
        t.pending = s.pending ∧ referencesGathered l l' all (all.length / 2) ∧
        (∀ j, Sparse.get 0 v j = l'.refs.getD j (Sparse.get 0 p.scn.refLive j)) ∧
        t.part.scn = (if p.lpc.loop = .stopped then
            { p.scn with load := none, refShadow := v, refLive := v, refWaiting := false }
          else { p.scn with load := none, refShadow := v, refWaiting := true }) ∧
        loadCompleted p t.part r .done ∧ t.part.sameBut p [.xu, .scn, .tlu, .issued]) ∧
    (r.bulk.op = .loadSensors n → l.kind = .sensors →
      ∃ (t : State) (l' : SlopeLoad), exec (.hostReadCompletion bytes) s = .next t ∧ t.pending = s.pending ∧
        parametersGathered l l' all (all.length / 8) ∧
        (∀ j, l'.bad = some j → t.part.scn = { p.scn with load := none } ∧
          loadCompleted p t.part r (.failedWith .badParameter (BitVec.ofNat 32 j))) ∧
        (l'.bad = none → ∃ v : Four SensorParam,
          (∀ i : LinkIx, v.get i = l'.params.getD i.val (p.scn.parLive.get i)) ∧
          t.part.scn = (if p.lpc.loop = .stopped then
              { p.scn with load := none, parShadow := v, parLive := v, parWaiting := false }
            else { p.scn with load := none, parShadow := v, parWaiting := true }) ∧
          loadCompleted p t.part r (countedResult l'.adjusted)) ∧
        t.part.sameBut p [.xu, .scn, .tlu, .issued])

/-- An actuator-side load whose last bytes arrive, in one piece or after others: the last entries are gathered, and then it
completes. LIMITS: a bad load fails with the index of its first bad entry, and otherwise the shadow becomes the live table with its
first entries replaced, the order reporting the entries adjusted. PAIRS: the pairs kept become the shadow, the order reporting those
dropped and those kept. The shadow then waits, or commits at once in a stopped loop, where new limits bring the integrator within
(R105 to R107). -/
def actuatorLoadsComplete : Prop :=
  ∀ (s : State) (bytes : List Byte) (r : Running) (n : Nat) (l : ActuatorLoad), s.part.xu.lane = some r → r.confirming = false →
    bytes ≠ [] → r.moved + bytes.length = r.total → s.part.lpc.load = some l →
    let p := s.part
    let all := r.carry ++ bytes
    (r.bulk.op = .loadLimits n → l.kind = .limits →
      ∃ (t : State) (l' : ActuatorLoad), exec (.hostReadCompletion bytes) s = .next t ∧ t.pending = s.pending ∧
        limitsGathered l l' all (all.length / 8) ∧
        (∀ a, l'.bad = some a → t.part.lpc = { p.lpc with load := none } ∧
          loadCompleted p t.part r (.failedWith .badParameter (BitVec.ofNat 32 a))) ∧
        (l'.bad = none → ∃ v : Sparse Limits,
          (∀ a, Sparse.get Limits.powerOn v a = l'.limits.getD a (p.lpc.limit a)) ∧
          t.part.lpc = (if p.lpc.loop = .stopped then
              { p.lpc with load := none, limShadow := v, limLive := v, limWaiting := false, u := t.part.lpc.u }
            else { p.lpc with load := none, limShadow := v, limWaiting := true }) ∧
          (p.lpc.loop = .stopped → ∀ a, t.part.lpc.value a =
            if (t.part.lpc.limit a).active then
              max (256 * (t.part.lpc.limit a).lo.toNat) (min (256 * (t.part.lpc.limit a).hi.toNat) (p.lpc.value a))
            else 256 * (t.part.lpc.limit a).flat.toNat) ∧
          loadCompleted p t.part r (countedResult l'.adjusted)) ∧
        t.part.sameBut p [.xu, .lpc, .tlu, .issued]) ∧
    (r.bulk.op = .loadPairs n → l.kind = .pairs → l.bad = none →
      ∃ (t : State) (l' : ActuatorLoad), exec (.hostReadCompletion bytes) s = .next t ∧ t.pending = s.pending ∧
        pairsGathered p l l' all (all.length / 6) ∧
        t.part.lpc = (if p.lpc.loop = .stopped then
            { p.lpc with load := none, pairShadow := l'.pairs, pairLive := l'.pairs, pairWaiting := false }
          else { p.lpc with load := none, pairShadow := l'.pairs, pairWaiting := true }) ∧
        loadCompleted p t.part r { countedResult l'.dropped with d2 := BitVec.ofNat 32 l'.pairs.length } ∧
        t.part.sameBut p [.xu, .lpc, .tlu, .issued])

/-- An APPLY_SHAPE whose last bytes arrive, in one piece or after others, is refused outside OPEN and for another count than the
geometry's A. Otherwise its codes, and flat for an inactive actuator, are shaped, the shaped vector replaces the integrator's
first values, the codes go to the links that take them, and the order finishes DONE with the counts of clamps and neighbours
(R119, R123). -/
def shapeCompletes : Prop :=
  ∀ (s : State) (bytes : List Byte) (r : Running) (count : Nat), s.part.xu.lane = some r → r.confirming = false → bytes ≠ [] →
    r.moved + bytes.length = r.total → r.bulk.op = .applyShape count →
    let p := s.part
    let all := r.carry ++ bytes
    let codes := p.lpc.shape ++ (List.range (all.length / 2)).map fun j => field16 all (2 * j)
    let n := codes.length
    let l (a : Nat) := p.lpc.limit a
    let shaped := shapeVector p.lpc.limLive p.lpc.pairLive ((List.range n).map fun a =>
      if (l a).active then 256 * (codes.getD a 0).toNat else 256 * (l a).flat.toNat)
    let refused (t : Part) (why : Reason) := loadCompleted p t r (.failed why) ∧ t.sameBut p [.xu, .lpc, .tlu, .issued] ∧
      t.lpc = { p.lpc with shape := [] }
    ∃ t, exec (.hostReadCompletion bytes) s = .next t ∧ t.pending = s.pending ∧
      (p.lpc.loop ≠ .opened → refused t.part .wrongState) ∧
      (p.lpc.loop = .opened → n ≠ p.geo.a0 + p.geo.a1 → refused t.part .geometryMismatch) ∧
      (p.lpc.loop = .opened → n = p.geo.a0 + p.geo.a1 →
        (∀ a, t.part.lpc.value a = if a < n then shaped.vector.getD a 0 else p.lpc.value a) ∧
        t.part.lpc = { p.lpc with u := t.part.lpc.u, shape := [] } ∧ t.part.xu = { p.xu with lane := none } ∧
        ∃ q : Part, shapeHandedOver { p with lpc := t.part.lpc } q shaped.codes ∧
          orderFinished q t.part (headOf r.bulk.order) { OrderResult.done with
            d1 := BitVec.ofNat 32 shaped.clamps
            d2 := BitVec.ofNat 32 shaped.neighbours } ∧
          t.part.sameBut q [.xu, .tlu, .issued])

/-- Bytes that a host read returns, for each kind of load (R44, R47, R48, R79, R105 to R107, R119, R123, R169); that a matrix load
takes a piece whole or not at all is the model's choice (log entry 15), and so is that granted blocks no longer fill its
buffer (log entry 40). -/
def Obligations.HostBytesArrive : Prop :=
  matrixBytesArrive ∧ entriesGather ∧ slopeLoadsComplete ∧ actuatorLoadsComplete ∧ shapeCompletes

/-- Image bytes leave for the host. A readback burst that completes issues its store bytes at the next place of the buffer, and
the host write requests of a table readback and of a snapshot copy issue the next bytes of the image, the table's as it stood at
the start; the last write is followed by the confirming read of the buffer's last 64 bytes (R87, R88, R169, R190). One host write
for each burst, and for each request that HOST_WRITE_REQUEST names, is the model's choice (log entries 15 and 23). -/
def imageBytesLeave : Prop :=
  ∀ (s : State) (r : Running), s.part.xu.lane = some r → s.part.xu.memRequests = true →
    let p := s.part
    let sent (t : Part) (bytes : List Byte) :=
      t.issued = p.issued ++ [.hostWrite (r.bulk.host + BitVec.ofNat 64 r.moved) bytes] ++
        (if r.moved + bytes.length = r.total then
          [.hostRead (r.bulk.host + BitVec.ofNat 64 (r.bulk.length - 64)) 64] else []) ∧
      t.xu = { p.xu with lane := some { r with
        moved := r.moved + bytes.length
        confirming := decide (r.confirming = true ∨ r.moved + bytes.length = r.total) } }
    (∀ offset count more, p.mxs.bursts = .reader offset count false :: more →
      ∃ (t : State) (bytes : List Byte), exec .readerBurstComplete s = .next t ∧ t.pending = s.pending ∧
        bytes.length = count ∧ (∀ k < count, bytes.getD k 0 = p.storeByte (offset + k)) ∧ sent t.part bytes ∧
        t.part.mxs = { p.mxs with bursts := more } ∧ t.part.sameBut p [.mxs, .xu, .issued]) ∧
    (∀ offset count more, p.mxs.bursts = .reader offset count true :: more →
      ∃ t, exec .readerBurstComplete s = .next t ∧ t.pending = s.pending ∧
        t.part.mxs = { p.mxs with bursts := more } ∧ t.part.sameBut p [.mxs]) ∧
    (∀ length table shadow, r.bulk.op = .readTable table shadow → r.confirming = false → 0 < length →
      r.moved + length ≤ r.total → r.total = p.mxs.tableImage.length →
      ∃ (t : State) (bytes : List Byte), exec (.hostWriteRequest length) s = .next t ∧ t.pending = s.pending ∧
        bytes.length = length ∧ (∀ k < length, bytes.getD k 0 = p.mxs.tableImage.getD (r.moved + k) 0) ∧ sent t.part bytes ∧
        t.part.sameBut p [.xu, .issued]) ∧
    (∀ length, r.bulk.op = .copySnapshot → r.confirming = false → 0 < length → r.moved + length ≤ r.total →
      ∃ (t : State) (bytes : List Byte), exec (.hostWriteRequest length) s = .next t ∧ t.pending = s.pending ∧
        bytes.length = length ∧ (∀ k < length, bytes.getD k 0 = p.sns.imageByte (r.moved + k)) ∧ sent t.part bytes ∧
        t.part.sameBut p [.xu, .issued])

/-- The confirming read's completion ends the transfer to the host, whose order finishes DONE with no bytes remaining: a bank
readback with the image size; a table readback with the image size, or, of PAIRS, the number of pairs; a snapshot copy with the
frame number in the store, which is then empty with its overwritten count at 0, or, renewed meanwhile, stays filled, with the
RENEWED note (R87, R88, R169, R192). -/
def confirmingReadEnds : Prop :=
  ∀ (s : State) (r : Running), s.part.xu.lane = some r → r.confirming = true → r.moved = r.total →
    let p := s.part
    (∀ k first columns, r.bulk.op = .readBank k first columns →
      ∃ t, exec .confirmingReadCompletion s = .next t ∧ t.pending = s.pending ∧
        t.part.mxs = { p.mxs with readback := none } ∧ t.part.xu = { p.xu with lane := none } ∧
        orderFinished p t.part (headOf r.bulk.order) { OrderResult.done with d1 := BitVec.ofNat 32 r.total } ∧
        t.part.sameBut p [.mxs, .xu, .tlu, .issued]) ∧
    (∀ table shadow, r.bulk.op = .readTable table shadow →
      ∃ t, exec .confirmingReadCompletion s = .next t ∧ t.pending = s.pending ∧
        t.part.mxs = { p.mxs with tableImage := [] } ∧ t.part.xu = { p.xu with lane := none } ∧
        orderFinished p t.part (headOf r.bulk.order)
          { OrderResult.done with d1 := BitVec.ofNat 32 (if table = .pairs then r.total / 6 else r.total) } ∧
        t.part.sameBut p [.mxs, .xu, .tlu, .issued]) ∧
    (r.bulk.op = .copySnapshot → ∃ t, exec .confirmingReadCompletion s = .next t ∧ t.pending = s.pending ∧
      t.part.sns = { p.sns with
        copying := false
        renewed := false
        filled := p.sns.renewed
        overwritten := if p.sns.renewed then p.sns.overwritten else 0 } ∧
      t.part.xu = { p.xu with lane := none } ∧
      orderFinished p t.part (headOf r.bulk.order)
        { OrderResult.done with renewed := p.sns.renewed, d1 := BitVec.ofNat 32 p.sns.frame.toNat } ∧
      t.part.sameBut p [.sns, .xu, .tlu, .issued])

/-- Bytes leave for the host, and the confirming read ends the transfer (R87, R88, R169, R190, R192); the sizes of the writes are
the model's choice (log entries 15 and 23). -/
def Obligations.BytesToTheHost : Prop := imageBytesLeave ∧ confirmingReadEnds

/-- The running transfer ends with a reason: its work is dropped, and its order finishes FAILED with the bytes not handed over or
not yet issued as bytes remaining (R169 to R171). -/
def runningEnded (p t : Part) (r : Running) (why : Reason) : Prop :=
  ∃ v : Part, workDropped r.bulk.op p v ∧
    orderFinished v t (headOf r.bulk.order)
      { OrderResult.done with reason := some why, d4 := BitVec.ofNat 32 (r.total - r.moved) } ∧
    t.sameBut v [.tlu, .issued]

/-- The transfer has a read of host memory on its way: its confirming read, or the source of a load whose bytes have not all come.
-/
def hasRead (r : Running) : Prop :=
  r.confirming = true ∨ (r.moved < r.total ∧ ((∃ k n m e check, r.bulk.op = .loadMatrix k n m e check) ∨
    ∃ size, entryBytes r.bulk.op = some size))

/-- A transfer of any kind ends early. At a host access failure on a read that it has on its way, its order finishes FAILED
HOST_ACCESS, the failure counts, and HOST_ACCESS is raised; with no such read nothing happens. ABORT_TRANSFER with an empty lane,
or with another ticket under the match flag, finds no transfer; otherwise the running order finishes FAILED ABORTED, the next
heads of the queue start as far as the lane is free, and the order finishes DONE with the aborted order's ticket (R49, R81, R87,
R88, R109, R123, R168, R170, R171, R193). Where the next heads start at once, and where they wait for TRANSFER_START, is the
model's reading (log entry 24), and so is that their starts come before ABORT_TRANSFER's own result (log entry 37). -/
def Obligations.TransferEndsEarly : Prop :=
  (∀ (s : State) (h : OrderHead) (flag ticket : Byte),
    let p := s.part
    (s.part.readyFor h → 2 ≤ flag.toNat → ∃ t, exec (.abortTransfer h flag ticket) s = .next t ∧ t.pending = s.pending ∧
      p.Answered h (.failed .badParameter) p.xu p.tlu [] t.part) ∧
    (s.part.readyFor h → flag.toNat < 2 → (∀ r, p.xu.lane = some r → flag = 1 ∧ r.bulk.order.ticket ≠ ticket) →
      ∃ t, exec (.abortTransfer h flag ticket) s = .next t ∧ t.pending = s.pending ∧
        p.Answered h (.failed .noTransfer) p.xu p.tlu [] t.part) ∧
    ((∀ r, p.xu.lane = some r → ¬ hasRead r) → exec (.hostAccessFailure .transferRead) s = .next s) ∧
    (∀ r, p.xu.lane = some r →
      (hasRead r → ∃ (t : State) (q : Part), exec (.hostAccessFailure .transferRead) s = .next t ∧ t.pending = s.pending ∧
        runningEnded p q r .hostAccess ∧
        t.part.xu = { p.xu with lane := none, hostFailures := p.xu.hostFailures + 1 } ∧
        t.part.tlu = { q.tlu with events := withFlag q.tlu.events .hostAccess } ∧
        t.part.issued = q.issued ++ q.signal .hostAccess ∧ t.part.sameBut q [.xu, .tlu, .issued]) ∧
      (s.part.readyFor h → flag = 0 ∨ (flag = 1 ∧ ticket = r.bulk.order.ticket) →
        ∃ (t : State) (q w : Part), exec (.abortTransfer h flag ticket) s = .next t ∧ t.pending = s.pending ∧
          runningEnded (orderTaken p h) q r .aborted ∧
          w = Part.startQueue { q with xu := { q.xu with lane := none } } ∧
          orderFinished w t.part h { OrderResult.done with d1 := r.bulk.order.ticket.setWidth 32 } ∧
          t.part.sameBut w [.tlu, .issued]))) ∧
  ∀ p : Part, (p.xu.lane.isSome = true ∨ p.xu.queue = [] → p.startQueue = p) ∧
    (p.xu.lane = none → p.xu.queue ≠ [] →
      ∃ q, exec .transferStart ⟨p, []⟩ = .next ⟨q, []⟩ ∧ p.startQueue = q.startQueue)

/-! ## The pacer and the lines (chapter 10) -/

/-- SET_PACER refuses a run flag above 1. Otherwise its values are the period, at least 50, the fraction, and the pulse width from
1 to the period less 1. Run flag 1 starts a stopped pacer: the values live, the accumulator the fraction, and the first period
begun; for a running one they become the pending values. Run flag 0 makes them live, and stops a running pacer at once. A period
start takes pending values with an accumulator of 0, adds the fraction, lasts one microsecond longer on a carry, and asserts
TRIGGER; the pulse ends one pulse width after it. No period starts in a stopped pacer (R197 to R199). By the model's choice no
period starts while the pulse lasts either, and PULSE_END with no pulse does nothing (log entry 2); that time has reached a start
or an end is its reading (log entry 10). -/
def Obligations.PacerPeriods : Prop :=
  ∀ (s : State) (h : OrderHead) (q : PacerOrderParams),
    let p := s.part
    let x := p.tlu.pacer
    let period := max 50 q.period.toNat
    let width := max 1 (min (period - 1) q.width.toNat)
    let v : PacerValues := ⟨period, q.fraction.toNat, width⟩
    let answers (pacer : Pacer) := ∃ t, exec (.setPacer h q) s = .next t ∧ t.pending = s.pending ∧
      p.Answered h (.adjustedDone (decide (q.period.toNat ≠ period ∨ q.width.toNat ≠ width))) p.xu
        { p.tlu with pacer := pacer } [] t.part
    (p.readyFor h → 2 ≤ q.run.toNat → ∃ t, exec (.setPacer h q) s = .next t ∧ t.pending = s.pending ∧
      p.Answered h (.failed .badParameter) p.xu p.tlu [] t.part) ∧
    (p.readyFor h → q.run = 1 → x.running = false → answers { x with
      running := true
      live := v
      next := none
      acc := q.fraction.toNat
      start := p.tlu.timebase
      length := period
      trigger := true }) ∧
    (p.readyFor h → q.run = 1 → x.running = true → answers { x with next := some v }) ∧
    (p.readyFor h → q.run = 0 → x.running = false → answers { x with live := v }) ∧
    (p.readyFor h → q.run = 0 → x.running = true →
      answers { x with running := false, live := v, next := none, acc := 0, trigger := false }) ∧
    (x.running = false ∨ x.trigger = true → exec .periodStart s = .next s) ∧
    (x.trigger = false → exec .pulseEnd s = .next s) ∧
    (x.running = true → x.trigger = false →
      let w := x.next.getD x.live
      let acc := if x.next.isSome then 0 else x.acc
      let start := x.start + BitVec.ofNat 64 x.length
      ∃ t, exec .periodStart s = .next t ∧ t.pending = s.pending ∧ reached t.part.tlu.timebase start = true ∧
        t.part.tlu = { p.tlu with
          timebase := t.part.tlu.timebase
          pacer := { x with
            live := w
            next := none
            acc := (acc + w.fraction) % 65536
            start := start
            length := if 65536 ≤ acc + w.fraction then w.period + 1 else w.period
            trigger := true } } ∧ t.part.sameBut p [.tlu]) ∧
    (x.trigger = true → ∃ t, exec .pulseEnd s = .next t ∧ t.pending = s.pending ∧
      reached t.part.tlu.timebase (x.start + BitVec.ofNat 64 x.live.width) = true ∧
      t.part.tlu = { p.tlu with timebase := t.part.tlu.timebase, pacer := { x with trigger := false } } ∧
      t.part.sameBut p [.tlu])

/-- What one sample does to a line: one that equals the accepted level ends the run; one that differs lengthens it, and when the
run exceeds the debounce count an accepted change is due and the run is 0 (R200; that the change is then taken by a command of its
own is the model's, log entry 3). -/
def lineSampled (x y : Line) (level : Bool) : Prop :=
  (level = x.level → y = { x with run := 0 }) ∧
  (level ≠ x.level → x.run + 1 ≤ x.count → y = { x with run := x.run + 1 }) ∧
  (level ≠ x.level → x.count < x.run + 1 → y = { x with run := 0, due := true })

/-- The three lines are sampled together, at the sample due, a multiple of 10, or where the timebase is past it at the first
multiple of 10 to come; the sample after the last multiple of 10 before the wrap is at 0. SET_LINES refuses a mark above 1, and
otherwise replaces the debounce counts, each at most 255, and the block set, reports the two SNAP counts and the accepted levels
as they stood, and zeroes the counts (R195, R200, R201). The accepted change itself is a command of its own by the model's choice,
and no sample is taken while one is due (log entry 3). -/
def Obligations.LinesSampledAndSet : Prop :=
  ∀ (s : State) (h : OrderHead) (q : LinesOrderParams) (interlock snap mark : Bool),
    let p := s.part
    let l := p.tlu
    (l.interlock.due = false → l.snap.due = false → l.mark.due = false →
      ∃ t, exec (.lineSample interlock snap mark) s = .next t ∧ t.pending = s.pending ∧
        t.part.tlu.timebase.toNat = (if reached l.timebase l.nextSample = false then l.nextSample.toNat
          else if 10 * ((l.timebase.toNat + 9) / 10) < 2 ^ 64 then 10 * ((l.timebase.toNat + 9) / 10) else 0) ∧
        (l.nextSample.toNat % 10 = 0 → t.part.tlu.timebase.toNat % 10 = 0) ∧
        t.part.tlu.nextSample.toNat =
          (if t.part.tlu.timebase.toNat + 10 < 2 ^ 64 then t.part.tlu.timebase.toNat + 10 else 0) ∧
        lineSampled l.interlock t.part.tlu.interlock interlock ∧ lineSampled l.snap t.part.tlu.snap snap ∧
        lineSampled l.mark t.part.tlu.mark mark ∧
        t.part.tlu = { l with
          timebase := t.part.tlu.timebase
          nextSample := t.part.tlu.nextSample
          interlock := t.part.tlu.interlock
          snap := t.part.tlu.snap
          mark := t.part.tlu.mark } ∧ t.part.sameBut p [.tlu]) ∧
    (l.interlock.due = true ∨ l.snap.due = true ∨ l.mark.due = true →
      exec (.lineSample interlock snap mark) s = .next s) ∧
    (p.readyFor h →
      let bad := 2 ≤ q.blockInterlock.toNat ∨ 2 ≤ q.blockMark.toNat ∨ 2 ≤ q.blockLoop.toNat
      let a := min 255 q.interlockCount.toNat
      let b := min 255 q.snapCount.toNat
      let c := min 255 q.markCount.toNat
      (bad → ∃ t, exec (.setLines h q) s = .next t ∧ t.pending = s.pending ∧
        p.Answered h (.failed .badParameter) p.xu p.tlu [] t.part) ∧
      (¬ bad → ∃ t, exec (.setLines h q) s = .next t ∧ t.pending = s.pending ∧
        p.Answered h { OrderResult.done with
            adjusted := decide (q.interlockCount.toNat ≠ a ∨ q.snapCount.toNat ≠ b ∨ q.markCount.toNat ≠ c)
            d1 := l.blockedSnaps
            d2 := l.qualifiedSnaps
            d3 := BitVec.ofNat 32 ((if l.interlock.level then 1 else 0) + (if l.snap.level then 2 else 0) +
              (if l.mark.level then 4 else 0)) } p.xu
          { l with
            interlock := { l.interlock with count := a }
            snap := { l.snap with count := b }
            mark := { l.mark with count := c }
            blockInterlock := decide (q.blockInterlock = 1)
            blockMark := decide (q.blockMark = 1)
            blockLoop := decide (q.blockLoop = 1)
            blockedSnaps := 0
            qualifiedSnaps := 0 } [] t.part))

/-- An accepted change of a line. INTERLOCK raises its event in either direction, and a rising edge is a hold cause, as every hold
cause reports itself. A rising SNAP edge is blocked, and counted so, while a mark of the block set meets an asserted INTERLOCK, an
asserted MARK or a loop that is not CLOSED; otherwise it is qualified, counted, and requests a capture. A rising MARK edge counts
to at most 65,535. A falling SNAP or MARK edge does nothing but change the level (R202 to R204). Each change is taken by a command
of its own after the sample that made it due, by the model's choice (log entry 3). -/
def Obligations.LineEdges : Prop :=
  ∀ s : State,
    let p := s.part
    let l := p.tlu
    let blocked := (l.blockInterlock = true ∧ l.interlock.level = true) ∨ (l.blockMark = true ∧ l.mark.level = true) ∨
      (l.blockLoop = true ∧ p.lpc.loop ≠ .closed)
    (l.interlock.due = true → ∃ t, exec .interlockEdge s = .next t ∧ t.pending = s.pending ∧
      let m : Part := { p with
        tlu := { l with
          interlock := { l.interlock with level := !l.interlock.level, due := false }
          events := withFlag l.events .interlock }
        issued := p.issued ++ p.signal .interlock }
      (l.interlock.level = true → t.part.tlu = m.tlu ∧ t.part.lpc = p.lpc ∧ t.part.issued = m.issued) ∧
      (l.interlock.level = false → holdReported m t.part .interlock) ∧ t.part.sameBut p [.tlu, .lpc, .issued]) ∧
    (l.snap.due = true → ∃ t, exec .snapEdge s = .next t ∧ t.pending = s.pending ∧
      t.part.tlu = { l with
        snap := { l.snap with level := !l.snap.level, due := false }
        blockedSnaps := if l.snap.level = false ∧ blocked then l.blockedSnaps + 1 else l.blockedSnaps
        qualifiedSnaps := if l.snap.level = false ∧ ¬ blocked then l.qualifiedSnaps + 1 else l.qualifiedSnaps } ∧
      t.part.sns = (if l.snap.level = false ∧ ¬ blocked then { p.sns with capturePending := true } else p.sns) ∧
      t.part.sameBut p [.tlu, .sns]) ∧
    (l.mark.due = true → ∃ t, exec .markEdge s = .next t ∧ t.pending = s.pending ∧
      t.part.tlu = { l with
        mark := { l.mark with level := !l.mark.level, due := false }
        markEdges := if l.mark.level then l.markEdges else min 65535 (l.markEdges + 1) } ∧ t.part.sameBut p [.tlu])

/-! ## The laws that every step keeps -/

/-- A law holds after every step from a state in which it holds. -/
def kept (law : Part → Prop) : Prop := ∀ s t : State, law s.part → step s = .next t → law t.part

/-- Every law holds right after reset, and the rotation order names each requester once. -/
def Obligations.LawsHoldAtReset : Prop :=
  let p := State.reset.part
  p.closedLaw ∧ p.bankLaw ∧ p.ringLaw ∧ p.SlotLaw ∧ p.Capacities ∧ p.balanceLaw ∧ p.lpc.IntegratorLaw ∧ p.storeLaw

/-- The loop is never CLOSED while the debounced INTERLOCK is asserted or an enabled mirror link is in FAULT (R99): every step keeps
it. -/
def Obligations.ClosedLoopLawKept : Prop := kept Part.closedLaw

/-- At most one bank is ACTIVE, and the rotation order names each requester once (R76, R82, R90): every step keeps it. -/
def bankLawKept : Prop := kept Part.bankLaw

/-- The written count minus the last-read consumed count never exceeds the ring capacity (R181): every step keeps it. -/
def Obligations.RingLawKept : Prop := kept Part.ringLaw

/-- No frame number is held by two slots in use at once, with what keeps it so (R26): every step keeps it. -/
def Obligations.SlotLawKept : Prop := kept Part.SlotLaw

/-- The link FIFOs hold at most 16 segments, the work queue 64 entries, the stream list 8, the record queue 4 and the transfer
queue 4 (R11, R24, R62, R160, R180): every step keeps it. -/
def Obligations.CapacitiesKept : Prop := kept Part.Capacities

/-- On each mirror link at most two command frames are outstanding, none in IDLE or OFF, and every frame sent is retired, lost,
cleared or outstanding (R129, R147): every step keeps it. -/
def Obligations.MirrorBalanceKept : Prop := kept Part.balanceLaw

/-- Every integrator value lies within the live limits, with what keeps it so (R102): every step keeps it. -/
def Obligations.IntegratorLawKept : Prop := kept fun p => p.lpc.IntegratorLaw

/-- The matrix store's bytes stand in their canonical form: every step keeps it. -/
def storeFormKept : Prop := kept Part.storeLaw

/-- The bank record, the rotation order and the store's form are kept by every step (R75, R76, R82, R90). -/
def Obligations.MatrixStoreLawsKept : Prop := bankLawKept ∧ storeFormKept

/-- A packet closed as the part closes it passes the CRC check, whatever its body (R210). -/
def closedPacketPasses : Prop := ∀ body : List Byte, crcMatches (withCrc body) = true

/-- The packets that leave a mirror link, and that a packet closed as the part closes it passes the CRC check (R127, R136, R145,
R210). -/
def Obligations.PacketsLeaveTheLink : Prop := packetsLeave ∧ closedPacketPasses

end
end

