-- ==== Sys2Proof/Laws/State.lean ====
section
/-! SUPPORT. What replacing one block does to each block, one lemma per block; the values of a container after one is set. -/

namespace Sys2Proof.Machine

@[simp] theorem Part.modGeo_geo (h : Geometry → Geometry) (p : Part) : (p.modGeo h).geo = h p.geo := rfl
@[simp] theorem Part.modGeo_links (h : Geometry → Geometry) (p : Part) : (p.modGeo h).links = p.links := rfl
@[simp] theorem Part.modGeo_fra (h : Geometry → Geometry) (p : Part) : (p.modGeo h).fra = p.fra := rfl
@[simp] theorem Part.modGeo_scn (h : Geometry → Geometry) (p : Part) : (p.modGeo h).scn = p.scn := rfl
@[simp] theorem Part.modGeo_rca (h : Geometry → Geometry) (p : Part) : (p.modGeo h).rca = p.rca := rfl
@[simp] theorem Part.modGeo_mxs (h : Geometry → Geometry) (p : Part) : (p.modGeo h).mxs = p.mxs := rfl
@[simp] theorem Part.modGeo_lpc (h : Geometry → Geometry) (p : Part) : (p.modGeo h).lpc = p.lpc := rfl
@[simp] theorem Part.modGeo_mlt (h : Geometry → Geometry) (p : Part) : (p.modGeo h).mlt = p.mlt := rfl
@[simp] theorem Part.modGeo_xu (h : Geometry → Geometry) (p : Part) : (p.modGeo h).xu = p.xu := rfl
@[simp] theorem Part.modGeo_tel (h : Geometry → Geometry) (p : Part) : (p.modGeo h).tel = p.tel := rfl
@[simp] theorem Part.modGeo_sns (h : Geometry → Geometry) (p : Part) : (p.modGeo h).sns = p.sns := rfl
@[simp] theorem Part.modGeo_tlu (h : Geometry → Geometry) (p : Part) : (p.modGeo h).tlu = p.tlu := rfl
@[simp] theorem Part.modGeo_issued (h : Geometry → Geometry) (p : Part) : (p.modGeo h).issued = p.issued := rfl
@[simp] theorem Part.modGeo_frees (h : Geometry → Geometry) (p : Part) : (p.modGeo h).frees = p.frees := rfl
@[simp] theorem Part.modLinks_geo (h : Four SensorLink → Four SensorLink) (p : Part) : (p.modLinks h).geo = p.geo := rfl
@[simp] theorem Part.modLinks_links (h : Four SensorLink → Four SensorLink) (p : Part) : (p.modLinks h).links = h p.links := rfl
@[simp] theorem Part.modLinks_fra (h : Four SensorLink → Four SensorLink) (p : Part) : (p.modLinks h).fra = p.fra := rfl
@[simp] theorem Part.modLinks_scn (h : Four SensorLink → Four SensorLink) (p : Part) : (p.modLinks h).scn = p.scn := rfl
@[simp] theorem Part.modLinks_rca (h : Four SensorLink → Four SensorLink) (p : Part) : (p.modLinks h).rca = p.rca := rfl
@[simp] theorem Part.modLinks_mxs (h : Four SensorLink → Four SensorLink) (p : Part) : (p.modLinks h).mxs = p.mxs := rfl
@[simp] theorem Part.modLinks_lpc (h : Four SensorLink → Four SensorLink) (p : Part) : (p.modLinks h).lpc = p.lpc := rfl
@[simp] theorem Part.modLinks_mlt (h : Four SensorLink → Four SensorLink) (p : Part) : (p.modLinks h).mlt = p.mlt := rfl
@[simp] theorem Part.modLinks_xu (h : Four SensorLink → Four SensorLink) (p : Part) : (p.modLinks h).xu = p.xu := rfl
@[simp] theorem Part.modLinks_tel (h : Four SensorLink → Four SensorLink) (p : Part) : (p.modLinks h).tel = p.tel := rfl
@[simp] theorem Part.modLinks_sns (h : Four SensorLink → Four SensorLink) (p : Part) : (p.modLinks h).sns = p.sns := rfl
@[simp] theorem Part.modLinks_tlu (h : Four SensorLink → Four SensorLink) (p : Part) : (p.modLinks h).tlu = p.tlu := rfl
@[simp] theorem Part.modLinks_issued (h : Four SensorLink → Four SensorLink) (p : Part) : (p.modLinks h).issued = p.issued := rfl
@[simp] theorem Part.modLinks_frees (h : Four SensorLink → Four SensorLink) (p : Part) : (p.modLinks h).frees = p.frees := rfl
@[simp] theorem Part.modFra_geo (h : Fra → Fra) (p : Part) : (p.modFra h).geo = p.geo := rfl
@[simp] theorem Part.modFra_links (h : Fra → Fra) (p : Part) : (p.modFra h).links = p.links := rfl
@[simp] theorem Part.modFra_fra (h : Fra → Fra) (p : Part) : (p.modFra h).fra = h p.fra := rfl
@[simp] theorem Part.modFra_scn (h : Fra → Fra) (p : Part) : (p.modFra h).scn = p.scn := rfl
@[simp] theorem Part.modFra_rca (h : Fra → Fra) (p : Part) : (p.modFra h).rca = p.rca := rfl
@[simp] theorem Part.modFra_mxs (h : Fra → Fra) (p : Part) : (p.modFra h).mxs = p.mxs := rfl
@[simp] theorem Part.modFra_lpc (h : Fra → Fra) (p : Part) : (p.modFra h).lpc = p.lpc := rfl
@[simp] theorem Part.modFra_mlt (h : Fra → Fra) (p : Part) : (p.modFra h).mlt = p.mlt := rfl
@[simp] theorem Part.modFra_xu (h : Fra → Fra) (p : Part) : (p.modFra h).xu = p.xu := rfl
@[simp] theorem Part.modFra_tel (h : Fra → Fra) (p : Part) : (p.modFra h).tel = p.tel := rfl
@[simp] theorem Part.modFra_sns (h : Fra → Fra) (p : Part) : (p.modFra h).sns = p.sns := rfl
@[simp] theorem Part.modFra_tlu (h : Fra → Fra) (p : Part) : (p.modFra h).tlu = p.tlu := rfl
@[simp] theorem Part.modFra_issued (h : Fra → Fra) (p : Part) : (p.modFra h).issued = p.issued := rfl
@[simp] theorem Part.modFra_frees (h : Fra → Fra) (p : Part) : (p.modFra h).frees = p.frees := rfl
@[simp] theorem Part.modScn_geo (h : Scn → Scn) (p : Part) : (p.modScn h).geo = p.geo := rfl
@[simp] theorem Part.modScn_links (h : Scn → Scn) (p : Part) : (p.modScn h).links = p.links := rfl
@[simp] theorem Part.modScn_fra (h : Scn → Scn) (p : Part) : (p.modScn h).fra = p.fra := rfl
@[simp] theorem Part.modScn_scn (h : Scn → Scn) (p : Part) : (p.modScn h).scn = h p.scn := rfl
@[simp] theorem Part.modScn_rca (h : Scn → Scn) (p : Part) : (p.modScn h).rca = p.rca := rfl
@[simp] theorem Part.modScn_mxs (h : Scn → Scn) (p : Part) : (p.modScn h).mxs = p.mxs := rfl
@[simp] theorem Part.modScn_lpc (h : Scn → Scn) (p : Part) : (p.modScn h).lpc = p.lpc := rfl
@[simp] theorem Part.modScn_mlt (h : Scn → Scn) (p : Part) : (p.modScn h).mlt = p.mlt := rfl
@[simp] theorem Part.modScn_xu (h : Scn → Scn) (p : Part) : (p.modScn h).xu = p.xu := rfl
@[simp] theorem Part.modScn_tel (h : Scn → Scn) (p : Part) : (p.modScn h).tel = p.tel := rfl
@[simp] theorem Part.modScn_sns (h : Scn → Scn) (p : Part) : (p.modScn h).sns = p.sns := rfl
@[simp] theorem Part.modScn_tlu (h : Scn → Scn) (p : Part) : (p.modScn h).tlu = p.tlu := rfl
@[simp] theorem Part.modScn_issued (h : Scn → Scn) (p : Part) : (p.modScn h).issued = p.issued := rfl
@[simp] theorem Part.modScn_frees (h : Scn → Scn) (p : Part) : (p.modScn h).frees = p.frees := rfl
@[simp] theorem Part.modRca_geo (h : Rca → Rca) (p : Part) : (p.modRca h).geo = p.geo := rfl
@[simp] theorem Part.modRca_links (h : Rca → Rca) (p : Part) : (p.modRca h).links = p.links := rfl
@[simp] theorem Part.modRca_fra (h : Rca → Rca) (p : Part) : (p.modRca h).fra = p.fra := rfl
@[simp] theorem Part.modRca_scn (h : Rca → Rca) (p : Part) : (p.modRca h).scn = p.scn := rfl
@[simp] theorem Part.modRca_rca (h : Rca → Rca) (p : Part) : (p.modRca h).rca = h p.rca := rfl
@[simp] theorem Part.modRca_mxs (h : Rca → Rca) (p : Part) : (p.modRca h).mxs = p.mxs := rfl
@[simp] theorem Part.modRca_lpc (h : Rca → Rca) (p : Part) : (p.modRca h).lpc = p.lpc := rfl
@[simp] theorem Part.modRca_mlt (h : Rca → Rca) (p : Part) : (p.modRca h).mlt = p.mlt := rfl
@[simp] theorem Part.modRca_xu (h : Rca → Rca) (p : Part) : (p.modRca h).xu = p.xu := rfl
@[simp] theorem Part.modRca_tel (h : Rca → Rca) (p : Part) : (p.modRca h).tel = p.tel := rfl
@[simp] theorem Part.modRca_sns (h : Rca → Rca) (p : Part) : (p.modRca h).sns = p.sns := rfl
@[simp] theorem Part.modRca_tlu (h : Rca → Rca) (p : Part) : (p.modRca h).tlu = p.tlu := rfl
@[simp] theorem Part.modRca_issued (h : Rca → Rca) (p : Part) : (p.modRca h).issued = p.issued := rfl
@[simp] theorem Part.modRca_frees (h : Rca → Rca) (p : Part) : (p.modRca h).frees = p.frees := rfl
@[simp] theorem Part.modMxs_geo (h : Mxs → Mxs) (p : Part) : (p.modMxs h).geo = p.geo := rfl
@[simp] theorem Part.modMxs_links (h : Mxs → Mxs) (p : Part) : (p.modMxs h).links = p.links := rfl
@[simp] theorem Part.modMxs_fra (h : Mxs → Mxs) (p : Part) : (p.modMxs h).fra = p.fra := rfl
@[simp] theorem Part.modMxs_scn (h : Mxs → Mxs) (p : Part) : (p.modMxs h).scn = p.scn := rfl
@[simp] theorem Part.modMxs_rca (h : Mxs → Mxs) (p : Part) : (p.modMxs h).rca = p.rca := rfl
@[simp] theorem Part.modMxs_mxs (h : Mxs → Mxs) (p : Part) : (p.modMxs h).mxs = h p.mxs := rfl
@[simp] theorem Part.modMxs_lpc (h : Mxs → Mxs) (p : Part) : (p.modMxs h).lpc = p.lpc := rfl
@[simp] theorem Part.modMxs_mlt (h : Mxs → Mxs) (p : Part) : (p.modMxs h).mlt = p.mlt := rfl
@[simp] theorem Part.modMxs_xu (h : Mxs → Mxs) (p : Part) : (p.modMxs h).xu = p.xu := rfl
@[simp] theorem Part.modMxs_tel (h : Mxs → Mxs) (p : Part) : (p.modMxs h).tel = p.tel := rfl
@[simp] theorem Part.modMxs_sns (h : Mxs → Mxs) (p : Part) : (p.modMxs h).sns = p.sns := rfl
@[simp] theorem Part.modMxs_tlu (h : Mxs → Mxs) (p : Part) : (p.modMxs h).tlu = p.tlu := rfl
@[simp] theorem Part.modMxs_issued (h : Mxs → Mxs) (p : Part) : (p.modMxs h).issued = p.issued := rfl
@[simp] theorem Part.modMxs_frees (h : Mxs → Mxs) (p : Part) : (p.modMxs h).frees = p.frees := rfl
@[simp] theorem Part.modLpc_geo (h : Lpc → Lpc) (p : Part) : (p.modLpc h).geo = p.geo := rfl
@[simp] theorem Part.modLpc_links (h : Lpc → Lpc) (p : Part) : (p.modLpc h).links = p.links := rfl
@[simp] theorem Part.modLpc_fra (h : Lpc → Lpc) (p : Part) : (p.modLpc h).fra = p.fra := rfl
@[simp] theorem Part.modLpc_scn (h : Lpc → Lpc) (p : Part) : (p.modLpc h).scn = p.scn := rfl
@[simp] theorem Part.modLpc_rca (h : Lpc → Lpc) (p : Part) : (p.modLpc h).rca = p.rca := rfl
@[simp] theorem Part.modLpc_mxs (h : Lpc → Lpc) (p : Part) : (p.modLpc h).mxs = p.mxs := rfl
@[simp] theorem Part.modLpc_lpc (h : Lpc → Lpc) (p : Part) : (p.modLpc h).lpc = h p.lpc := rfl
@[simp] theorem Part.modLpc_mlt (h : Lpc → Lpc) (p : Part) : (p.modLpc h).mlt = p.mlt := rfl
@[simp] theorem Part.modLpc_xu (h : Lpc → Lpc) (p : Part) : (p.modLpc h).xu = p.xu := rfl
@[simp] theorem Part.modLpc_tel (h : Lpc → Lpc) (p : Part) : (p.modLpc h).tel = p.tel := rfl
@[simp] theorem Part.modLpc_sns (h : Lpc → Lpc) (p : Part) : (p.modLpc h).sns = p.sns := rfl
@[simp] theorem Part.modLpc_tlu (h : Lpc → Lpc) (p : Part) : (p.modLpc h).tlu = p.tlu := rfl
@[simp] theorem Part.modLpc_issued (h : Lpc → Lpc) (p : Part) : (p.modLpc h).issued = p.issued := rfl
@[simp] theorem Part.modLpc_frees (h : Lpc → Lpc) (p : Part) : (p.modLpc h).frees = p.frees := rfl
@[simp] theorem Part.modMlt_geo (h : Two MirrorLink → Two MirrorLink) (p : Part) : (p.modMlt h).geo = p.geo := rfl
@[simp] theorem Part.modMlt_links (h : Two MirrorLink → Two MirrorLink) (p : Part) : (p.modMlt h).links = p.links := rfl
@[simp] theorem Part.modMlt_fra (h : Two MirrorLink → Two MirrorLink) (p : Part) : (p.modMlt h).fra = p.fra := rfl
@[simp] theorem Part.modMlt_scn (h : Two MirrorLink → Two MirrorLink) (p : Part) : (p.modMlt h).scn = p.scn := rfl
@[simp] theorem Part.modMlt_rca (h : Two MirrorLink → Two MirrorLink) (p : Part) : (p.modMlt h).rca = p.rca := rfl
@[simp] theorem Part.modMlt_mxs (h : Two MirrorLink → Two MirrorLink) (p : Part) : (p.modMlt h).mxs = p.mxs := rfl
@[simp] theorem Part.modMlt_lpc (h : Two MirrorLink → Two MirrorLink) (p : Part) : (p.modMlt h).lpc = p.lpc := rfl
@[simp] theorem Part.modMlt_mlt (h : Two MirrorLink → Two MirrorLink) (p : Part) : (p.modMlt h).mlt = h p.mlt := rfl
@[simp] theorem Part.modMlt_xu (h : Two MirrorLink → Two MirrorLink) (p : Part) : (p.modMlt h).xu = p.xu := rfl
@[simp] theorem Part.modMlt_tel (h : Two MirrorLink → Two MirrorLink) (p : Part) : (p.modMlt h).tel = p.tel := rfl
@[simp] theorem Part.modMlt_sns (h : Two MirrorLink → Two MirrorLink) (p : Part) : (p.modMlt h).sns = p.sns := rfl
@[simp] theorem Part.modMlt_tlu (h : Two MirrorLink → Two MirrorLink) (p : Part) : (p.modMlt h).tlu = p.tlu := rfl
@[simp] theorem Part.modMlt_issued (h : Two MirrorLink → Two MirrorLink) (p : Part) : (p.modMlt h).issued = p.issued := rfl
@[simp] theorem Part.modMlt_frees (h : Two MirrorLink → Two MirrorLink) (p : Part) : (p.modMlt h).frees = p.frees := rfl
@[simp] theorem Part.modXu_geo (h : Xu → Xu) (p : Part) : (p.modXu h).geo = p.geo := rfl
@[simp] theorem Part.modXu_links (h : Xu → Xu) (p : Part) : (p.modXu h).links = p.links := rfl
@[simp] theorem Part.modXu_fra (h : Xu → Xu) (p : Part) : (p.modXu h).fra = p.fra := rfl
@[simp] theorem Part.modXu_scn (h : Xu → Xu) (p : Part) : (p.modXu h).scn = p.scn := rfl
@[simp] theorem Part.modXu_rca (h : Xu → Xu) (p : Part) : (p.modXu h).rca = p.rca := rfl
@[simp] theorem Part.modXu_mxs (h : Xu → Xu) (p : Part) : (p.modXu h).mxs = p.mxs := rfl
@[simp] theorem Part.modXu_lpc (h : Xu → Xu) (p : Part) : (p.modXu h).lpc = p.lpc := rfl
@[simp] theorem Part.modXu_mlt (h : Xu → Xu) (p : Part) : (p.modXu h).mlt = p.mlt := rfl
@[simp] theorem Part.modXu_xu (h : Xu → Xu) (p : Part) : (p.modXu h).xu = h p.xu := rfl
@[simp] theorem Part.modXu_tel (h : Xu → Xu) (p : Part) : (p.modXu h).tel = p.tel := rfl
@[simp] theorem Part.modXu_sns (h : Xu → Xu) (p : Part) : (p.modXu h).sns = p.sns := rfl
@[simp] theorem Part.modXu_tlu (h : Xu → Xu) (p : Part) : (p.modXu h).tlu = p.tlu := rfl
@[simp] theorem Part.modXu_issued (h : Xu → Xu) (p : Part) : (p.modXu h).issued = p.issued := rfl
@[simp] theorem Part.modXu_frees (h : Xu → Xu) (p : Part) : (p.modXu h).frees = p.frees := rfl
@[simp] theorem Part.modTel_geo (h : Tel → Tel) (p : Part) : (p.modTel h).geo = p.geo := rfl
@[simp] theorem Part.modTel_links (h : Tel → Tel) (p : Part) : (p.modTel h).links = p.links := rfl
@[simp] theorem Part.modTel_fra (h : Tel → Tel) (p : Part) : (p.modTel h).fra = p.fra := rfl
@[simp] theorem Part.modTel_scn (h : Tel → Tel) (p : Part) : (p.modTel h).scn = p.scn := rfl
@[simp] theorem Part.modTel_rca (h : Tel → Tel) (p : Part) : (p.modTel h).rca = p.rca := rfl
@[simp] theorem Part.modTel_mxs (h : Tel → Tel) (p : Part) : (p.modTel h).mxs = p.mxs := rfl
@[simp] theorem Part.modTel_lpc (h : Tel → Tel) (p : Part) : (p.modTel h).lpc = p.lpc := rfl
@[simp] theorem Part.modTel_mlt (h : Tel → Tel) (p : Part) : (p.modTel h).mlt = p.mlt := rfl
@[simp] theorem Part.modTel_xu (h : Tel → Tel) (p : Part) : (p.modTel h).xu = p.xu := rfl
@[simp] theorem Part.modTel_tel (h : Tel → Tel) (p : Part) : (p.modTel h).tel = h p.tel := rfl
@[simp] theorem Part.modTel_sns (h : Tel → Tel) (p : Part) : (p.modTel h).sns = p.sns := rfl
@[simp] theorem Part.modTel_tlu (h : Tel → Tel) (p : Part) : (p.modTel h).tlu = p.tlu := rfl
@[simp] theorem Part.modTel_issued (h : Tel → Tel) (p : Part) : (p.modTel h).issued = p.issued := rfl
@[simp] theorem Part.modTel_frees (h : Tel → Tel) (p : Part) : (p.modTel h).frees = p.frees := rfl
@[simp] theorem Part.modSns_geo (h : Sns → Sns) (p : Part) : (p.modSns h).geo = p.geo := rfl
@[simp] theorem Part.modSns_links (h : Sns → Sns) (p : Part) : (p.modSns h).links = p.links := rfl
@[simp] theorem Part.modSns_fra (h : Sns → Sns) (p : Part) : (p.modSns h).fra = p.fra := rfl
@[simp] theorem Part.modSns_scn (h : Sns → Sns) (p : Part) : (p.modSns h).scn = p.scn := rfl
@[simp] theorem Part.modSns_rca (h : Sns → Sns) (p : Part) : (p.modSns h).rca = p.rca := rfl
@[simp] theorem Part.modSns_mxs (h : Sns → Sns) (p : Part) : (p.modSns h).mxs = p.mxs := rfl
@[simp] theorem Part.modSns_lpc (h : Sns → Sns) (p : Part) : (p.modSns h).lpc = p.lpc := rfl
@[simp] theorem Part.modSns_mlt (h : Sns → Sns) (p : Part) : (p.modSns h).mlt = p.mlt := rfl
@[simp] theorem Part.modSns_xu (h : Sns → Sns) (p : Part) : (p.modSns h).xu = p.xu := rfl
@[simp] theorem Part.modSns_tel (h : Sns → Sns) (p : Part) : (p.modSns h).tel = p.tel := rfl
@[simp] theorem Part.modSns_sns (h : Sns → Sns) (p : Part) : (p.modSns h).sns = h p.sns := rfl
@[simp] theorem Part.modSns_tlu (h : Sns → Sns) (p : Part) : (p.modSns h).tlu = p.tlu := rfl
@[simp] theorem Part.modSns_issued (h : Sns → Sns) (p : Part) : (p.modSns h).issued = p.issued := rfl
@[simp] theorem Part.modSns_frees (h : Sns → Sns) (p : Part) : (p.modSns h).frees = p.frees := rfl
@[simp] theorem Part.modTlu_geo (h : Tlu → Tlu) (p : Part) : (p.modTlu h).geo = p.geo := rfl
@[simp] theorem Part.modTlu_links (h : Tlu → Tlu) (p : Part) : (p.modTlu h).links = p.links := rfl
@[simp] theorem Part.modTlu_fra (h : Tlu → Tlu) (p : Part) : (p.modTlu h).fra = p.fra := rfl
@[simp] theorem Part.modTlu_scn (h : Tlu → Tlu) (p : Part) : (p.modTlu h).scn = p.scn := rfl
@[simp] theorem Part.modTlu_rca (h : Tlu → Tlu) (p : Part) : (p.modTlu h).rca = p.rca := rfl
@[simp] theorem Part.modTlu_mxs (h : Tlu → Tlu) (p : Part) : (p.modTlu h).mxs = p.mxs := rfl
@[simp] theorem Part.modTlu_lpc (h : Tlu → Tlu) (p : Part) : (p.modTlu h).lpc = p.lpc := rfl
@[simp] theorem Part.modTlu_mlt (h : Tlu → Tlu) (p : Part) : (p.modTlu h).mlt = p.mlt := rfl
@[simp] theorem Part.modTlu_xu (h : Tlu → Tlu) (p : Part) : (p.modTlu h).xu = p.xu := rfl
@[simp] theorem Part.modTlu_tel (h : Tlu → Tlu) (p : Part) : (p.modTlu h).tel = p.tel := rfl
@[simp] theorem Part.modTlu_sns (h : Tlu → Tlu) (p : Part) : (p.modTlu h).sns = p.sns := rfl
@[simp] theorem Part.modTlu_tlu (h : Tlu → Tlu) (p : Part) : (p.modTlu h).tlu = h p.tlu := rfl
@[simp] theorem Part.modTlu_issued (h : Tlu → Tlu) (p : Part) : (p.modTlu h).issued = p.issued := rfl
@[simp] theorem Part.modTlu_frees (h : Tlu → Tlu) (p : Part) : (p.modTlu h).frees = p.frees := rfl
/-! ## Containers -/

@[simp] theorem Two.get_set_self {α : Type} (v : Two α) (i : Fin 2) (x : α) : (v.set i x).get i = x := by
  match i with
  | 0 => rfl
  | 1 => rfl

theorem Two.get_set_other {α : Type} (v : Two α) (i j : Fin 2) (x : α) (h : j ≠ i) : (v.set i x).get j = v.get j := by
  match i, j with
  | 0, 0 => exact absurd rfl h
  | 0, 1 => rfl
  | 1, 0 => rfl
  | 1, 1 => exact absurd rfl h

@[simp] theorem Four.get_set_self {α : Type} (v : Four α) (i : Fin 4) (x : α) : (v.set i x).get i = x := by
  match i with
  | 0 => rfl
  | 1 => rfl
  | 2 => rfl
  | 3 => rfl

theorem Four.get_set_other {α : Type} (v : Four α) (i j : Fin 4) (x : α) (h : j ≠ i) :
    (v.set i x).get j = v.get j := by
  match i, j with
  | 0, 0 => exact absurd rfl h
  | 0, 1 => rfl
  | 0, 2 => rfl
  | 0, 3 => rfl
  | 1, 0 => rfl
  | 1, 1 => exact absurd rfl h
  | 1, 2 => rfl
  | 1, 3 => rfl
  | 2, 0 => rfl
  | 2, 1 => rfl
  | 2, 2 => exact absurd rfl h
  | 2, 3 => rfl
  | 3, 0 => rfl
  | 3, 1 => rfl
  | 3, 2 => rfl
  | 3, 3 => exact absurd rfl h

@[simp] theorem Two.get_map {α β : Type} (f : α → β) (v : Two α) (i : Fin 2) : (v.map f).get i = f (v.get i) := by
  match i with
  | 0 => rfl
  | 1 => rfl

@[simp] theorem Four.get_map {α β : Type} (f : α → β) (v : Four α) (i : Fin 4) : (v.map f).get i = f (v.get i) := by
  match i with
  | 0 => rfl
  | 1 => rfl
  | 2 => rfl
  | 3 => rfl

/-! ## One link, slot, record or bank -/

@[simp] theorem Part.modLink_get (i : LinkIx) (g : SensorLink → SensorLink) (p : Part) :
    (p.modLink i g).links.get i = g (p.links.get i) := by simp [Part.modLink]

theorem Part.modLink_get_other (i j : LinkIx) (g : SensorLink → SensorLink) (p : Part) (h : j ≠ i) :
    (p.modLink i g).links.get j = p.links.get j := by simp [Part.modLink, Four.get_set_other _ _ _ _ h]

@[simp] theorem Part.modMirror_get (m : MirrorIx) (g : MirrorLink → MirrorLink) (p : Part) :
    (p.modMirror m g).mlt.get m = g (p.mlt.get m) := by simp [Part.modMirror]

theorem Part.modMirror_get_other (m k : MirrorIx) (g : MirrorLink → MirrorLink) (p : Part) (h : k ≠ m) :
    (p.modMirror m g).mlt.get k = p.mlt.get k := by simp [Part.modMirror, Two.get_set_other _ _ _ _ h]

@[simp] theorem Part.modSlot_get (i : SlotIx) (g : AsmSlot → AsmSlot) (p : Part) :
    (p.modSlot i g).fra.slots.get i = g (p.fra.slots.get i) := by simp [Part.modSlot]

theorem Part.modSlot_get_other (i j : SlotIx) (g : AsmSlot → AsmSlot) (p : Part) (h : j ≠ i) :
    (p.modSlot i g).fra.slots.get j = p.fra.slots.get j := by simp [Part.modSlot, Two.get_set_other _ _ _ _ h]

@[simp] theorem Part.modBank_get (b : BankIx) (g : BankRecord → BankRecord) (p : Part) :
    (p.modBank b g).mxs.banks.get b = g (p.mxs.banks.get b) := by simp [Part.modBank]

theorem Part.modBank_get_other (b c : BankIx) (g : BankRecord → BankRecord) (p : Part) (h : c ≠ b) :
    (p.modBank b g).mxs.banks.get c = p.mxs.banks.get c := by simp [Part.modBank, Two.get_set_other _ _ _ _ h]

end Sys2Proof.Machine
end

