-- ==== Sys2Proof/Laws/Keeps.lean ====
section
/-! SUPPORT. What each operation leaves alone: one lemma for each, naming every block that it does not touch. -/

namespace Sys2Proof.Machine

theorem foldl_view {α β : Type} (view : Part → β) (f : Part → α → Part) (h : ∀ q x, view (f q x) = view q) (l : List α)
    (p : Part) : view (l.foldl f p) = view p := by
  induction l generalizing p with
  | nil => rfl
  | cons x rest ih => rw [List.foldl_cons, ih, h]

@[simp] theorem Part.modLink_keeps (i : LinkIx) (g : SensorLink → SensorLink) (p : Part) :
    (Part.modLink i g p).geo = p.geo ∧ (Part.modLink i g p).fra = p.fra ∧ (Part.modLink i g p).scn = p.scn ∧
    (Part.modLink i g p).rca = p.rca ∧ (Part.modLink i g p).mxs = p.mxs ∧ (Part.modLink i g p).lpc = p.lpc ∧
    (Part.modLink i g p).mlt = p.mlt ∧ (Part.modLink i g p).xu = p.xu ∧ (Part.modLink i g p).tel = p.tel ∧
    (Part.modLink i g p).sns = p.sns ∧ (Part.modLink i g p).tlu = p.tlu ∧
    (Part.modLink i g p).issued = p.issued ∧ (Part.modLink i g p).frees = p.frees := by
  simp [Part.modLink]

@[simp] theorem Part.modMirror_keeps (m : MirrorIx) (g : MirrorLink → MirrorLink) (p : Part) :
    (Part.modMirror m g p).geo = p.geo ∧ (Part.modMirror m g p).links = p.links ∧
    (Part.modMirror m g p).fra = p.fra ∧ (Part.modMirror m g p).scn = p.scn ∧
    (Part.modMirror m g p).rca = p.rca ∧ (Part.modMirror m g p).mxs = p.mxs ∧
    (Part.modMirror m g p).lpc = p.lpc ∧ (Part.modMirror m g p).xu = p.xu ∧
    (Part.modMirror m g p).tel = p.tel ∧ (Part.modMirror m g p).sns = p.sns ∧
    (Part.modMirror m g p).tlu = p.tlu ∧ (Part.modMirror m g p).issued = p.issued ∧
    (Part.modMirror m g p).frees = p.frees := by
  simp [Part.modMirror]

@[simp] theorem Part.modSlot_keeps (i : SlotIx) (g : AsmSlot → AsmSlot) (p : Part) :
    (Part.modSlot i g p).geo = p.geo ∧ (Part.modSlot i g p).links = p.links ∧
    (Part.modSlot i g p).scn = p.scn ∧ (Part.modSlot i g p).rca = p.rca ∧ (Part.modSlot i g p).mxs = p.mxs ∧
    (Part.modSlot i g p).lpc = p.lpc ∧ (Part.modSlot i g p).mlt = p.mlt ∧ (Part.modSlot i g p).xu = p.xu ∧
    (Part.modSlot i g p).tel = p.tel ∧ (Part.modSlot i g p).sns = p.sns ∧ (Part.modSlot i g p).tlu = p.tlu ∧
    (Part.modSlot i g p).issued = p.issued ∧ (Part.modSlot i g p).frees = p.frees := by
  simp [Part.modSlot]

@[simp] theorem Part.modRecord_keeps (i : SlotIx) (g : SlopeRecord → SlopeRecord) (p : Part) :
    (Part.modRecord i g p).geo = p.geo ∧ (Part.modRecord i g p).links = p.links ∧
    (Part.modRecord i g p).fra = p.fra ∧ (Part.modRecord i g p).rca = p.rca ∧
    (Part.modRecord i g p).mxs = p.mxs ∧ (Part.modRecord i g p).lpc = p.lpc ∧
    (Part.modRecord i g p).mlt = p.mlt ∧ (Part.modRecord i g p).xu = p.xu ∧
    (Part.modRecord i g p).tel = p.tel ∧ (Part.modRecord i g p).sns = p.sns ∧
    (Part.modRecord i g p).tlu = p.tlu ∧ (Part.modRecord i g p).issued = p.issued ∧
    (Part.modRecord i g p).frees = p.frees := by
  simp [Part.modRecord]

@[simp] theorem Part.modBank_keeps (b : BankIx) (g : BankRecord → BankRecord) (p : Part) :
    (Part.modBank b g p).geo = p.geo ∧ (Part.modBank b g p).links = p.links ∧
    (Part.modBank b g p).fra = p.fra ∧ (Part.modBank b g p).scn = p.scn ∧ (Part.modBank b g p).rca = p.rca ∧
    (Part.modBank b g p).lpc = p.lpc ∧ (Part.modBank b g p).mlt = p.mlt ∧ (Part.modBank b g p).xu = p.xu ∧
    (Part.modBank b g p).tel = p.tel ∧ (Part.modBank b g p).sns = p.sns ∧ (Part.modBank b g p).tlu = p.tlu ∧
    (Part.modBank b g p).issued = p.issued ∧ (Part.modBank b g p).frees = p.frees := by
  simp [Part.modBank]

@[simp] theorem Part.countSensor_keeps (i : LinkIx) (g : SensorCounters → SensorCounters) (p : Part) :
    (Part.countSensor i g p).geo = p.geo ∧ (Part.countSensor i g p).fra = p.fra ∧
    (Part.countSensor i g p).scn = p.scn ∧ (Part.countSensor i g p).rca = p.rca ∧
    (Part.countSensor i g p).mxs = p.mxs ∧ (Part.countSensor i g p).lpc = p.lpc ∧
    (Part.countSensor i g p).mlt = p.mlt ∧ (Part.countSensor i g p).xu = p.xu ∧
    (Part.countSensor i g p).tel = p.tel ∧ (Part.countSensor i g p).sns = p.sns ∧
    (Part.countSensor i g p).tlu = p.tlu ∧ (Part.countSensor i g p).issued = p.issued ∧
    (Part.countSensor i g p).frees = p.frees := by
  simp [Part.countSensor]

@[simp] theorem Part.countMirror_keeps (m : MirrorIx) (g : MirrorCounters → MirrorCounters) (p : Part) :
    (Part.countMirror m g p).geo = p.geo ∧ (Part.countMirror m g p).links = p.links ∧
    (Part.countMirror m g p).fra = p.fra ∧ (Part.countMirror m g p).scn = p.scn ∧
    (Part.countMirror m g p).rca = p.rca ∧ (Part.countMirror m g p).mxs = p.mxs ∧
    (Part.countMirror m g p).lpc = p.lpc ∧ (Part.countMirror m g p).xu = p.xu ∧
    (Part.countMirror m g p).tel = p.tel ∧ (Part.countMirror m g p).sns = p.sns ∧
    (Part.countMirror m g p).tlu = p.tlu ∧ (Part.countMirror m g p).issued = p.issued ∧
    (Part.countMirror m g p).frees = p.frees := by
  simp [Part.countMirror]

@[simp] theorem Part.issue_keeps (o : Output) (p : Part) :
    (Part.issue o p).geo = p.geo ∧ (Part.issue o p).links = p.links ∧ (Part.issue o p).fra = p.fra ∧
    (Part.issue o p).scn = p.scn ∧ (Part.issue o p).rca = p.rca ∧ (Part.issue o p).mxs = p.mxs ∧
    (Part.issue o p).lpc = p.lpc ∧ (Part.issue o p).mlt = p.mlt ∧ (Part.issue o p).xu = p.xu ∧
    (Part.issue o p).tel = p.tel ∧ (Part.issue o p).sns = p.sns ∧ (Part.issue o p).tlu = p.tlu ∧
    (Part.issue o p).frees = p.frees := by
  simp [Part.issue]

@[simp] theorem Part.drawFree_keeps (p : Part) :
    (Part.drawFree p).geo = p.geo ∧ (Part.drawFree p).links = p.links ∧ (Part.drawFree p).fra = p.fra ∧
    (Part.drawFree p).scn = p.scn ∧ (Part.drawFree p).rca = p.rca ∧ (Part.drawFree p).mxs = p.mxs ∧
    (Part.drawFree p).lpc = p.lpc ∧ (Part.drawFree p).mlt = p.mlt ∧ (Part.drawFree p).xu = p.xu ∧
    (Part.drawFree p).tel = p.tel ∧ (Part.drawFree p).sns = p.sns ∧ (Part.drawFree p).tlu = p.tlu ∧
    (Part.drawFree p).issued = p.issued := by
  simp [Part.drawFree]

@[simp] theorem Part.advanceTo_keeps (t : Time) (p : Part) :
    (Part.advanceTo t p).geo = p.geo ∧ (Part.advanceTo t p).links = p.links ∧
    (Part.advanceTo t p).fra = p.fra ∧ (Part.advanceTo t p).scn = p.scn ∧ (Part.advanceTo t p).rca = p.rca ∧
    (Part.advanceTo t p).mxs = p.mxs ∧ (Part.advanceTo t p).lpc = p.lpc ∧ (Part.advanceTo t p).mlt = p.mlt ∧
    (Part.advanceTo t p).xu = p.xu ∧ (Part.advanceTo t p).tel = p.tel ∧ (Part.advanceTo t p).sns = p.sns ∧
    (Part.advanceTo t p).issued = p.issued ∧ (Part.advanceTo t p).frees = p.frees := by
  simp [Part.advanceTo]

@[simp] theorem Part.tick_keeps (p : Part) :
    (Part.tick p).geo = p.geo ∧ (Part.tick p).links = p.links ∧ (Part.tick p).fra = p.fra ∧
    (Part.tick p).scn = p.scn ∧ (Part.tick p).rca = p.rca ∧ (Part.tick p).mxs = p.mxs ∧
    (Part.tick p).lpc = p.lpc ∧ (Part.tick p).mlt = p.mlt ∧ (Part.tick p).xu = p.xu ∧
    (Part.tick p).tel = p.tel ∧ (Part.tick p).sns = p.sns ∧ (Part.tick p).issued = p.issued ∧
    (Part.tick p).frees = p.frees := by
  simp [Part.tick]

@[simp] theorem Part.hostWrite_keeps (addr : BitVec 64) (data : List Byte) (p : Part) :
    (Part.hostWrite addr data p).geo = p.geo ∧ (Part.hostWrite addr data p).links = p.links ∧
    (Part.hostWrite addr data p).fra = p.fra ∧ (Part.hostWrite addr data p).scn = p.scn ∧
    (Part.hostWrite addr data p).rca = p.rca ∧ (Part.hostWrite addr data p).mxs = p.mxs ∧
    (Part.hostWrite addr data p).lpc = p.lpc ∧ (Part.hostWrite addr data p).mlt = p.mlt ∧
    (Part.hostWrite addr data p).xu = p.xu ∧ (Part.hostWrite addr data p).tel = p.tel ∧
    (Part.hostWrite addr data p).sns = p.sns ∧ (Part.hostWrite addr data p).tlu = p.tlu ∧
    (Part.hostWrite addr data p).frees = p.frees := by
  simp only [Part.hostWrite]
  (repeat' split) <;> simp

@[simp] theorem Part.hostRead_keeps (addr : BitVec 64) (length : Nat) (p : Part) :
    (Part.hostRead addr length p).geo = p.geo ∧ (Part.hostRead addr length p).links = p.links ∧
    (Part.hostRead addr length p).fra = p.fra ∧ (Part.hostRead addr length p).scn = p.scn ∧
    (Part.hostRead addr length p).rca = p.rca ∧ (Part.hostRead addr length p).mxs = p.mxs ∧
    (Part.hostRead addr length p).lpc = p.lpc ∧ (Part.hostRead addr length p).mlt = p.mlt ∧
    (Part.hostRead addr length p).xu = p.xu ∧ (Part.hostRead addr length p).tel = p.tel ∧
    (Part.hostRead addr length p).sns = p.sns ∧ (Part.hostRead addr length p).tlu = p.tlu ∧
    (Part.hostRead addr length p).frees = p.frees := by
  simp only [Part.hostRead]
  (repeat' split) <;> simp

@[simp] theorem Part.sendMsi_keeps (p : Part) :
    (Part.sendMsi p).geo = p.geo ∧ (Part.sendMsi p).links = p.links ∧ (Part.sendMsi p).fra = p.fra ∧
    (Part.sendMsi p).scn = p.scn ∧ (Part.sendMsi p).rca = p.rca ∧ (Part.sendMsi p).mxs = p.mxs ∧
    (Part.sendMsi p).lpc = p.lpc ∧ (Part.sendMsi p).mlt = p.mlt ∧ (Part.sendMsi p).xu = p.xu ∧
    (Part.sendMsi p).tel = p.tel ∧ (Part.sendMsi p).sns = p.sns ∧ (Part.sendMsi p).tlu = p.tlu ∧
    (Part.sendMsi p).frees = p.frees := by
  simp only [Part.sendMsi]
  (repeat' split) <;> simp

@[simp] theorem Part.raise_keeps (e : Event) (p : Part) :
    (Part.raise e p).geo = p.geo ∧ (Part.raise e p).links = p.links ∧ (Part.raise e p).fra = p.fra ∧
    (Part.raise e p).scn = p.scn ∧ (Part.raise e p).rca = p.rca ∧ (Part.raise e p).mxs = p.mxs ∧
    (Part.raise e p).lpc = p.lpc ∧ (Part.raise e p).mlt = p.mlt ∧ (Part.raise e p).xu = p.xu ∧
    (Part.raise e p).tel = p.tel ∧ (Part.raise e p).sns = p.sns ∧ (Part.raise e p).frees = p.frees := by
  simp only [Part.raise]
  (repeat' split) <;> simp

@[simp] theorem Part.clearEvents_keeps (value : BitVec 32) (p : Part) :
    (Part.clearEvents value p).geo = p.geo ∧ (Part.clearEvents value p).links = p.links ∧
    (Part.clearEvents value p).fra = p.fra ∧ (Part.clearEvents value p).scn = p.scn ∧
    (Part.clearEvents value p).rca = p.rca ∧ (Part.clearEvents value p).mxs = p.mxs ∧
    (Part.clearEvents value p).lpc = p.lpc ∧ (Part.clearEvents value p).mlt = p.mlt ∧
    (Part.clearEvents value p).xu = p.xu ∧ (Part.clearEvents value p).tel = p.tel ∧
    (Part.clearEvents value p).sns = p.sns ∧ (Part.clearEvents value p).issued = p.issued ∧
    (Part.clearEvents value p).frees = p.frees := by
  simp [Part.clearEvents]

@[simp] theorem Part.writeMask_keeps (value : BitVec 32) (p : Part) :
    (Part.writeMask value p).geo = p.geo ∧ (Part.writeMask value p).links = p.links ∧
    (Part.writeMask value p).fra = p.fra ∧ (Part.writeMask value p).scn = p.scn ∧
    (Part.writeMask value p).rca = p.rca ∧ (Part.writeMask value p).mxs = p.mxs ∧
    (Part.writeMask value p).lpc = p.lpc ∧ (Part.writeMask value p).mlt = p.mlt ∧
    (Part.writeMask value p).xu = p.xu ∧ (Part.writeMask value p).tel = p.tel ∧
    (Part.writeMask value p).sns = p.sns ∧ (Part.writeMask value p).frees = p.frees := by
  simp only [Part.writeMask]
  (repeat' split) <;> simp

@[simp] theorem Part.writeResult_keeps (ref : OrderRef) (r : OrderResult) (p : Part) :
    (Part.writeResult ref r p).geo = p.geo ∧ (Part.writeResult ref r p).links = p.links ∧
    (Part.writeResult ref r p).fra = p.fra ∧ (Part.writeResult ref r p).scn = p.scn ∧
    (Part.writeResult ref r p).rca = p.rca ∧ (Part.writeResult ref r p).mxs = p.mxs ∧
    (Part.writeResult ref r p).lpc = p.lpc ∧ (Part.writeResult ref r p).mlt = p.mlt ∧
    (Part.writeResult ref r p).xu = p.xu ∧ (Part.writeResult ref r p).tel = p.tel ∧
    (Part.writeResult ref r p).sns = p.sns ∧ (Part.writeResult ref r p).tlu = p.tlu ∧
    (Part.writeResult ref r p).frees = p.frees := by
  simp [Part.writeResult]

@[simp] theorem Part.finish_keeps (ref : OrderRef) (r : OrderResult) (p : Part) :
    (Part.finish ref r p).geo = p.geo ∧ (Part.finish ref r p).links = p.links ∧
    (Part.finish ref r p).fra = p.fra ∧ (Part.finish ref r p).scn = p.scn ∧ (Part.finish ref r p).rca = p.rca ∧
    (Part.finish ref r p).mxs = p.mxs ∧ (Part.finish ref r p).lpc = p.lpc ∧ (Part.finish ref r p).mlt = p.mlt ∧
    (Part.finish ref r p).xu = p.xu ∧ (Part.finish ref r p).tel = p.tel ∧ (Part.finish ref r p).sns = p.sns ∧
    (Part.finish ref r p).frees = p.frees := by
  simp only [Part.finish]
  (repeat' split) <;> simp

@[simp] theorem Part.writeTaken_keeps (slot : Fin 32) (p : Part) :
    (Part.writeTaken slot p).geo = p.geo ∧ (Part.writeTaken slot p).links = p.links ∧
    (Part.writeTaken slot p).fra = p.fra ∧ (Part.writeTaken slot p).scn = p.scn ∧
    (Part.writeTaken slot p).rca = p.rca ∧ (Part.writeTaken slot p).mxs = p.mxs ∧
    (Part.writeTaken slot p).lpc = p.lpc ∧ (Part.writeTaken slot p).mlt = p.mlt ∧
    (Part.writeTaken slot p).xu = p.xu ∧ (Part.writeTaken slot p).tel = p.tel ∧
    (Part.writeTaken slot p).sns = p.sns ∧ (Part.writeTaken slot p).tlu = p.tlu ∧
    (Part.writeTaken slot p).frees = p.frees := by
  simp [Part.writeTaken]

@[simp] theorem Part.putLoop_keeps (st : LoopState) (p : Part) :
    (Part.putLoop st p).geo = p.geo ∧ (Part.putLoop st p).links = p.links ∧ (Part.putLoop st p).fra = p.fra ∧
    (Part.putLoop st p).scn = p.scn ∧ (Part.putLoop st p).rca = p.rca ∧ (Part.putLoop st p).mxs = p.mxs ∧
    (Part.putLoop st p).mlt = p.mlt ∧ (Part.putLoop st p).xu = p.xu ∧ (Part.putLoop st p).tel = p.tel ∧
    (Part.putLoop st p).sns = p.sns ∧ (Part.putLoop st p).tlu = p.tlu ∧ (Part.putLoop st p).issued = p.issued ∧
    (Part.putLoop st p).frees = p.frees := by
  simp [Part.putLoop]

@[simp] theorem Part.setLoop_keeps (st : LoopState) (p : Part) :
    (Part.setLoop st p).geo = p.geo ∧ (Part.setLoop st p).links = p.links ∧ (Part.setLoop st p).fra = p.fra ∧
    (Part.setLoop st p).scn = p.scn ∧ (Part.setLoop st p).rca = p.rca ∧ (Part.setLoop st p).mxs = p.mxs ∧
    (Part.setLoop st p).mlt = p.mlt ∧ (Part.setLoop st p).xu = p.xu ∧ (Part.setLoop st p).tel = p.tel ∧
    (Part.setLoop st p).sns = p.sns ∧ (Part.setLoop st p).frees = p.frees := by
  simp only [Part.setLoop]
  (repeat' split) <;> simp

@[simp] theorem Part.takeHold_keeps (c : HoldCause) (p : Part) :
    (Part.takeHold c p).geo = p.geo ∧ (Part.takeHold c p).links = p.links ∧ (Part.takeHold c p).fra = p.fra ∧
    (Part.takeHold c p).scn = p.scn ∧ (Part.takeHold c p).rca = p.rca ∧ (Part.takeHold c p).mxs = p.mxs ∧
    (Part.takeHold c p).mlt = p.mlt ∧ (Part.takeHold c p).xu = p.xu ∧ (Part.takeHold c p).tel = p.tel ∧
    (Part.takeHold c p).sns = p.sns ∧ (Part.takeHold c p).frees = p.frees := by
  simp only [Part.takeHold]
  (repeat' split) <;> simp

@[simp] theorem Part.issueQuery_keeps (m : MirrorIx) (forProbe : Bool) (p : Part) :
    (Part.issueQuery m forProbe p).geo = p.geo ∧ (Part.issueQuery m forProbe p).links = p.links ∧
    (Part.issueQuery m forProbe p).fra = p.fra ∧ (Part.issueQuery m forProbe p).scn = p.scn ∧
    (Part.issueQuery m forProbe p).rca = p.rca ∧ (Part.issueQuery m forProbe p).mxs = p.mxs ∧
    (Part.issueQuery m forProbe p).lpc = p.lpc ∧ (Part.issueQuery m forProbe p).xu = p.xu ∧
    (Part.issueQuery m forProbe p).tel = p.tel ∧ (Part.issueQuery m forProbe p).sns = p.sns ∧
    (Part.issueQuery m forProbe p).tlu = p.tlu ∧ (Part.issueQuery m forProbe p).issued = p.issued ∧
    (Part.issueQuery m forProbe p).frees = p.frees := by
  simp [Part.issueQuery]

@[simp] theorem Part.sendFrame_keeps (m : MirrorIx) (codes : List Nat) (p : Part) :
    (Part.sendFrame m codes p).geo = p.geo ∧ (Part.sendFrame m codes p).links = p.links ∧
    (Part.sendFrame m codes p).fra = p.fra ∧ (Part.sendFrame m codes p).scn = p.scn ∧
    (Part.sendFrame m codes p).rca = p.rca ∧ (Part.sendFrame m codes p).mxs = p.mxs ∧
    (Part.sendFrame m codes p).lpc = p.lpc ∧ (Part.sendFrame m codes p).xu = p.xu ∧
    (Part.sendFrame m codes p).tel = p.tel ∧ (Part.sendFrame m codes p).sns = p.sns ∧
    (Part.sendFrame m codes p).tlu = p.tlu ∧ (Part.sendFrame m codes p).issued = p.issued ∧
    (Part.sendFrame m codes p).frees = p.frees := by
  simp [Part.sendFrame]

@[simp] theorem Part.startMirrorTimer_keeps (m : MirrorIx) (p : Part) :
    (Part.startMirrorTimer m p).geo = p.geo ∧ (Part.startMirrorTimer m p).links = p.links ∧
    (Part.startMirrorTimer m p).fra = p.fra ∧ (Part.startMirrorTimer m p).scn = p.scn ∧
    (Part.startMirrorTimer m p).rca = p.rca ∧ (Part.startMirrorTimer m p).mxs = p.mxs ∧
    (Part.startMirrorTimer m p).lpc = p.lpc ∧ (Part.startMirrorTimer m p).xu = p.xu ∧
    (Part.startMirrorTimer m p).tel = p.tel ∧ (Part.startMirrorTimer m p).sns = p.sns ∧
    (Part.startMirrorTimer m p).tlu = p.tlu ∧ (Part.startMirrorTimer m p).issued = p.issued ∧
    (Part.startMirrorTimer m p).frees = p.frees := by
  simp [Part.startMirrorTimer]

@[simp] theorem Part.endProbe_keeps (m : MirrorIx) (r : OrderResult) (p : Part) :
    (Part.endProbe m r p).geo = p.geo ∧ (Part.endProbe m r p).links = p.links ∧
    (Part.endProbe m r p).fra = p.fra ∧ (Part.endProbe m r p).scn = p.scn ∧ (Part.endProbe m r p).rca = p.rca ∧
    (Part.endProbe m r p).mxs = p.mxs ∧ (Part.endProbe m r p).lpc = p.lpc ∧ (Part.endProbe m r p).xu = p.xu ∧
    (Part.endProbe m r p).tel = p.tel ∧ (Part.endProbe m r p).sns = p.sns ∧
    (Part.endProbe m r p).frees = p.frees := by
  simp only [Part.endProbe]
  (repeat' split) <;> simp

@[simp] theorem Part.skipFrame_keeps (m : MirrorIx) (p : Part) :
    (Part.skipFrame m p).geo = p.geo ∧ (Part.skipFrame m p).links = p.links ∧
    (Part.skipFrame m p).fra = p.fra ∧ (Part.skipFrame m p).scn = p.scn ∧ (Part.skipFrame m p).rca = p.rca ∧
    (Part.skipFrame m p).mxs = p.mxs ∧ (Part.skipFrame m p).lpc = p.lpc ∧ (Part.skipFrame m p).xu = p.xu ∧
    (Part.skipFrame m p).tel = p.tel ∧ (Part.skipFrame m p).sns = p.sns ∧ (Part.skipFrame m p).tlu = p.tlu ∧
    (Part.skipFrame m p).issued = p.issued ∧ (Part.skipFrame m p).frees = p.frees := by
  simp [Part.skipFrame]

@[simp] theorem Part.leaveIdle_keeps (m : MirrorIx) (p : Part) :
    (Part.leaveIdle m p).geo = p.geo ∧ (Part.leaveIdle m p).links = p.links ∧
    (Part.leaveIdle m p).fra = p.fra ∧ (Part.leaveIdle m p).scn = p.scn ∧ (Part.leaveIdle m p).rca = p.rca ∧
    (Part.leaveIdle m p).mxs = p.mxs ∧ (Part.leaveIdle m p).lpc = p.lpc ∧ (Part.leaveIdle m p).xu = p.xu ∧
    (Part.leaveIdle m p).tel = p.tel ∧ (Part.leaveIdle m p).sns = p.sns ∧
    (Part.leaveIdle m p).frees = p.frees := by
  simp [Part.leaveIdle]

@[simp] theorem Part.handOver_keeps (m : MirrorIx) (codes : List Nat) (p : Part) :
    (Part.handOver m codes p).part.geo = p.geo ∧ (Part.handOver m codes p).part.links = p.links ∧
    (Part.handOver m codes p).part.fra = p.fra ∧ (Part.handOver m codes p).part.scn = p.scn ∧
    (Part.handOver m codes p).part.rca = p.rca ∧ (Part.handOver m codes p).part.mxs = p.mxs ∧
    (Part.handOver m codes p).part.lpc = p.lpc ∧ (Part.handOver m codes p).part.xu = p.xu ∧
    (Part.handOver m codes p).part.tel = p.tel ∧ (Part.handOver m codes p).part.sns = p.sns ∧
    (Part.handOver m codes p).part.frees = p.frees := by
  simp only [Part.handOver]
  (repeat' split) <;> simp

@[simp] theorem Part.cutOff_keeps (m : MirrorIx) (p : Part) :
    (Part.cutOff m p).geo = p.geo ∧ (Part.cutOff m p).links = p.links ∧ (Part.cutOff m p).fra = p.fra ∧
    (Part.cutOff m p).scn = p.scn ∧ (Part.cutOff m p).rca = p.rca ∧ (Part.cutOff m p).mxs = p.mxs ∧
    (Part.cutOff m p).lpc = p.lpc ∧ (Part.cutOff m p).xu = p.xu ∧ (Part.cutOff m p).tel = p.tel ∧
    (Part.cutOff m p).sns = p.sns ∧ (Part.cutOff m p).tlu = p.tlu ∧ (Part.cutOff m p).frees = p.frees := by
  simp only [Part.cutOff]
  (repeat' split) <;> simp

@[simp] theorem Part.enterBlocked_keeps (m : MirrorIx) (p : Part) :
    (Part.enterBlocked m p).geo = p.geo ∧ (Part.enterBlocked m p).links = p.links ∧
    (Part.enterBlocked m p).fra = p.fra ∧ (Part.enterBlocked m p).scn = p.scn ∧
    (Part.enterBlocked m p).rca = p.rca ∧ (Part.enterBlocked m p).mxs = p.mxs ∧
    (Part.enterBlocked m p).lpc = p.lpc ∧ (Part.enterBlocked m p).xu = p.xu ∧
    (Part.enterBlocked m p).tel = p.tel ∧ (Part.enterBlocked m p).sns = p.sns ∧
    (Part.enterBlocked m p).frees = p.frees := by
  simp [Part.enterBlocked]

@[simp] theorem Part.enterFault_keeps (m : MirrorIx) (p : Part) :
    (Part.enterFault m p).geo = p.geo ∧ (Part.enterFault m p).links = p.links ∧
    (Part.enterFault m p).fra = p.fra ∧ (Part.enterFault m p).scn = p.scn ∧ (Part.enterFault m p).rca = p.rca ∧
    (Part.enterFault m p).mxs = p.mxs ∧ (Part.enterFault m p).xu = p.xu ∧ (Part.enterFault m p).tel = p.tel ∧
    (Part.enterFault m p).sns = p.sns ∧ (Part.enterFault m p).frees = p.frees := by
  simp [Part.enterFault]

@[simp] theorem Part.retire_keeps (m : MirrorIx) (x : Serial) (st : ReceiptStatus) (p : Part) :
    (Part.retire m x st p).geo = p.geo ∧ (Part.retire m x st p).links = p.links ∧
    (Part.retire m x st p).fra = p.fra ∧ (Part.retire m x st p).scn = p.scn ∧
    (Part.retire m x st p).rca = p.rca ∧ (Part.retire m x st p).mxs = p.mxs ∧
    (Part.retire m x st p).lpc = p.lpc ∧ (Part.retire m x st p).xu = p.xu ∧
    (Part.retire m x st p).tel = p.tel ∧ (Part.retire m x st p).sns = p.sns ∧
    (Part.retire m x st p).tlu = p.tlu ∧ (Part.retire m x st p).issued = p.issued ∧
    (Part.retire m x st p).frees = p.frees := by
  simp [Part.retire]

@[simp] theorem Part.countStray_keeps (m : MirrorIx) (p : Part) :
    (Part.countStray m p).geo = p.geo ∧ (Part.countStray m p).links = p.links ∧
    (Part.countStray m p).fra = p.fra ∧ (Part.countStray m p).scn = p.scn ∧ (Part.countStray m p).rca = p.rca ∧
    (Part.countStray m p).mxs = p.mxs ∧ (Part.countStray m p).lpc = p.lpc ∧ (Part.countStray m p).xu = p.xu ∧
    (Part.countStray m p).tel = p.tel ∧ (Part.countStray m p).sns = p.sns ∧ (Part.countStray m p).tlu = p.tlu ∧
    (Part.countStray m p).issued = p.issued ∧ (Part.countStray m p).frees = p.frees := by
  simp [Part.countStray]

@[simp] theorem Part.receiptAfter_keeps (m : MirrorIx) (p : Part) :
    (Part.receiptAfter m p).geo = p.geo ∧ (Part.receiptAfter m p).links = p.links ∧
    (Part.receiptAfter m p).fra = p.fra ∧ (Part.receiptAfter m p).scn = p.scn ∧
    (Part.receiptAfter m p).rca = p.rca ∧ (Part.receiptAfter m p).mxs = p.mxs ∧
    (Part.receiptAfter m p).lpc = p.lpc ∧ (Part.receiptAfter m p).xu = p.xu ∧
    (Part.receiptAfter m p).tel = p.tel ∧ (Part.receiptAfter m p).sns = p.sns ∧
    (Part.receiptAfter m p).tlu = p.tlu ∧ (Part.receiptAfter m p).issued = p.issued ∧
    (Part.receiptAfter m p).frees = p.frees := by
  simp only [Part.receiptAfter]
  (repeat' split) <;> simp

@[simp] theorem Part.judgeReceipt_keeps (m : MirrorIx) (st : ReceiptStatus) (fault : Bool) (p : Part) :
    (Part.judgeReceipt m st fault p).geo = p.geo ∧ (Part.judgeReceipt m st fault p).links = p.links ∧
    (Part.judgeReceipt m st fault p).fra = p.fra ∧ (Part.judgeReceipt m st fault p).scn = p.scn ∧
    (Part.judgeReceipt m st fault p).rca = p.rca ∧ (Part.judgeReceipt m st fault p).mxs = p.mxs ∧
    (Part.judgeReceipt m st fault p).xu = p.xu ∧ (Part.judgeReceipt m st fault p).tel = p.tel ∧
    (Part.judgeReceipt m st fault p).sns = p.sns ∧ (Part.judgeReceipt m st fault p).frees = p.frees := by
  simp only [Part.judgeReceipt]
  (repeat' split) <;> simp

@[simp] theorem Part.takeReceipt_keeps (m : MirrorIx) (x : Serial) (st : ReceiptStatus) (fault : Bool) (p : Part) :
    (Part.takeReceipt m x st fault p).geo = p.geo ∧ (Part.takeReceipt m x st fault p).links = p.links ∧
    (Part.takeReceipt m x st fault p).fra = p.fra ∧ (Part.takeReceipt m x st fault p).scn = p.scn ∧
    (Part.takeReceipt m x st fault p).rca = p.rca ∧ (Part.takeReceipt m x st fault p).mxs = p.mxs ∧
    (Part.takeReceipt m x st fault p).xu = p.xu ∧ (Part.takeReceipt m x st fault p).tel = p.tel ∧
    (Part.takeReceipt m x st fault p).sns = p.sns ∧ (Part.takeReceipt m x st fault p).frees = p.frees := by
  simp only [Part.takeReceipt]
  (repeat' split) <;> simp

@[simp] theorem Part.reconcile_keeps (m : MirrorIx) (y : Serial) (p : Part) :
    (Part.reconcile m y p).geo = p.geo ∧ (Part.reconcile m y p).links = p.links ∧
    (Part.reconcile m y p).fra = p.fra ∧ (Part.reconcile m y p).scn = p.scn ∧
    (Part.reconcile m y p).rca = p.rca ∧ (Part.reconcile m y p).mxs = p.mxs ∧
    (Part.reconcile m y p).lpc = p.lpc ∧ (Part.reconcile m y p).xu = p.xu ∧
    (Part.reconcile m y p).tel = p.tel ∧ (Part.reconcile m y p).sns = p.sns ∧
    (Part.reconcile m y p).tlu = p.tlu ∧ (Part.reconcile m y p).issued = p.issued ∧
    (Part.reconcile m y p).frees = p.frees := by
  simp [Part.reconcile]

@[simp] theorem Part.replyInChecking_keeps (m : MirrorIx) (ready fault : Bool) (y : Serial) (p : Part) :
    (Part.replyInChecking m ready fault y p).geo = p.geo ∧
    (Part.replyInChecking m ready fault y p).links = p.links ∧
    (Part.replyInChecking m ready fault y p).fra = p.fra ∧
    (Part.replyInChecking m ready fault y p).scn = p.scn ∧
    (Part.replyInChecking m ready fault y p).rca = p.rca ∧
    (Part.replyInChecking m ready fault y p).mxs = p.mxs ∧ (Part.replyInChecking m ready fault y p).xu = p.xu ∧
    (Part.replyInChecking m ready fault y p).tel = p.tel ∧
    (Part.replyInChecking m ready fault y p).sns = p.sns ∧
    (Part.replyInChecking m ready fault y p).frees = p.frees := by
  simp only [Part.replyInChecking]
  (repeat' split) <;> simp

@[simp] theorem Part.replyInBlocked_keeps (m : MirrorIx) (ready fault : Bool) (y : Serial) (p : Part) :
    (Part.replyInBlocked m ready fault y p).geo = p.geo ∧
    (Part.replyInBlocked m ready fault y p).links = p.links ∧
    (Part.replyInBlocked m ready fault y p).fra = p.fra ∧ (Part.replyInBlocked m ready fault y p).scn = p.scn ∧
    (Part.replyInBlocked m ready fault y p).rca = p.rca ∧ (Part.replyInBlocked m ready fault y p).mxs = p.mxs ∧
    (Part.replyInBlocked m ready fault y p).xu = p.xu ∧ (Part.replyInBlocked m ready fault y p).tel = p.tel ∧
    (Part.replyInBlocked m ready fault y p).sns = p.sns ∧
    (Part.replyInBlocked m ready fault y p).frees = p.frees := by
  simp only [Part.replyInBlocked]
  (repeat' split) <;> simp

@[simp] theorem Part.replyToProbe_keeps (m : MirrorIx) (pr : Probe) (ready fault : Bool) (y : Serial) (p : Part) :
    (Part.replyToProbe m pr ready fault y p).geo = p.geo ∧
    (Part.replyToProbe m pr ready fault y p).links = p.links ∧
    (Part.replyToProbe m pr ready fault y p).fra = p.fra ∧
    (Part.replyToProbe m pr ready fault y p).scn = p.scn ∧
    (Part.replyToProbe m pr ready fault y p).rca = p.rca ∧
    (Part.replyToProbe m pr ready fault y p).mxs = p.mxs ∧ (Part.replyToProbe m pr ready fault y p).xu = p.xu ∧
    (Part.replyToProbe m pr ready fault y p).tel = p.tel ∧
    (Part.replyToProbe m pr ready fault y p).sns = p.sns := by
  simp only [Part.replyToProbe]
  (repeat' split) <;> simp

@[simp] theorem Part.takeReply_keeps (m : MirrorIx) (ready fault : Bool) (y : Serial) (p : Part) :
    (Part.takeReply m ready fault y p).geo = p.geo ∧ (Part.takeReply m ready fault y p).links = p.links ∧
    (Part.takeReply m ready fault y p).fra = p.fra ∧ (Part.takeReply m ready fault y p).scn = p.scn ∧
    (Part.takeReply m ready fault y p).rca = p.rca ∧ (Part.takeReply m ready fault y p).mxs = p.mxs ∧
    (Part.takeReply m ready fault y p).xu = p.xu ∧ (Part.takeReply m ready fault y p).tel = p.tel ∧
    (Part.takeReply m ready fault y p).sns = p.sns := by
  simp only [Part.takeReply]
  (repeat' split) <;> simp

@[simp] theorem Part.takeMirrorPacket_keeps (m : MirrorIx) (packet : List Byte) (p : Part) :
    (Part.takeMirrorPacket m packet p).geo = p.geo ∧ (Part.takeMirrorPacket m packet p).links = p.links ∧
    (Part.takeMirrorPacket m packet p).fra = p.fra ∧ (Part.takeMirrorPacket m packet p).scn = p.scn ∧
    (Part.takeMirrorPacket m packet p).rca = p.rca ∧ (Part.takeMirrorPacket m packet p).mxs = p.mxs ∧
    (Part.takeMirrorPacket m packet p).xu = p.xu ∧ (Part.takeMirrorPacket m packet p).tel = p.tel ∧
    (Part.takeMirrorPacket m packet p).sns = p.sns := by
  simp only [Part.takeMirrorPacket]
  (repeat' split) <;> simp

@[simp] theorem Part.mirrorPacketArrival_keeps (m : MirrorIx) (early : Bool) (packet : List Byte) (p : Part) :
    (Part.mirrorPacketArrival m early packet p).geo = p.geo ∧
    (Part.mirrorPacketArrival m early packet p).links = p.links ∧
    (Part.mirrorPacketArrival m early packet p).fra = p.fra ∧
    (Part.mirrorPacketArrival m early packet p).scn = p.scn ∧
    (Part.mirrorPacketArrival m early packet p).rca = p.rca ∧
    (Part.mirrorPacketArrival m early packet p).mxs = p.mxs ∧
    (Part.mirrorPacketArrival m early packet p).xu = p.xu ∧
    (Part.mirrorPacketArrival m early packet p).tel = p.tel ∧
    (Part.mirrorPacketArrival m early packet p).sns = p.sns := by
  simp only [Part.mirrorPacketArrival]
  (repeat' split) <;> simp

@[simp] theorem Part.frameSent_keeps (m : MirrorIx) (seq : Serial) (p : Part) :
    (Part.frameSent m seq p).geo = p.geo ∧ (Part.frameSent m seq p).links = p.links ∧
    (Part.frameSent m seq p).fra = p.fra ∧ (Part.frameSent m seq p).scn = p.scn ∧
    (Part.frameSent m seq p).rca = p.rca ∧ (Part.frameSent m seq p).mxs = p.mxs ∧
    (Part.frameSent m seq p).lpc = p.lpc ∧ (Part.frameSent m seq p).xu = p.xu ∧
    (Part.frameSent m seq p).tel = p.tel ∧ (Part.frameSent m seq p).sns = p.sns ∧
    (Part.frameSent m seq p).tlu = p.tlu ∧ (Part.frameSent m seq p).issued = p.issued ∧
    (Part.frameSent m seq p).frees = p.frees := by
  simp [Part.frameSent]

@[simp] theorem Part.querySent_keeps (m : MirrorIx) (forProbe : Bool) (p : Part) :
    (Part.querySent m forProbe p).geo = p.geo ∧ (Part.querySent m forProbe p).links = p.links ∧
    (Part.querySent m forProbe p).fra = p.fra ∧ (Part.querySent m forProbe p).scn = p.scn ∧
    (Part.querySent m forProbe p).rca = p.rca ∧ (Part.querySent m forProbe p).mxs = p.mxs ∧
    (Part.querySent m forProbe p).lpc = p.lpc ∧ (Part.querySent m forProbe p).xu = p.xu ∧
    (Part.querySent m forProbe p).tel = p.tel ∧ (Part.querySent m forProbe p).sns = p.sns ∧
    (Part.querySent m forProbe p).tlu = p.tlu ∧ (Part.querySent m forProbe p).issued = p.issued ∧
    (Part.querySent m forProbe p).frees = p.frees := by
  simp only [Part.querySent]
  (repeat' split) <;> simp

@[simp] theorem Part.issuePackets_keeps (m : MirrorIx) (packets : List (List Byte)) (p : Part) :
    (Part.issuePackets m packets p).geo = p.geo ∧ (Part.issuePackets m packets p).links = p.links ∧
    (Part.issuePackets m packets p).fra = p.fra ∧ (Part.issuePackets m packets p).scn = p.scn ∧
    (Part.issuePackets m packets p).rca = p.rca ∧ (Part.issuePackets m packets p).mxs = p.mxs ∧
    (Part.issuePackets m packets p).lpc = p.lpc ∧ (Part.issuePackets m packets p).mlt = p.mlt ∧
    (Part.issuePackets m packets p).xu = p.xu ∧ (Part.issuePackets m packets p).tel = p.tel ∧
    (Part.issuePackets m packets p).sns = p.sns ∧ (Part.issuePackets m packets p).tlu = p.tlu ∧
    (Part.issuePackets m packets p).frees = p.frees := by
  simp [Part.issuePackets]

@[simp] theorem Part.packetTransmitEnd_keeps (m : MirrorIx) (p : Part) :
    (Part.packetTransmitEnd m p).geo = p.geo ∧ (Part.packetTransmitEnd m p).links = p.links ∧
    (Part.packetTransmitEnd m p).fra = p.fra ∧ (Part.packetTransmitEnd m p).scn = p.scn ∧
    (Part.packetTransmitEnd m p).rca = p.rca ∧ (Part.packetTransmitEnd m p).mxs = p.mxs ∧
    (Part.packetTransmitEnd m p).lpc = p.lpc ∧ (Part.packetTransmitEnd m p).xu = p.xu ∧
    (Part.packetTransmitEnd m p).tel = p.tel ∧ (Part.packetTransmitEnd m p).sns = p.sns ∧
    (Part.packetTransmitEnd m p).tlu = p.tlu ∧ (Part.packetTransmitEnd m p).frees = p.frees := by
  simp only [Part.packetTransmitEnd]
  (repeat' split) <;> simp

@[simp] theorem Part.expiryInRunning_keeps (m : MirrorIx) (p : Part) :
    (Part.expiryInRunning m p).geo = p.geo ∧ (Part.expiryInRunning m p).links = p.links ∧
    (Part.expiryInRunning m p).fra = p.fra ∧ (Part.expiryInRunning m p).scn = p.scn ∧
    (Part.expiryInRunning m p).rca = p.rca ∧ (Part.expiryInRunning m p).mxs = p.mxs ∧
    (Part.expiryInRunning m p).lpc = p.lpc ∧ (Part.expiryInRunning m p).xu = p.xu ∧
    (Part.expiryInRunning m p).tel = p.tel ∧ (Part.expiryInRunning m p).sns = p.sns ∧
    (Part.expiryInRunning m p).tlu = p.tlu ∧ (Part.expiryInRunning m p).issued = p.issued ∧
    (Part.expiryInRunning m p).frees = p.frees := by
  simp [Part.expiryInRunning]

@[simp] theorem Part.expiryInChecking_keeps (m : MirrorIx) (p : Part) :
    (Part.expiryInChecking m p).geo = p.geo ∧ (Part.expiryInChecking m p).links = p.links ∧
    (Part.expiryInChecking m p).fra = p.fra ∧ (Part.expiryInChecking m p).scn = p.scn ∧
    (Part.expiryInChecking m p).rca = p.rca ∧ (Part.expiryInChecking m p).mxs = p.mxs ∧
    (Part.expiryInChecking m p).xu = p.xu ∧ (Part.expiryInChecking m p).tel = p.tel ∧
    (Part.expiryInChecking m p).sns = p.sns ∧ (Part.expiryInChecking m p).frees = p.frees := by
  simp only [Part.expiryInChecking]
  (repeat' split) <;> simp

@[simp] theorem Part.expiryInBlocked_keeps (m : MirrorIx) (p : Part) :
    (Part.expiryInBlocked m p).geo = p.geo ∧ (Part.expiryInBlocked m p).links = p.links ∧
    (Part.expiryInBlocked m p).fra = p.fra ∧ (Part.expiryInBlocked m p).scn = p.scn ∧
    (Part.expiryInBlocked m p).rca = p.rca ∧ (Part.expiryInBlocked m p).mxs = p.mxs ∧
    (Part.expiryInBlocked m p).xu = p.xu ∧ (Part.expiryInBlocked m p).tel = p.tel ∧
    (Part.expiryInBlocked m p).sns = p.sns ∧ (Part.expiryInBlocked m p).frees = p.frees := by
  simp only [Part.expiryInBlocked]
  (repeat' split) <;> simp

@[simp] theorem Part.receiptTimerExpiry_keeps (m : MirrorIx) (p : Part) :
    (Part.receiptTimerExpiry m p).geo = p.geo ∧ (Part.receiptTimerExpiry m p).links = p.links ∧
    (Part.receiptTimerExpiry m p).fra = p.fra ∧ (Part.receiptTimerExpiry m p).scn = p.scn ∧
    (Part.receiptTimerExpiry m p).rca = p.rca ∧ (Part.receiptTimerExpiry m p).mxs = p.mxs ∧
    (Part.receiptTimerExpiry m p).xu = p.xu ∧ (Part.receiptTimerExpiry m p).tel = p.tel ∧
    (Part.receiptTimerExpiry m p).sns = p.sns ∧ (Part.receiptTimerExpiry m p).frees = p.frees := by
  simp only [Part.receiptTimerExpiry]
  (repeat' split) <;> simp

@[simp] theorem Part.disableMirror_keeps (m : MirrorIx) (p : Part) :
    (Part.disableMirror m p).geo = p.geo ∧ (Part.disableMirror m p).links = p.links ∧
    (Part.disableMirror m p).fra = p.fra ∧ (Part.disableMirror m p).scn = p.scn ∧
    (Part.disableMirror m p).rca = p.rca ∧ (Part.disableMirror m p).mxs = p.mxs ∧
    (Part.disableMirror m p).lpc = p.lpc ∧ (Part.disableMirror m p).xu = p.xu ∧
    (Part.disableMirror m p).tel = p.tel ∧ (Part.disableMirror m p).sns = p.sns ∧
    (Part.disableMirror m p).frees = p.frees := by
  simp [Part.disableMirror]

@[simp] theorem Part.enableMirror_keeps (m : MirrorIx) (p : Part) :
    (Part.enableMirror m p).geo = p.geo ∧ (Part.enableMirror m p).links = p.links ∧
    (Part.enableMirror m p).fra = p.fra ∧ (Part.enableMirror m p).scn = p.scn ∧
    (Part.enableMirror m p).rca = p.rca ∧ (Part.enableMirror m p).mxs = p.mxs ∧
    (Part.enableMirror m p).lpc = p.lpc ∧ (Part.enableMirror m p).xu = p.xu ∧
    (Part.enableMirror m p).tel = p.tel ∧ (Part.enableMirror m p).sns = p.sns ∧
    (Part.enableMirror m p).tlu = p.tlu ∧ (Part.enableMirror m p).issued = p.issued ∧
    (Part.enableMirror m p).frees = p.frees := by
  simp [Part.enableMirror]

@[simp] theorem Part.applySetMirror_keeps (m : MirrorIx) (enable : Bool) (q : MirrorOrderParams) (p : Part) :
    (Part.applySetMirror m enable q p).geo = p.geo ∧ (Part.applySetMirror m enable q p).links = p.links ∧
    (Part.applySetMirror m enable q p).fra = p.fra ∧ (Part.applySetMirror m enable q p).scn = p.scn ∧
    (Part.applySetMirror m enable q p).rca = p.rca ∧ (Part.applySetMirror m enable q p).mxs = p.mxs ∧
    (Part.applySetMirror m enable q p).lpc = p.lpc ∧ (Part.applySetMirror m enable q p).xu = p.xu ∧
    (Part.applySetMirror m enable q p).tel = p.tel ∧ (Part.applySetMirror m enable q p).sns = p.sns ∧
    (Part.applySetMirror m enable q p).frees = p.frees := by
  simp only [Part.applySetMirror]
  (repeat' split) <;> simp

@[simp] theorem Part.setMirror_keeps (q : MirrorOrderParams) (p : Part) :
    (Part.setMirror q p).2.geo = p.geo ∧ (Part.setMirror q p).2.links = p.links ∧
    (Part.setMirror q p).2.fra = p.fra ∧ (Part.setMirror q p).2.scn = p.scn ∧
    (Part.setMirror q p).2.rca = p.rca ∧ (Part.setMirror q p).2.mxs = p.mxs ∧
    (Part.setMirror q p).2.lpc = p.lpc ∧ (Part.setMirror q p).2.xu = p.xu ∧
    (Part.setMirror q p).2.tel = p.tel ∧ (Part.setMirror q p).2.sns = p.sns ∧
    (Part.setMirror q p).2.frees = p.frees := by
  simp only [Part.setMirror]
  (repeat' split) <;> simp

@[simp] theorem Part.mirrorReset_keeps (mirror : Byte) (p : Part) :
    (Part.mirrorReset mirror p).2.geo = p.geo ∧ (Part.mirrorReset mirror p).2.links = p.links ∧
    (Part.mirrorReset mirror p).2.fra = p.fra ∧ (Part.mirrorReset mirror p).2.scn = p.scn ∧
    (Part.mirrorReset mirror p).2.rca = p.rca ∧ (Part.mirrorReset mirror p).2.mxs = p.mxs ∧
    (Part.mirrorReset mirror p).2.lpc = p.lpc ∧ (Part.mirrorReset mirror p).2.xu = p.xu ∧
    (Part.mirrorReset mirror p).2.tel = p.tel ∧ (Part.mirrorReset mirror p).2.sns = p.sns ∧
    (Part.mirrorReset mirror p).2.frees = p.frees := by
  simp only [Part.mirrorReset]
  (repeat' split) <;> simp

@[simp] theorem Part.mirrorProbe_keeps (mirror : Byte) (ref : OrderRef) (p : Part) :
    (Part.mirrorProbe mirror ref p).2.geo = p.geo ∧ (Part.mirrorProbe mirror ref p).2.links = p.links ∧
    (Part.mirrorProbe mirror ref p).2.fra = p.fra ∧ (Part.mirrorProbe mirror ref p).2.scn = p.scn ∧
    (Part.mirrorProbe mirror ref p).2.rca = p.rca ∧ (Part.mirrorProbe mirror ref p).2.mxs = p.mxs ∧
    (Part.mirrorProbe mirror ref p).2.lpc = p.lpc ∧ (Part.mirrorProbe mirror ref p).2.xu = p.xu ∧
    (Part.mirrorProbe mirror ref p).2.tel = p.tel ∧ (Part.mirrorProbe mirror ref p).2.sns = p.sns ∧
    (Part.mirrorProbe mirror ref p).2.tlu = p.tlu ∧ (Part.mirrorProbe mirror ref p).2.issued = p.issued ∧
    (Part.mirrorProbe mirror ref p).2.frees = p.frees := by
  simp only [Part.mirrorProbe]
  (repeat' split) <;> simp

@[simp] theorem Part.dropRecord_keeps (p : Part) :
    (Part.dropRecord p).geo = p.geo ∧ (Part.dropRecord p).links = p.links ∧ (Part.dropRecord p).fra = p.fra ∧
    (Part.dropRecord p).scn = p.scn ∧ (Part.dropRecord p).rca = p.rca ∧ (Part.dropRecord p).mxs = p.mxs ∧
    (Part.dropRecord p).lpc = p.lpc ∧ (Part.dropRecord p).mlt = p.mlt ∧ (Part.dropRecord p).xu = p.xu ∧
    (Part.dropRecord p).sns = p.sns ∧ (Part.dropRecord p).frees = p.frees := by
  simp [Part.dropRecord]

@[simp] theorem Part.writeRecord_keeps (r : TelRecord) (p : Part) :
    (Part.writeRecord r p).geo = p.geo ∧ (Part.writeRecord r p).links = p.links ∧
    (Part.writeRecord r p).fra = p.fra ∧ (Part.writeRecord r p).scn = p.scn ∧
    (Part.writeRecord r p).rca = p.rca ∧ (Part.writeRecord r p).mxs = p.mxs ∧
    (Part.writeRecord r p).lpc = p.lpc ∧ (Part.writeRecord r p).mlt = p.mlt ∧
    (Part.writeRecord r p).xu = p.xu ∧ (Part.writeRecord r p).sns = p.sns ∧
    (Part.writeRecord r p).frees = p.frees := by
  simp [Part.writeRecord]

@[simp] theorem Part.writePoint_keeps (r : TelRecord) (p : Part) :
    (Part.writePoint r p).geo = p.geo ∧ (Part.writePoint r p).links = p.links ∧
    (Part.writePoint r p).fra = p.fra ∧ (Part.writePoint r p).scn = p.scn ∧ (Part.writePoint r p).rca = p.rca ∧
    (Part.writePoint r p).mxs = p.mxs ∧ (Part.writePoint r p).lpc = p.lpc ∧ (Part.writePoint r p).mlt = p.mlt ∧
    (Part.writePoint r p).xu = p.xu ∧ (Part.writePoint r p).sns = p.sns ∧
    (Part.writePoint r p).frees = p.frees := by
  simp only [Part.writePoint]
  (repeat' split) <;> simp

@[simp] theorem Part.releaseRecords_keeps (n : Nat) (p : Part) :
    (Part.releaseRecords n p).geo = p.geo ∧ (Part.releaseRecords n p).links = p.links ∧
    (Part.releaseRecords n p).fra = p.fra ∧ (Part.releaseRecords n p).scn = p.scn ∧
    (Part.releaseRecords n p).rca = p.rca ∧ (Part.releaseRecords n p).mxs = p.mxs ∧
    (Part.releaseRecords n p).lpc = p.lpc ∧ (Part.releaseRecords n p).mlt = p.mlt ∧
    (Part.releaseRecords n p).xu = p.xu ∧ (Part.releaseRecords n p).sns = p.sns ∧
    (Part.releaseRecords n p).frees = p.frees := by
  induction n generalizing p with
  | zero => simp [Part.releaseRecords]
  | succ n ih =>
    simp only [Part.releaseRecords]
    (repeat' split) <;> simp [ih]

@[simp] theorem Part.submitRecord_keeps (r : TelRecord) (p : Part) :
    (Part.submitRecord r p).geo = p.geo ∧ (Part.submitRecord r p).links = p.links ∧
    (Part.submitRecord r p).fra = p.fra ∧ (Part.submitRecord r p).scn = p.scn ∧
    (Part.submitRecord r p).rca = p.rca ∧ (Part.submitRecord r p).mxs = p.mxs ∧
    (Part.submitRecord r p).lpc = p.lpc ∧ (Part.submitRecord r p).mlt = p.mlt ∧
    (Part.submitRecord r p).xu = p.xu ∧ (Part.submitRecord r p).sns = p.sns ∧
    (Part.submitRecord r p).frees = p.frees := by
  simp only [Part.submitRecord]
  (repeat' split) <;> simp

@[simp] theorem Part.placeRing_keeps (addr : BitVec 64) (capacity : Nat) (p : Part) :
    (Part.placeRing addr capacity p).geo = p.geo ∧ (Part.placeRing addr capacity p).links = p.links ∧
    (Part.placeRing addr capacity p).fra = p.fra ∧ (Part.placeRing addr capacity p).scn = p.scn ∧
    (Part.placeRing addr capacity p).rca = p.rca ∧ (Part.placeRing addr capacity p).mxs = p.mxs ∧
    (Part.placeRing addr capacity p).lpc = p.lpc ∧ (Part.placeRing addr capacity p).mlt = p.mlt ∧
    (Part.placeRing addr capacity p).xu = p.xu ∧ (Part.placeRing addr capacity p).sns = p.sns ∧
    (Part.placeRing addr capacity p).frees = p.frees := by
  simp [Part.placeRing]

@[simp] theorem Part.setTelemetry_keeps (ring : BitVec 64) (capacity : BitVec 32) (p : Part) :
    (Part.setTelemetry ring capacity p).2.geo = p.geo ∧ (Part.setTelemetry ring capacity p).2.links = p.links ∧
    (Part.setTelemetry ring capacity p).2.fra = p.fra ∧ (Part.setTelemetry ring capacity p).2.scn = p.scn ∧
    (Part.setTelemetry ring capacity p).2.rca = p.rca ∧ (Part.setTelemetry ring capacity p).2.mxs = p.mxs ∧
    (Part.setTelemetry ring capacity p).2.lpc = p.lpc ∧ (Part.setTelemetry ring capacity p).2.mlt = p.mlt ∧
    (Part.setTelemetry ring capacity p).2.xu = p.xu ∧ (Part.setTelemetry ring capacity p).2.sns = p.sns ∧
    (Part.setTelemetry ring capacity p).2.frees = p.frees := by
  simp only [Part.setTelemetry]
  (repeat' split) <;> simp

@[simp] theorem Part.requestCapture_keeps (p : Part) :
    (Part.requestCapture p).geo = p.geo ∧ (Part.requestCapture p).links = p.links ∧
    (Part.requestCapture p).fra = p.fra ∧ (Part.requestCapture p).scn = p.scn ∧
    (Part.requestCapture p).rca = p.rca ∧ (Part.requestCapture p).mxs = p.mxs ∧
    (Part.requestCapture p).lpc = p.lpc ∧ (Part.requestCapture p).mlt = p.mlt ∧
    (Part.requestCapture p).xu = p.xu ∧ (Part.requestCapture p).tel = p.tel ∧
    (Part.requestCapture p).tlu = p.tlu ∧ (Part.requestCapture p).issued = p.issued ∧
    (Part.requestCapture p).frees = p.frees := by
  simp [Part.requestCapture]

@[simp] theorem Part.captureOrder_keeps (p : Part) :
    (Part.captureOrder p).2.geo = p.geo ∧ (Part.captureOrder p).2.links = p.links ∧
    (Part.captureOrder p).2.fra = p.fra ∧ (Part.captureOrder p).2.scn = p.scn ∧
    (Part.captureOrder p).2.rca = p.rca ∧ (Part.captureOrder p).2.mxs = p.mxs ∧
    (Part.captureOrder p).2.lpc = p.lpc ∧ (Part.captureOrder p).2.mlt = p.mlt ∧
    (Part.captureOrder p).2.xu = p.xu ∧ (Part.captureOrder p).2.tel = p.tel ∧
    (Part.captureOrder p).2.tlu = p.tlu ∧ (Part.captureOrder p).2.issued = p.issued ∧
    (Part.captureOrder p).2.frees = p.frees := by
  simp [Part.captureOrder]

@[simp] theorem Part.fillSnapshot_keeps (i : SlotIx) (g : Geometry) (ramp : Bool) (p : Part) :
    (Part.fillSnapshot i g ramp p).geo = p.geo ∧ (Part.fillSnapshot i g ramp p).links = p.links ∧
    (Part.fillSnapshot i g ramp p).fra = p.fra ∧ (Part.fillSnapshot i g ramp p).scn = p.scn ∧
    (Part.fillSnapshot i g ramp p).rca = p.rca ∧ (Part.fillSnapshot i g ramp p).mxs = p.mxs ∧
    (Part.fillSnapshot i g ramp p).lpc = p.lpc ∧ (Part.fillSnapshot i g ramp p).mlt = p.mlt ∧
    (Part.fillSnapshot i g ramp p).xu = p.xu ∧ (Part.fillSnapshot i g ramp p).tel = p.tel ∧
    (Part.fillSnapshot i g ramp p).tlu = p.tlu ∧ (Part.fillSnapshot i g ramp p).issued = p.issued ∧
    (Part.fillSnapshot i g ramp p).frees = p.frees := by
  simp only [Part.fillSnapshot]
  (repeat' split) <;> simp

@[simp] theorem Part.makeActive_keeps (target : BankIx) (p : Part) :
    (Part.makeActive target p).geo = p.geo ∧ (Part.makeActive target p).links = p.links ∧
    (Part.makeActive target p).scn = p.scn ∧ (Part.makeActive target p).rca = p.rca ∧
    (Part.makeActive target p).lpc = p.lpc ∧ (Part.makeActive target p).mlt = p.mlt ∧
    (Part.makeActive target p).xu = p.xu ∧ (Part.makeActive target p).tel = p.tel ∧
    (Part.makeActive target p).sns = p.sns ∧ (Part.makeActive target p).tlu = p.tlu ∧
    (Part.makeActive target p).issued = p.issued ∧ (Part.makeActive target p).frees = p.frees := by
  simp [Part.makeActive]

@[simp] theorem Part.dropSwap_keeps (p : Part) :
    (Part.dropSwap p).geo = p.geo ∧ (Part.dropSwap p).links = p.links ∧ (Part.dropSwap p).fra = p.fra ∧
    (Part.dropSwap p).scn = p.scn ∧ (Part.dropSwap p).rca = p.rca ∧ (Part.dropSwap p).lpc = p.lpc ∧
    (Part.dropSwap p).mlt = p.mlt ∧ (Part.dropSwap p).xu = p.xu ∧ (Part.dropSwap p).tel = p.tel ∧
    (Part.dropSwap p).sns = p.sns ∧ (Part.dropSwap p).tlu = p.tlu ∧ (Part.dropSwap p).issued = p.issued ∧
    (Part.dropSwap p).frees = p.frees := by
  simp [Part.dropSwap]

@[simp] theorem Part.cancelSwap_keeps (r : Reason) (p : Part) :
    (Part.cancelSwap r p).geo = p.geo ∧ (Part.cancelSwap r p).links = p.links ∧
    (Part.cancelSwap r p).fra = p.fra ∧ (Part.cancelSwap r p).scn = p.scn ∧ (Part.cancelSwap r p).rca = p.rca ∧
    (Part.cancelSwap r p).lpc = p.lpc ∧ (Part.cancelSwap r p).mlt = p.mlt ∧ (Part.cancelSwap r p).xu = p.xu ∧
    (Part.cancelSwap r p).tel = p.tel ∧ (Part.cancelSwap r p).sns = p.sns ∧
    (Part.cancelSwap r p).frees = p.frees := by
  simp only [Part.cancelSwap]
  (repeat' split) <;> simp

@[simp] theorem Part.swapAtOpen_keeps (p : Part) :
    (Part.swapAtOpen p).geo = p.geo ∧ (Part.swapAtOpen p).links = p.links ∧ (Part.swapAtOpen p).scn = p.scn ∧
    (Part.swapAtOpen p).rca = p.rca ∧ (Part.swapAtOpen p).lpc = p.lpc ∧ (Part.swapAtOpen p).mlt = p.mlt ∧
    (Part.swapAtOpen p).xu = p.xu ∧ (Part.swapAtOpen p).tel = p.tel ∧ (Part.swapAtOpen p).sns = p.sns ∧
    (Part.swapAtOpen p).frees = p.frees := by
  simp only [Part.swapAtOpen]
  (repeat' split) <;> simp

@[simp] theorem Part.swapMatrix_keeps (target : Byte) (ref : OrderRef) (p : Part) :
    (Part.swapMatrix target ref p).2.geo = p.geo ∧ (Part.swapMatrix target ref p).2.links = p.links ∧
    (Part.swapMatrix target ref p).2.scn = p.scn ∧ (Part.swapMatrix target ref p).2.rca = p.rca ∧
    (Part.swapMatrix target ref p).2.lpc = p.lpc ∧ (Part.swapMatrix target ref p).2.mlt = p.mlt ∧
    (Part.swapMatrix target ref p).2.xu = p.xu ∧ (Part.swapMatrix target ref p).2.tel = p.tel ∧
    (Part.swapMatrix target ref p).2.sns = p.sns ∧ (Part.swapMatrix target ref p).2.tlu = p.tlu ∧
    (Part.swapMatrix target ref p).2.issued = p.issued ∧ (Part.swapMatrix target ref p).2.frees = p.frees := by
  simp only [Part.swapMatrix]
  (repeat' split) <;> simp

@[simp] theorem Part.setStore_keeps (pairMode : Byte) (p : Part) :
    (Part.setStore pairMode p).2.geo = p.geo ∧ (Part.setStore pairMode p).2.links = p.links ∧
    (Part.setStore pairMode p).2.fra = p.fra ∧ (Part.setStore pairMode p).2.scn = p.scn ∧
    (Part.setStore pairMode p).2.rca = p.rca ∧ (Part.setStore pairMode p).2.lpc = p.lpc ∧
    (Part.setStore pairMode p).2.mlt = p.mlt ∧ (Part.setStore pairMode p).2.xu = p.xu ∧
    (Part.setStore pairMode p).2.tel = p.tel ∧ (Part.setStore pairMode p).2.sns = p.sns ∧
    (Part.setStore pairMode p).2.tlu = p.tlu ∧ (Part.setStore pairMode p).2.issued = p.issued ∧
    (Part.setStore pairMode p).2.frees = p.frees := by
  simp only [Part.setStore]
  (repeat' split) <;> simp

@[simp] theorem Part.grantStream_keeps (p : Part) :
    (Part.grantStream p).geo = p.geo ∧ (Part.grantStream p).links = p.links ∧
    (Part.grantStream p).fra = p.fra ∧ (Part.grantStream p).scn = p.scn ∧ (Part.grantStream p).lpc = p.lpc ∧
    (Part.grantStream p).mlt = p.mlt ∧ (Part.grantStream p).xu = p.xu ∧ (Part.grantStream p).tel = p.tel ∧
    (Part.grantStream p).sns = p.sns ∧ (Part.grantStream p).tlu = p.tlu ∧
    (Part.grantStream p).issued = p.issued ∧ (Part.grantStream p).frees = p.frees := by
  simp only [Part.grantStream]
  (repeat' split) <;> simp

@[simp] theorem Part.grantLoader_keeps (p : Part) :
    (Part.grantLoader p).geo = p.geo ∧ (Part.grantLoader p).links = p.links ∧
    (Part.grantLoader p).fra = p.fra ∧ (Part.grantLoader p).scn = p.scn ∧ (Part.grantLoader p).rca = p.rca ∧
    (Part.grantLoader p).lpc = p.lpc ∧ (Part.grantLoader p).mlt = p.mlt ∧ (Part.grantLoader p).xu = p.xu ∧
    (Part.grantLoader p).tel = p.tel ∧ (Part.grantLoader p).sns = p.sns ∧ (Part.grantLoader p).tlu = p.tlu ∧
    (Part.grantLoader p).issued = p.issued ∧ (Part.grantLoader p).frees = p.frees := by
  simp only [Part.grantLoader]
  (repeat' split) <;> simp

@[simp] theorem Part.grantReader_keeps (p : Part) :
    (Part.grantReader p).geo = p.geo ∧ (Part.grantReader p).links = p.links ∧
    (Part.grantReader p).fra = p.fra ∧ (Part.grantReader p).scn = p.scn ∧ (Part.grantReader p).rca = p.rca ∧
    (Part.grantReader p).lpc = p.lpc ∧ (Part.grantReader p).mlt = p.mlt ∧ (Part.grantReader p).xu = p.xu ∧
    (Part.grantReader p).tel = p.tel ∧ (Part.grantReader p).sns = p.sns ∧ (Part.grantReader p).tlu = p.tlu ∧
    (Part.grantReader p).issued = p.issued ∧ (Part.grantReader p).frees = p.frees := by
  simp only [Part.grantReader]
  (repeat' split) <;> simp

@[simp] theorem Part.grantTo_keeps (r : Requester) (p : Part) :
    (Part.grantTo r p).geo = p.geo ∧ (Part.grantTo r p).links = p.links ∧ (Part.grantTo r p).fra = p.fra ∧
    (Part.grantTo r p).scn = p.scn ∧ (Part.grantTo r p).lpc = p.lpc ∧ (Part.grantTo r p).mlt = p.mlt ∧
    (Part.grantTo r p).xu = p.xu ∧ (Part.grantTo r p).tel = p.tel ∧ (Part.grantTo r p).sns = p.sns ∧
    (Part.grantTo r p).tlu = p.tlu ∧ (Part.grantTo r p).issued = p.issued ∧
    (Part.grantTo r p).frees = p.frees := by
  simp only [Part.grantTo]
  (repeat' split) <;> simp

@[simp] theorem Part.arbiterGrant_keeps (p : Part) :
    (Part.arbiterGrant p).geo = p.geo ∧ (Part.arbiterGrant p).links = p.links ∧
    (Part.arbiterGrant p).fra = p.fra ∧ (Part.arbiterGrant p).scn = p.scn ∧ (Part.arbiterGrant p).lpc = p.lpc ∧
    (Part.arbiterGrant p).mlt = p.mlt ∧ (Part.arbiterGrant p).xu = p.xu ∧ (Part.arbiterGrant p).tel = p.tel ∧
    (Part.arbiterGrant p).sns = p.sns ∧ (Part.arbiterGrant p).tlu = p.tlu ∧
    (Part.arbiterGrant p).issued = p.issued ∧ (Part.arbiterGrant p).frees = p.frees := by
  simp only [Part.arbiterGrant]
  (repeat' split) <;> simp

@[simp] theorem Part.addBurst_keeps (slot : SlotIx) (slope : Nat) (value : BitVec 16) (bank : BankIx) (first count : Nat) (p : Part) :
    (Part.addBurst slot slope value bank first count p).geo = p.geo ∧
    (Part.addBurst slot slope value bank first count p).links = p.links ∧
    (Part.addBurst slot slope value bank first count p).fra = p.fra ∧
    (Part.addBurst slot slope value bank first count p).scn = p.scn ∧
    (Part.addBurst slot slope value bank first count p).mxs = p.mxs ∧
    (Part.addBurst slot slope value bank first count p).lpc = p.lpc ∧
    (Part.addBurst slot slope value bank first count p).mlt = p.mlt ∧
    (Part.addBurst slot slope value bank first count p).xu = p.xu ∧
    (Part.addBurst slot slope value bank first count p).tel = p.tel ∧
    (Part.addBurst slot slope value bank first count p).sns = p.sns ∧
    (Part.addBurst slot slope value bank first count p).tlu = p.tlu ∧
    (Part.addBurst slot slope value bank first count p).issued = p.issued ∧
    (Part.addBurst slot slope value bank first count p).frees = p.frees := by
  simp [Part.addBurst]

@[simp] theorem Part.burstArrived_keeps (slot : SlotIx) (slope : Nat) (p : Part) :
    (Part.burstArrived slot slope p).geo = p.geo ∧ (Part.burstArrived slot slope p).links = p.links ∧
    (Part.burstArrived slot slope p).fra = p.fra ∧ (Part.burstArrived slot slope p).scn = p.scn ∧
    (Part.burstArrived slot slope p).mxs = p.mxs ∧ (Part.burstArrived slot slope p).lpc = p.lpc ∧
    (Part.burstArrived slot slope p).mlt = p.mlt ∧ (Part.burstArrived slot slope p).xu = p.xu ∧
    (Part.burstArrived slot slope p).tel = p.tel ∧ (Part.burstArrived slot slope p).sns = p.sns ∧
    (Part.burstArrived slot slope p).tlu = p.tlu ∧ (Part.burstArrived slot slope p).issued = p.issued ∧
    (Part.burstArrived slot slope p).frees = p.frees := by
  simp [Part.burstArrived]

@[simp] theorem Part.clearAccumulators_keeps (i : SlotIx) (p : Part) :
    (Part.clearAccumulators i p).geo = p.geo ∧ (Part.clearAccumulators i p).links = p.links ∧
    (Part.clearAccumulators i p).fra = p.fra ∧ (Part.clearAccumulators i p).scn = p.scn ∧
    (Part.clearAccumulators i p).mxs = p.mxs ∧ (Part.clearAccumulators i p).lpc = p.lpc ∧
    (Part.clearAccumulators i p).mlt = p.mlt ∧ (Part.clearAccumulators i p).xu = p.xu ∧
    (Part.clearAccumulators i p).tel = p.tel ∧ (Part.clearAccumulators i p).sns = p.sns ∧
    (Part.clearAccumulators i p).tlu = p.tlu ∧ (Part.clearAccumulators i p).issued = p.issued ∧
    (Part.clearAccumulators i p).frees = p.frees := by
  simp [Part.clearAccumulators]

@[simp] theorem Part.extract_keeps (i : SlotIx) (p : Part) :
    (Part.extract i p).geo = p.geo ∧ (Part.extract i p).links = p.links ∧ (Part.extract i p).fra = p.fra ∧
    (Part.extract i p).scn = p.scn ∧ (Part.extract i p).mxs = p.mxs ∧ (Part.extract i p).lpc = p.lpc ∧
    (Part.extract i p).mlt = p.mlt ∧ (Part.extract i p).xu = p.xu ∧ (Part.extract i p).tel = p.tel ∧
    (Part.extract i p).sns = p.sns ∧ (Part.extract i p).tlu = p.tlu ∧ (Part.extract i p).issued = p.issued ∧
    (Part.extract i p).frees = p.frees := by
  simp [Part.extract]

@[simp] theorem Part.beginExtraction_keeps (i : SlotIx) (p : Part) :
    (Part.beginExtraction i p).geo = p.geo ∧ (Part.beginExtraction i p).links = p.links ∧
    (Part.beginExtraction i p).fra = p.fra ∧ (Part.beginExtraction i p).scn = p.scn ∧
    (Part.beginExtraction i p).mxs = p.mxs ∧ (Part.beginExtraction i p).lpc = p.lpc ∧
    (Part.beginExtraction i p).mlt = p.mlt ∧ (Part.beginExtraction i p).xu = p.xu ∧
    (Part.beginExtraction i p).tel = p.tel ∧ (Part.beginExtraction i p).sns = p.sns ∧
    (Part.beginExtraction i p).tlu = p.tlu ∧ (Part.beginExtraction i p).issued = p.issued ∧
    (Part.beginExtraction i p).frees = p.frees := by
  simp [Part.beginExtraction]

@[simp] theorem Part.endExtraction_keeps (i : SlotIx) (p : Part) :
    (Part.endExtraction i p).geo = p.geo ∧ (Part.endExtraction i p).links = p.links ∧
    (Part.endExtraction i p).scn = p.scn ∧ (Part.endExtraction i p).mxs = p.mxs ∧
    (Part.endExtraction i p).lpc = p.lpc ∧ (Part.endExtraction i p).mlt = p.mlt ∧
    (Part.endExtraction i p).xu = p.xu ∧ (Part.endExtraction i p).tel = p.tel ∧
    (Part.endExtraction i p).sns = p.sns ∧ (Part.endExtraction i p).tlu = p.tlu ∧
    (Part.endExtraction i p).issued = p.issued ∧ (Part.endExtraction i p).frees = p.frees := by
  simp [Part.endExtraction]

@[simp] theorem Part.extractionEnd_keeps (p : Part) :
    (Part.extractionEnd p).geo = p.geo ∧ (Part.extractionEnd p).links = p.links ∧
    (Part.extractionEnd p).scn = p.scn ∧ (Part.extractionEnd p).mxs = p.mxs ∧
    (Part.extractionEnd p).lpc = p.lpc ∧ (Part.extractionEnd p).mlt = p.mlt ∧
    (Part.extractionEnd p).xu = p.xu ∧ (Part.extractionEnd p).tel = p.tel ∧
    (Part.extractionEnd p).sns = p.sns ∧ (Part.extractionEnd p).tlu = p.tlu ∧
    (Part.extractionEnd p).issued = p.issued ∧ (Part.extractionEnd p).frees = p.frees := by
  simp only [Part.extractionEnd]
  (repeat' split) <;> simp

@[simp] theorem Part.discardReconstruction_keeps (i : SlotIx) (p : Part) :
    (Part.discardReconstruction i p).geo = p.geo ∧ (Part.discardReconstruction i p).links = p.links ∧
    (Part.discardReconstruction i p).fra = p.fra ∧ (Part.discardReconstruction i p).scn = p.scn ∧
    (Part.discardReconstruction i p).lpc = p.lpc ∧ (Part.discardReconstruction i p).mlt = p.mlt ∧
    (Part.discardReconstruction i p).xu = p.xu ∧ (Part.discardReconstruction i p).tel = p.tel ∧
    (Part.discardReconstruction i p).sns = p.sns ∧ (Part.discardReconstruction i p).tlu = p.tlu ∧
    (Part.discardReconstruction i p).issued = p.issued ∧ (Part.discardReconstruction i p).frees = p.frees := by
  simp [Part.discardReconstruction]

@[simp] theorem Part.commitReference_keeps (p : Part) :
    (Part.commitReference p).geo = p.geo ∧ (Part.commitReference p).links = p.links ∧
    (Part.commitReference p).fra = p.fra ∧ (Part.commitReference p).rca = p.rca ∧
    (Part.commitReference p).mxs = p.mxs ∧ (Part.commitReference p).lpc = p.lpc ∧
    (Part.commitReference p).mlt = p.mlt ∧ (Part.commitReference p).xu = p.xu ∧
    (Part.commitReference p).tel = p.tel ∧ (Part.commitReference p).sns = p.sns ∧
    (Part.commitReference p).tlu = p.tlu ∧ (Part.commitReference p).issued = p.issued ∧
    (Part.commitReference p).frees = p.frees := by
  simp [Part.commitReference]

@[simp] theorem Part.commitParameters_keeps (p : Part) :
    (Part.commitParameters p).geo = p.geo ∧ (Part.commitParameters p).links = p.links ∧
    (Part.commitParameters p).fra = p.fra ∧ (Part.commitParameters p).rca = p.rca ∧
    (Part.commitParameters p).mxs = p.mxs ∧ (Part.commitParameters p).lpc = p.lpc ∧
    (Part.commitParameters p).mlt = p.mlt ∧ (Part.commitParameters p).xu = p.xu ∧
    (Part.commitParameters p).tel = p.tel ∧ (Part.commitParameters p).sns = p.sns ∧
    (Part.commitParameters p).tlu = p.tlu ∧ (Part.commitParameters p).issued = p.issued ∧
    (Part.commitParameters p).frees = p.frees := by
  simp [Part.commitParameters]

@[simp] theorem Part.commitSlopeSide_keeps (p : Part) :
    (Part.commitSlopeSide p).geo = p.geo ∧ (Part.commitSlopeSide p).links = p.links ∧
    (Part.commitSlopeSide p).fra = p.fra ∧ (Part.commitSlopeSide p).rca = p.rca ∧
    (Part.commitSlopeSide p).mxs = p.mxs ∧ (Part.commitSlopeSide p).lpc = p.lpc ∧
    (Part.commitSlopeSide p).mlt = p.mlt ∧ (Part.commitSlopeSide p).xu = p.xu ∧
    (Part.commitSlopeSide p).tel = p.tel ∧ (Part.commitSlopeSide p).sns = p.sns ∧
    (Part.commitSlopeSide p).tlu = p.tlu ∧ (Part.commitSlopeSide p).issued = p.issued ∧
    (Part.commitSlopeSide p).frees = p.frees := by
  simp only [Part.commitSlopeSide]
  (repeat' split) <;> simp

@[simp] theorem Part.referenceWaits_keeps (p : Part) :
    (Part.referenceWaits p).geo = p.geo ∧ (Part.referenceWaits p).links = p.links ∧
    (Part.referenceWaits p).fra = p.fra ∧ (Part.referenceWaits p).rca = p.rca ∧
    (Part.referenceWaits p).mxs = p.mxs ∧ (Part.referenceWaits p).lpc = p.lpc ∧
    (Part.referenceWaits p).mlt = p.mlt ∧ (Part.referenceWaits p).xu = p.xu ∧
    (Part.referenceWaits p).tel = p.tel ∧ (Part.referenceWaits p).sns = p.sns ∧
    (Part.referenceWaits p).tlu = p.tlu ∧ (Part.referenceWaits p).issued = p.issued ∧
    (Part.referenceWaits p).frees = p.frees := by
  simp only [Part.referenceWaits]
  (repeat' split) <;> simp

@[simp] theorem Part.parametersWait_keeps (p : Part) :
    (Part.parametersWait p).geo = p.geo ∧ (Part.parametersWait p).links = p.links ∧
    (Part.parametersWait p).fra = p.fra ∧ (Part.parametersWait p).rca = p.rca ∧
    (Part.parametersWait p).mxs = p.mxs ∧ (Part.parametersWait p).lpc = p.lpc ∧
    (Part.parametersWait p).mlt = p.mlt ∧ (Part.parametersWait p).xu = p.xu ∧
    (Part.parametersWait p).tel = p.tel ∧ (Part.parametersWait p).sns = p.sns ∧
    (Part.parametersWait p).tlu = p.tlu ∧ (Part.parametersWait p).issued = p.issued ∧
    (Part.parametersWait p).frees = p.frees := by
  simp only [Part.parametersWait]
  (repeat' split) <;> simp

@[simp] theorem Part.writeParameter_keeps (i : LinkIx) (x : SensorParam) (p : Part) :
    (Part.writeParameter i x p).geo = p.geo ∧ (Part.writeParameter i x p).links = p.links ∧
    (Part.writeParameter i x p).fra = p.fra ∧ (Part.writeParameter i x p).rca = p.rca ∧
    (Part.writeParameter i x p).mxs = p.mxs ∧ (Part.writeParameter i x p).lpc = p.lpc ∧
    (Part.writeParameter i x p).mlt = p.mlt ∧ (Part.writeParameter i x p).xu = p.xu ∧
    (Part.writeParameter i x p).tel = p.tel ∧ (Part.writeParameter i x p).sns = p.sns ∧
    (Part.writeParameter i x p).tlu = p.tlu ∧ (Part.writeParameter i x p).issued = p.issued ∧
    (Part.writeParameter i x p).frees = p.frees := by
  simp [Part.writeParameter]

@[simp] theorem Part.startSubstitution_keeps (i : SlotIx) (p : Part) :
    (Part.startSubstitution i p).geo = p.geo ∧ (Part.startSubstitution i p).links = p.links ∧
    (Part.startSubstitution i p).fra = p.fra ∧ (Part.startSubstitution i p).mxs = p.mxs ∧
    (Part.startSubstitution i p).lpc = p.lpc ∧ (Part.startSubstitution i p).mlt = p.mlt ∧
    (Part.startSubstitution i p).xu = p.xu ∧ (Part.startSubstitution i p).tel = p.tel ∧
    (Part.startSubstitution i p).sns = p.sns ∧ (Part.startSubstitution i p).tlu = p.tlu ∧
    (Part.startSubstitution i p).issued = p.issued ∧ (Part.startSubstitution i p).frees = p.frees := by
  simp only [Part.startSubstitution]
  (repeat' split) <;> simp

@[simp] theorem Part.leaveQueue_keeps (p : Part) :
    (Part.leaveQueue p).geo = p.geo ∧ (Part.leaveQueue p).links = p.links ∧ (Part.leaveQueue p).mxs = p.mxs ∧
    (Part.leaveQueue p).lpc = p.lpc ∧ (Part.leaveQueue p).mlt = p.mlt ∧ (Part.leaveQueue p).xu = p.xu ∧
    (Part.leaveQueue p).tel = p.tel ∧ (Part.leaveQueue p).sns = p.sns ∧ (Part.leaveQueue p).tlu = p.tlu ∧
    (Part.leaveQueue p).issued = p.issued ∧ (Part.leaveQueue p).frees = p.frees := by
  simp only [Part.leaveQueue]
  (repeat' split) <;> simp

@[simp] theorem Part.entryEnd_keeps (p : Part) :
    (Part.entryEnd p).geo = p.geo ∧ (Part.entryEnd p).links = p.links ∧ (Part.entryEnd p).mxs = p.mxs ∧
    (Part.entryEnd p).lpc = p.lpc ∧ (Part.entryEnd p).mlt = p.mlt ∧ (Part.entryEnd p).xu = p.xu ∧
    (Part.entryEnd p).tel = p.tel ∧ (Part.entryEnd p).sns = p.sns ∧ (Part.entryEnd p).tlu = p.tlu ∧
    (Part.entryEnd p).issued = p.issued ∧ (Part.entryEnd p).frees = p.frees := by
  simp only [Part.entryEnd]
  (repeat' split) <;> simp

@[simp] theorem Part.processEntry_keeps (p : Part) :
    (Part.processEntry p).geo = p.geo ∧ (Part.processEntry p).links = p.links ∧
    (Part.processEntry p).mxs = p.mxs ∧ (Part.processEntry p).lpc = p.lpc ∧ (Part.processEntry p).mlt = p.mlt ∧
    (Part.processEntry p).xu = p.xu ∧ (Part.processEntry p).tel = p.tel ∧ (Part.processEntry p).sns = p.sns ∧
    (Part.processEntry p).tlu = p.tlu ∧ (Part.processEntry p).issued = p.issued ∧
    (Part.processEntry p).frees = p.frees := by
  simp only [Part.processEntry]
  (repeat' split) <;> simp

@[simp] theorem Part.streamValue_keeps (i : SlotIx) (j : Nat) (c : BitVec 16) (p : Part) :
    (Part.streamValue i j c p).geo = p.geo ∧ (Part.streamValue i j c p).links = p.links ∧
    (Part.streamValue i j c p).fra = p.fra ∧ (Part.streamValue i j c p).scn = p.scn ∧
    (Part.streamValue i j c p).mxs = p.mxs ∧ (Part.streamValue i j c p).lpc = p.lpc ∧
    (Part.streamValue i j c p).mlt = p.mlt ∧ (Part.streamValue i j c p).xu = p.xu ∧
    (Part.streamValue i j c p).tel = p.tel ∧ (Part.streamValue i j c p).sns = p.sns ∧
    (Part.streamValue i j c p).tlu = p.tlu ∧ (Part.streamValue i j c p).issued = p.issued ∧
    (Part.streamValue i j c p).frees = p.frees := by
  simp only [Part.streamValue]
  (repeat' split) <;> simp

@[simp] theorem Part.handOnValue_keeps (p : Part) :
    (Part.handOnValue p).geo = p.geo ∧ (Part.handOnValue p).links = p.links ∧
    (Part.handOnValue p).mxs = p.mxs ∧ (Part.handOnValue p).lpc = p.lpc ∧ (Part.handOnValue p).mlt = p.mlt ∧
    (Part.handOnValue p).xu = p.xu ∧ (Part.handOnValue p).tel = p.tel ∧ (Part.handOnValue p).sns = p.sns ∧
    (Part.handOnValue p).tlu = p.tlu ∧ (Part.handOnValue p).issued = p.issued ∧
    (Part.handOnValue p).frees = p.frees := by
  simp only [Part.handOnValue]
  (repeat' split) <;> simp

@[simp] theorem Part.columnBurstArrival_keeps (p : Part) :
    (Part.columnBurstArrival p).geo = p.geo ∧ (Part.columnBurstArrival p).links = p.links ∧
    (Part.columnBurstArrival p).lpc = p.lpc ∧ (Part.columnBurstArrival p).mlt = p.mlt ∧
    (Part.columnBurstArrival p).xu = p.xu ∧ (Part.columnBurstArrival p).tel = p.tel ∧
    (Part.columnBurstArrival p).sns = p.sns ∧ (Part.columnBurstArrival p).tlu = p.tlu ∧
    (Part.columnBurstArrival p).issued = p.issued ∧ (Part.columnBurstArrival p).frees = p.frees := by
  simp only [Part.columnBurstArrival]
  (repeat' split) <;> simp

@[simp] theorem Part.substitutionEnd_keeps (p : Part) :
    (Part.substitutionEnd p).geo = p.geo ∧ (Part.substitutionEnd p).links = p.links ∧
    (Part.substitutionEnd p).fra = p.fra ∧ (Part.substitutionEnd p).mxs = p.mxs ∧
    (Part.substitutionEnd p).lpc = p.lpc ∧ (Part.substitutionEnd p).mlt = p.mlt ∧
    (Part.substitutionEnd p).xu = p.xu ∧ (Part.substitutionEnd p).tel = p.tel ∧
    (Part.substitutionEnd p).sns = p.sns ∧ (Part.substitutionEnd p).tlu = p.tlu ∧
    (Part.substitutionEnd p).issued = p.issued ∧ (Part.substitutionEnd p).frees = p.frees := by
  simp only [Part.substitutionEnd]
  (repeat' split) <;> simp

@[simp] theorem Part.discardConditioning_keeps (i : SlotIx) (p : Part) :
    (Part.discardConditioning i p).geo = p.geo ∧ (Part.discardConditioning i p).links = p.links ∧
    (Part.discardConditioning i p).fra = p.fra ∧ (Part.discardConditioning i p).rca = p.rca ∧
    (Part.discardConditioning i p).mxs = p.mxs ∧ (Part.discardConditioning i p).lpc = p.lpc ∧
    (Part.discardConditioning i p).mlt = p.mlt ∧ (Part.discardConditioning i p).xu = p.xu ∧
    (Part.discardConditioning i p).tel = p.tel ∧ (Part.discardConditioning i p).sns = p.sns ∧
    (Part.discardConditioning i p).tlu = p.tlu ∧ (Part.discardConditioning i p).issued = p.issued ∧
    (Part.discardConditioning i p).frees = p.frees := by
  simp [Part.discardConditioning]

@[simp] theorem Part.markSealing_keeps (i : SlotIx) (p : Part) :
    (Part.markSealing i p).geo = p.geo ∧ (Part.markSealing i p).links = p.links ∧
    (Part.markSealing i p).scn = p.scn ∧ (Part.markSealing i p).rca = p.rca ∧
    (Part.markSealing i p).mxs = p.mxs ∧ (Part.markSealing i p).lpc = p.lpc ∧
    (Part.markSealing i p).mlt = p.mlt ∧ (Part.markSealing i p).xu = p.xu ∧
    (Part.markSealing i p).tel = p.tel ∧ (Part.markSealing i p).sns = p.sns ∧
    (Part.markSealing i p).tlu = p.tlu ∧ (Part.markSealing i p).issued = p.issued ∧
    (Part.markSealing i p).frees = p.frees := by
  simp [Part.markSealing]

@[simp] theorem Part.sealCause_keeps (i : SlotIx) (p : Part) :
    (Part.sealCause i p).geo = p.geo ∧ (Part.sealCause i p).links = p.links ∧
    (Part.sealCause i p).scn = p.scn ∧ (Part.sealCause i p).rca = p.rca ∧ (Part.sealCause i p).mxs = p.mxs ∧
    (Part.sealCause i p).lpc = p.lpc ∧ (Part.sealCause i p).mlt = p.mlt ∧ (Part.sealCause i p).xu = p.xu ∧
    (Part.sealCause i p).tel = p.tel ∧ (Part.sealCause i p).sns = p.sns ∧ (Part.sealCause i p).tlu = p.tlu ∧
    (Part.sealCause i p).issued = p.issued ∧ (Part.sealCause i p).frees = p.frees := by
  simp only [Part.sealCause]
  (repeat' split) <;> simp

@[simp] theorem Part.countLate_keeps (s : LinkIx) (p : Part) :
    (Part.countLate s p).geo = p.geo ∧ (Part.countLate s p).fra = p.fra ∧ (Part.countLate s p).scn = p.scn ∧
    (Part.countLate s p).rca = p.rca ∧ (Part.countLate s p).mxs = p.mxs ∧ (Part.countLate s p).lpc = p.lpc ∧
    (Part.countLate s p).mlt = p.mlt ∧ (Part.countLate s p).xu = p.xu ∧ (Part.countLate s p).tel = p.tel ∧
    (Part.countLate s p).sns = p.sns ∧ (Part.countLate s p).tlu = p.tlu ∧
    (Part.countLate s p).issued = p.issued ∧ (Part.countLate s p).frees = p.frees := by
  simp [Part.countLate]

@[simp] theorem Part.countDuplicate_keeps (s : LinkIx) (p : Part) :
    (Part.countDuplicate s p).geo = p.geo ∧ (Part.countDuplicate s p).fra = p.fra ∧
    (Part.countDuplicate s p).scn = p.scn ∧ (Part.countDuplicate s p).rca = p.rca ∧
    (Part.countDuplicate s p).mxs = p.mxs ∧ (Part.countDuplicate s p).lpc = p.lpc ∧
    (Part.countDuplicate s p).mlt = p.mlt ∧ (Part.countDuplicate s p).xu = p.xu ∧
    (Part.countDuplicate s p).tel = p.tel ∧ (Part.countDuplicate s p).sns = p.sns ∧
    (Part.countDuplicate s p).tlu = p.tlu ∧ (Part.countDuplicate s p).issued = p.issued ∧
    (Part.countDuplicate s p).frees = p.frees := by
  simp [Part.countDuplicate]

@[simp] theorem Part.countNoSlot_keeps (s : LinkIx) (p : Part) :
    (Part.countNoSlot s p).geo = p.geo ∧ (Part.countNoSlot s p).fra = p.fra ∧
    (Part.countNoSlot s p).scn = p.scn ∧ (Part.countNoSlot s p).rca = p.rca ∧
    (Part.countNoSlot s p).mxs = p.mxs ∧ (Part.countNoSlot s p).lpc = p.lpc ∧
    (Part.countNoSlot s p).mlt = p.mlt ∧ (Part.countNoSlot s p).xu = p.xu ∧
    (Part.countNoSlot s p).tel = p.tel ∧ (Part.countNoSlot s p).sns = p.sns ∧
    (Part.countNoSlot s p).tlu = p.tlu ∧ (Part.countNoSlot s p).issued = p.issued ∧
    (Part.countNoSlot s p).frees = p.frees := by
  simp [Part.countNoSlot]

@[simp] theorem Part.enqueue_keeps (i : SlotIx) (seg : Segment) (p : Part) :
    (Part.enqueue i seg p).geo = p.geo ∧ (Part.enqueue i seg p).links = p.links ∧
    (Part.enqueue i seg p).scn = p.scn ∧ (Part.enqueue i seg p).rca = p.rca ∧
    (Part.enqueue i seg p).mxs = p.mxs ∧ (Part.enqueue i seg p).lpc = p.lpc ∧
    (Part.enqueue i seg p).mlt = p.mlt ∧ (Part.enqueue i seg p).xu = p.xu ∧
    (Part.enqueue i seg p).tel = p.tel ∧ (Part.enqueue i seg p).sns = p.sns ∧
    (Part.enqueue i seg p).tlu = p.tlu ∧ (Part.enqueue i seg p).issued = p.issued ∧
    (Part.enqueue i seg p).frees = p.frees := by
  simp [Part.enqueue]

@[simp] theorem Part.judgeComplete_keeps (i : SlotIx) (p : Part) :
    (Part.judgeComplete i p).geo = p.geo ∧ (Part.judgeComplete i p).links = p.links ∧
    (Part.judgeComplete i p).scn = p.scn ∧ (Part.judgeComplete i p).rca = p.rca ∧
    (Part.judgeComplete i p).mxs = p.mxs ∧ (Part.judgeComplete i p).lpc = p.lpc ∧
    (Part.judgeComplete i p).mlt = p.mlt ∧ (Part.judgeComplete i p).xu = p.xu ∧
    (Part.judgeComplete i p).tel = p.tel ∧ (Part.judgeComplete i p).sns = p.sns ∧
    (Part.judgeComplete i p).tlu = p.tlu ∧ (Part.judgeComplete i p).issued = p.issued ∧
    (Part.judgeComplete i p).frees = p.frees := by
  simp only [Part.judgeComplete]
  (repeat' split) <;> simp

@[simp] theorem Part.admitTo_keeps (i : SlotIx) (seg : Segment) (p : Part) :
    (Part.admitTo i seg p).geo = p.geo ∧ (Part.admitTo i seg p).scn = p.scn ∧
    (Part.admitTo i seg p).rca = p.rca ∧ (Part.admitTo i seg p).mxs = p.mxs ∧
    (Part.admitTo i seg p).lpc = p.lpc ∧ (Part.admitTo i seg p).mlt = p.mlt ∧
    (Part.admitTo i seg p).xu = p.xu ∧ (Part.admitTo i seg p).tel = p.tel ∧
    (Part.admitTo i seg p).sns = p.sns ∧ (Part.admitTo i seg p).tlu = p.tlu ∧
    (Part.admitTo i seg p).issued = p.issued ∧ (Part.admitTo i seg p).frees = p.frees := by
  simp only [Part.admitTo]
  (repeat' split) <;> simp

@[simp] theorem Part.openCommits_keeps (i : SlotIx) (p : Part) :
    (Part.openCommits i p).geo = p.geo ∧ (Part.openCommits i p).links = p.links ∧
    (Part.openCommits i p).rca = p.rca ∧ (Part.openCommits i p).lpc = p.lpc ∧
    (Part.openCommits i p).mlt = p.mlt ∧ (Part.openCommits i p).xu = p.xu ∧
    (Part.openCommits i p).tel = p.tel ∧ (Part.openCommits i p).sns = p.sns ∧
    (Part.openCommits i p).frees = p.frees := by
  simp only [Part.openCommits]
  (repeat' split) <;> simp

@[simp] theorem Part.openFrame_keeps (i : SlotIx) (f : Serial) (p : Part) :
    (Part.openFrame i f p).geo = p.geo ∧ (Part.openFrame i f p).links = p.links ∧
    (Part.openFrame i f p).lpc = p.lpc ∧ (Part.openFrame i f p).mlt = p.mlt ∧
    (Part.openFrame i f p).xu = p.xu ∧ (Part.openFrame i f p).tel = p.tel ∧
    (Part.openFrame i f p).sns = p.sns ∧ (Part.openFrame i f p).frees = p.frees := by
  simp [Part.openFrame]

@[simp] theorem Part.admitNew_keeps (seg : Segment) (p : Part) :
    (Part.admitNew seg p).geo = p.geo ∧ (Part.admitNew seg p).lpc = p.lpc ∧ (Part.admitNew seg p).mlt = p.mlt ∧
    (Part.admitNew seg p).xu = p.xu ∧ (Part.admitNew seg p).tel = p.tel ∧ (Part.admitNew seg p).sns = p.sns ∧
    (Part.admitNew seg p).frees = p.frees := by
  simp only [Part.admitNew]
  (repeat' split) <;> simp

@[simp] theorem Part.placeSegment_keeps (seg : Segment) (p : Part) :
    (Part.placeSegment seg p).geo = p.geo ∧ (Part.placeSegment seg p).lpc = p.lpc ∧
    (Part.placeSegment seg p).mlt = p.mlt ∧ (Part.placeSegment seg p).xu = p.xu ∧
    (Part.placeSegment seg p).tel = p.tel ∧ (Part.placeSegment seg p).sns = p.sns ∧
    (Part.placeSegment seg p).frees = p.frees := by
  simp only [Part.placeSegment]
  (repeat' split) <;> simp

@[simp] theorem Part.takeHead_keeps (i : LinkIx) (p : Part) :
    (Part.takeHead i p).geo = p.geo ∧ (Part.takeHead i p).scn = p.scn ∧ (Part.takeHead i p).rca = p.rca ∧
    (Part.takeHead i p).mxs = p.mxs ∧ (Part.takeHead i p).lpc = p.lpc ∧ (Part.takeHead i p).mlt = p.mlt ∧
    (Part.takeHead i p).xu = p.xu ∧ (Part.takeHead i p).tel = p.tel ∧ (Part.takeHead i p).sns = p.sns ∧
    (Part.takeHead i p).tlu = p.tlu ∧ (Part.takeHead i p).issued = p.issued ∧
    (Part.takeHead i p).frees = p.frees := by
  simp [Part.takeHead]

@[simp] theorem Part.admitSegment_keeps (p : Part) :
    (Part.admitSegment p).geo = p.geo ∧ (Part.admitSegment p).lpc = p.lpc ∧ (Part.admitSegment p).mlt = p.mlt ∧
    (Part.admitSegment p).xu = p.xu ∧ (Part.admitSegment p).tel = p.tel ∧ (Part.admitSegment p).sns = p.sns ∧
    (Part.admitSegment p).frees = p.frees := by
  simp only [Part.admitSegment]
  (repeat' split) <;> simp

@[simp] theorem Part.deadlineExpiry_keeps (i : SlotIx) (p : Part) :
    (Part.deadlineExpiry i p).geo = p.geo ∧ (Part.deadlineExpiry i p).links = p.links ∧
    (Part.deadlineExpiry i p).scn = p.scn ∧ (Part.deadlineExpiry i p).rca = p.rca ∧
    (Part.deadlineExpiry i p).mxs = p.mxs ∧ (Part.deadlineExpiry i p).lpc = p.lpc ∧
    (Part.deadlineExpiry i p).mlt = p.mlt ∧ (Part.deadlineExpiry i p).xu = p.xu ∧
    (Part.deadlineExpiry i p).tel = p.tel ∧ (Part.deadlineExpiry i p).sns = p.sns ∧
    (Part.deadlineExpiry i p).issued = p.issued ∧ (Part.deadlineExpiry i p).frees = p.frees := by
  simp only [Part.deadlineExpiry]
  (repeat' split) <;> simp

@[simp] theorem Part.startGapTimer_keeps (p : Part) :
    (Part.startGapTimer p).geo = p.geo ∧ (Part.startGapTimer p).links = p.links ∧
    (Part.startGapTimer p).scn = p.scn ∧ (Part.startGapTimer p).rca = p.rca ∧
    (Part.startGapTimer p).mxs = p.mxs ∧ (Part.startGapTimer p).lpc = p.lpc ∧
    (Part.startGapTimer p).mlt = p.mlt ∧ (Part.startGapTimer p).xu = p.xu ∧
    (Part.startGapTimer p).tel = p.tel ∧ (Part.startGapTimer p).sns = p.sns ∧
    (Part.startGapTimer p).tlu = p.tlu ∧ (Part.startGapTimer p).issued = p.issued ∧
    (Part.startGapTimer p).frees = p.frees := by
  simp [Part.startGapTimer]

@[simp] theorem Part.countIncomplete_keeps (i : SlotIx) (p : Part) :
    (Part.countIncomplete i p).geo = p.geo ∧ (Part.countIncomplete i p).fra = p.fra ∧
    (Part.countIncomplete i p).scn = p.scn ∧ (Part.countIncomplete i p).rca = p.rca ∧
    (Part.countIncomplete i p).mxs = p.mxs ∧ (Part.countIncomplete i p).lpc = p.lpc ∧
    (Part.countIncomplete i p).mlt = p.mlt ∧ (Part.countIncomplete i p).xu = p.xu ∧
    (Part.countIncomplete i p).tel = p.tel ∧ (Part.countIncomplete i p).sns = p.sns ∧
    (Part.countIncomplete i p).tlu = p.tlu ∧ (Part.countIncomplete i p).issued = p.issued ∧
    (Part.countIncomplete i p).frees = p.frees := by
  refine ⟨?_, ?_, ?_, ?_, ?_, ?_, ?_, ?_, ?_, ?_, ?_, ?_, ?_⟩ <;>
    exact foldl_view _ _ (by intro q x; dsimp only; split <;> simp) _ _

@[simp] theorem Part.recordDecision_keeps (i : SlotIx) (kind : SealKind) (p : Part) :
    (Part.recordDecision i kind p).geo = p.geo ∧ (Part.recordDecision i kind p).scn = p.scn ∧
    (Part.recordDecision i kind p).rca = p.rca ∧ (Part.recordDecision i kind p).mxs = p.mxs ∧
    (Part.recordDecision i kind p).lpc = p.lpc ∧ (Part.recordDecision i kind p).mlt = p.mlt ∧
    (Part.recordDecision i kind p).xu = p.xu ∧ (Part.recordDecision i kind p).tel = p.tel ∧
    (Part.recordDecision i kind p).sns = p.sns ∧ (Part.recordDecision i kind p).tlu = p.tlu ∧
    (Part.recordDecision i kind p).issued = p.issued ∧ (Part.recordDecision i kind p).frees = p.frees := by
  simp [Part.recordDecision]

@[simp] theorem Part.abandonFrame_keeps (i : SlotIx) (p : Part) :
    (Part.abandonFrame i p).geo = p.geo ∧ (Part.abandonFrame i p).links = p.links ∧
    (Part.abandonFrame i p).scn = p.scn ∧ (Part.abandonFrame i p).mxs = p.mxs ∧
    (Part.abandonFrame i p).mlt = p.mlt ∧ (Part.abandonFrame i p).xu = p.xu ∧
    (Part.abandonFrame i p).sns = p.sns ∧ (Part.abandonFrame i p).frees = p.frees := by
  simp only [Part.abandonFrame]
  (repeat' split) <;> simp

@[simp] theorem Part.continueSeal_keeps (i : SlotIx) (p : Part) :
    (Part.continueSeal i p).geo = p.geo ∧ (Part.continueSeal i p).links = p.links ∧
    (Part.continueSeal i p).mxs = p.mxs ∧ (Part.continueSeal i p).lpc = p.lpc ∧
    (Part.continueSeal i p).mlt = p.mlt ∧ (Part.continueSeal i p).xu = p.xu ∧
    (Part.continueSeal i p).tel = p.tel ∧ (Part.continueSeal i p).sns = p.sns ∧
    (Part.continueSeal i p).tlu = p.tlu ∧ (Part.continueSeal i p).issued = p.issued ∧
    (Part.continueSeal i p).frees = p.frees := by
  simp only [Part.continueSeal]
  (repeat' split) <;> simp

@[simp] theorem Part.decideSeal_keeps (i : SlotIx) (p : Part) :
    (Part.decideSeal i p).geo = p.geo ∧ (Part.decideSeal i p).mxs = p.mxs ∧ (Part.decideSeal i p).mlt = p.mlt ∧
    (Part.decideSeal i p).xu = p.xu ∧ (Part.decideSeal i p).sns = p.sns ∧
    (Part.decideSeal i p).frees = p.frees := by
  simp only [Part.decideSeal]
  (repeat' split) <;> simp

@[simp] theorem Part.sealDecision_keeps (p : Part) :
    (Part.sealDecision p).geo = p.geo ∧ (Part.sealDecision p).mxs = p.mxs ∧ (Part.sealDecision p).mlt = p.mlt ∧
    (Part.sealDecision p).xu = p.xu ∧ (Part.sealDecision p).sns = p.sns ∧
    (Part.sealDecision p).frees = p.frees := by
  simp only [Part.sealDecision]
  (repeat' split) <;> simp

@[simp] theorem Part.frameGapExpiry_keeps (p : Part) :
    (Part.frameGapExpiry p).geo = p.geo ∧ (Part.frameGapExpiry p).links = p.links ∧
    (Part.frameGapExpiry p).scn = p.scn ∧ (Part.frameGapExpiry p).rca = p.rca ∧
    (Part.frameGapExpiry p).mxs = p.mxs ∧ (Part.frameGapExpiry p).mlt = p.mlt ∧
    (Part.frameGapExpiry p).xu = p.xu ∧ (Part.frameGapExpiry p).tel = p.tel ∧
    (Part.frameGapExpiry p).sns = p.sns ∧ (Part.frameGapExpiry p).frees = p.frees := by
  simp only [Part.frameGapExpiry]
  (repeat' split) <;> simp

@[simp] theorem Part.discardSlot_keeps (i : SlotIx) (p : Part) :
    (Part.discardSlot i p).geo = p.geo ∧ (Part.discardSlot i p).links = p.links ∧
    (Part.discardSlot i p).lpc = p.lpc ∧ (Part.discardSlot i p).mlt = p.mlt ∧
    (Part.discardSlot i p).xu = p.xu ∧ (Part.discardSlot i p).sns = p.sns ∧
    (Part.discardSlot i p).frees = p.frees := by
  simp [Part.discardSlot]

@[simp] theorem Part.discardIfHeld_keeps (i : SlotIx) (p : Part) :
    (Part.discardIfHeld i p).geo = p.geo ∧ (Part.discardIfHeld i p).links = p.links ∧
    (Part.discardIfHeld i p).lpc = p.lpc ∧ (Part.discardIfHeld i p).mlt = p.mlt ∧
    (Part.discardIfHeld i p).xu = p.xu ∧ (Part.discardIfHeld i p).sns = p.sns ∧
    (Part.discardIfHeld i p).frees = p.frees := by
  simp only [Part.discardIfHeld]
  (repeat' split) <;> simp

@[simp] theorem Part.discardAll_keeps (p : Part) :
    (Part.discardAll p).geo = p.geo ∧ (Part.discardAll p).links = p.links ∧ (Part.discardAll p).lpc = p.lpc ∧
    (Part.discardAll p).mlt = p.mlt ∧ (Part.discardAll p).xu = p.xu ∧ (Part.discardAll p).sns = p.sns ∧
    (Part.discardAll p).frees = p.frees := by
  refine ⟨?_, ?_, ?_, ?_, ?_, ?_, ?_⟩ <;> exact foldl_view _ _ (by intro q x; simp) _ _

@[simp] theorem Part.judgeSwap_keeps (p : Part) :
    (Part.judgeSwap p).geo = p.geo ∧ (Part.judgeSwap p).links = p.links ∧ (Part.judgeSwap p).fra = p.fra ∧
    (Part.judgeSwap p).scn = p.scn ∧ (Part.judgeSwap p).rca = p.rca ∧ (Part.judgeSwap p).lpc = p.lpc ∧
    (Part.judgeSwap p).mlt = p.mlt ∧ (Part.judgeSwap p).xu = p.xu ∧ (Part.judgeSwap p).tel = p.tel ∧
    (Part.judgeSwap p).sns = p.sns ∧ (Part.judgeSwap p).frees = p.frees := by
  simp only [Part.judgeSwap]
  (repeat' split) <;> simp

@[simp] theorem Part.setGeometry_keeps (g : GeometryParams) (p : Part) :
    (Part.setGeometry g p).2.links = p.links ∧ (Part.setGeometry g p).2.fra = p.fra ∧
    (Part.setGeometry g p).2.scn = p.scn ∧ (Part.setGeometry g p).2.rca = p.rca ∧
    (Part.setGeometry g p).2.lpc = p.lpc ∧ (Part.setGeometry g p).2.mlt = p.mlt ∧
    (Part.setGeometry g p).2.xu = p.xu ∧ (Part.setGeometry g p).2.tel = p.tel ∧
    (Part.setGeometry g p).2.sns = p.sns ∧ (Part.setGeometry g p).2.frees = p.frees := by
  simp only [Part.setGeometry]
  (repeat' split) <;> simp

@[simp] theorem Part.applySetLoop_keeps (q : LoopOrderParams) (p : Part) :
    (Part.applySetLoop q p).geo = p.geo ∧ (Part.applySetLoop q p).links = p.links ∧
    (Part.applySetLoop q p).scn = p.scn ∧ (Part.applySetLoop q p).rca = p.rca ∧
    (Part.applySetLoop q p).mxs = p.mxs ∧ (Part.applySetLoop q p).mlt = p.mlt ∧
    (Part.applySetLoop q p).xu = p.xu ∧ (Part.applySetLoop q p).tel = p.tel ∧
    (Part.applySetLoop q p).sns = p.sns ∧ (Part.applySetLoop q p).tlu = p.tlu ∧
    (Part.applySetLoop q p).issued = p.issued ∧ (Part.applySetLoop q p).frees = p.frees := by
  simp [Part.applySetLoop]

@[simp] theorem Part.setLoopOrder_keeps (q : LoopOrderParams) (p : Part) :
    (Part.setLoopOrder q p).2.geo = p.geo ∧ (Part.setLoopOrder q p).2.links = p.links ∧
    (Part.setLoopOrder q p).2.scn = p.scn ∧ (Part.setLoopOrder q p).2.rca = p.rca ∧
    (Part.setLoopOrder q p).2.mxs = p.mxs ∧ (Part.setLoopOrder q p).2.mlt = p.mlt ∧
    (Part.setLoopOrder q p).2.xu = p.xu ∧ (Part.setLoopOrder q p).2.tel = p.tel ∧
    (Part.setLoopOrder q p).2.sns = p.sns ∧ (Part.setLoopOrder q p).2.tlu = p.tlu ∧
    (Part.setLoopOrder q p).2.issued = p.issued ∧ (Part.setLoopOrder q p).2.frees = p.frees := by
  simp [Part.setLoopOrder]

@[simp] theorem Part.startQuietTimer_keeps (i : LinkIx) (p : Part) :
    (Part.startQuietTimer i p).geo = p.geo ∧ (Part.startQuietTimer i p).fra = p.fra ∧
    (Part.startQuietTimer i p).scn = p.scn ∧ (Part.startQuietTimer i p).rca = p.rca ∧
    (Part.startQuietTimer i p).mxs = p.mxs ∧ (Part.startQuietTimer i p).lpc = p.lpc ∧
    (Part.startQuietTimer i p).mlt = p.mlt ∧ (Part.startQuietTimer i p).xu = p.xu ∧
    (Part.startQuietTimer i p).tel = p.tel ∧ (Part.startQuietTimer i p).sns = p.sns ∧
    (Part.startQuietTimer i p).tlu = p.tlu ∧ (Part.startQuietTimer i p).issued = p.issued ∧
    (Part.startQuietTimer i p).frees = p.frees := by
  simp [Part.startQuietTimer]

@[simp] theorem Part.countUntracked_keeps (i : LinkIx) (p : Part) :
    (Part.countUntracked i p).geo = p.geo ∧ (Part.countUntracked i p).fra = p.fra ∧
    (Part.countUntracked i p).scn = p.scn ∧ (Part.countUntracked i p).rca = p.rca ∧
    (Part.countUntracked i p).mxs = p.mxs ∧ (Part.countUntracked i p).lpc = p.lpc ∧
    (Part.countUntracked i p).mlt = p.mlt ∧ (Part.countUntracked i p).xu = p.xu ∧
    (Part.countUntracked i p).tel = p.tel ∧ (Part.countUntracked i p).sns = p.sns ∧
    (Part.countUntracked i p).tlu = p.tlu ∧ (Part.countUntracked i p).issued = p.issued ∧
    (Part.countUntracked i p).frees = p.frees := by
  simp [Part.countUntracked]

@[simp] theorem Part.moveLink_keeps (i : LinkIx) (st : LinkState) (p : Part) :
    (Part.moveLink i st p).geo = p.geo ∧ (Part.moveLink i st p).fra = p.fra ∧
    (Part.moveLink i st p).scn = p.scn ∧ (Part.moveLink i st p).rca = p.rca ∧
    (Part.moveLink i st p).mxs = p.mxs ∧ (Part.moveLink i st p).lpc = p.lpc ∧
    (Part.moveLink i st p).mlt = p.mlt ∧ (Part.moveLink i st p).xu = p.xu ∧
    (Part.moveLink i st p).tel = p.tel ∧ (Part.moveLink i st p).sns = p.sns ∧
    (Part.moveLink i st p).frees = p.frees := by
  simp [Part.moveLink]

@[simp] theorem Part.deliver_keeps (seg : Segment) (p : Part) :
    (Part.deliver seg p).geo = p.geo ∧ (Part.deliver seg p).fra = p.fra ∧ (Part.deliver seg p).scn = p.scn ∧
    (Part.deliver seg p).rca = p.rca ∧ (Part.deliver seg p).mxs = p.mxs ∧ (Part.deliver seg p).lpc = p.lpc ∧
    (Part.deliver seg p).mlt = p.mlt ∧ (Part.deliver seg p).xu = p.xu ∧ (Part.deliver seg p).tel = p.tel ∧
    (Part.deliver seg p).sns = p.sns ∧ (Part.deliver seg p).tlu = p.tlu ∧
    (Part.deliver seg p).issued = p.issued ∧ (Part.deliver seg p).frees = p.frees := by
  simp only [Part.deliver]
  (repeat' split) <;> simp

@[simp] theorem Part.takeValid_keeps (seg : Segment) (p : Part) :
    (Part.takeValid seg p).geo = p.geo ∧ (Part.takeValid seg p).fra = p.fra ∧
    (Part.takeValid seg p).scn = p.scn ∧ (Part.takeValid seg p).rca = p.rca ∧
    (Part.takeValid seg p).mxs = p.mxs ∧ (Part.takeValid seg p).lpc = p.lpc ∧
    (Part.takeValid seg p).mlt = p.mlt ∧ (Part.takeValid seg p).xu = p.xu ∧
    (Part.takeValid seg p).tel = p.tel ∧ (Part.takeValid seg p).sns = p.sns ∧
    (Part.takeValid seg p).frees = p.frees := by
  simp only [Part.takeValid]
  (repeat' split) <;> simp

@[simp] theorem Part.takePacket_keeps (i : LinkIx) (packet : List Byte) (p : Part) :
    (Part.takePacket i packet p).geo = p.geo ∧ (Part.takePacket i packet p).fra = p.fra ∧
    (Part.takePacket i packet p).scn = p.scn ∧ (Part.takePacket i packet p).rca = p.rca ∧
    (Part.takePacket i packet p).mxs = p.mxs ∧ (Part.takePacket i packet p).lpc = p.lpc ∧
    (Part.takePacket i packet p).mlt = p.mlt ∧ (Part.takePacket i packet p).xu = p.xu ∧
    (Part.takePacket i packet p).tel = p.tel ∧ (Part.takePacket i packet p).sns = p.sns ∧
    (Part.takePacket i packet p).frees = p.frees := by
  simp only [Part.takePacket]
  (repeat' split) <;> simp

@[simp] theorem Part.segmentArrival_keeps (i : LinkIx) (early : Bool) (packet : List Byte) (p : Part) :
    (Part.segmentArrival i early packet p).geo = p.geo ∧ (Part.segmentArrival i early packet p).fra = p.fra ∧
    (Part.segmentArrival i early packet p).scn = p.scn ∧ (Part.segmentArrival i early packet p).rca = p.rca ∧
    (Part.segmentArrival i early packet p).mxs = p.mxs ∧ (Part.segmentArrival i early packet p).lpc = p.lpc ∧
    (Part.segmentArrival i early packet p).mlt = p.mlt ∧ (Part.segmentArrival i early packet p).xu = p.xu ∧
    (Part.segmentArrival i early packet p).tel = p.tel ∧ (Part.segmentArrival i early packet p).sns = p.sns ∧
    (Part.segmentArrival i early packet p).frees = p.frees := by
  simp only [Part.segmentArrival]
  (repeat' split) <;> simp

@[simp] theorem Part.quietExpired_keeps (i : LinkIx) (p : Part) :
    (Part.quietExpired i p).geo = p.geo ∧ (Part.quietExpired i p).fra = p.fra ∧
    (Part.quietExpired i p).scn = p.scn ∧ (Part.quietExpired i p).rca = p.rca ∧
    (Part.quietExpired i p).mxs = p.mxs ∧ (Part.quietExpired i p).lpc = p.lpc ∧
    (Part.quietExpired i p).mlt = p.mlt ∧ (Part.quietExpired i p).xu = p.xu ∧
    (Part.quietExpired i p).tel = p.tel ∧ (Part.quietExpired i p).sns = p.sns ∧
    (Part.quietExpired i p).frees = p.frees := by
  simp only [Part.quietExpired]
  (repeat' split) <;> simp

@[simp] theorem Part.quietTimerExpiry_keeps (i : LinkIx) (p : Part) :
    (Part.quietTimerExpiry i p).geo = p.geo ∧ (Part.quietTimerExpiry i p).fra = p.fra ∧
    (Part.quietTimerExpiry i p).scn = p.scn ∧ (Part.quietTimerExpiry i p).rca = p.rca ∧
    (Part.quietTimerExpiry i p).mxs = p.mxs ∧ (Part.quietTimerExpiry i p).lpc = p.lpc ∧
    (Part.quietTimerExpiry i p).mlt = p.mlt ∧ (Part.quietTimerExpiry i p).xu = p.xu ∧
    (Part.quietTimerExpiry i p).tel = p.tel ∧ (Part.quietTimerExpiry i p).sns = p.sns ∧
    (Part.quietTimerExpiry i p).frees = p.frees := by
  simp only [Part.quietTimerExpiry]
  (repeat' split) <;> simp

@[simp] theorem Part.restartLink_keeps (i : LinkIx) (st : LinkState) (p : Part) :
    (Part.restartLink i st p).geo = p.geo ∧ (Part.restartLink i st p).fra = p.fra ∧
    (Part.restartLink i st p).scn = p.scn ∧ (Part.restartLink i st p).rca = p.rca ∧
    (Part.restartLink i st p).mxs = p.mxs ∧ (Part.restartLink i st p).lpc = p.lpc ∧
    (Part.restartLink i st p).mlt = p.mlt ∧ (Part.restartLink i st p).xu = p.xu ∧
    (Part.restartLink i st p).tel = p.tel ∧ (Part.restartLink i st p).sns = p.sns ∧
    (Part.restartLink i st p).frees = p.frees := by
  simp only [Part.restartLink]
  (repeat' split) <;> simp

@[simp] theorem Part.applyLinkSettings_keeps (i : LinkIx) (enable : Bool) (id quietMs : Nat) (p : Part) :
    (Part.applyLinkSettings i enable id quietMs p).geo = p.geo ∧
    (Part.applyLinkSettings i enable id quietMs p).fra = p.fra ∧
    (Part.applyLinkSettings i enable id quietMs p).scn = p.scn ∧
    (Part.applyLinkSettings i enable id quietMs p).rca = p.rca ∧
    (Part.applyLinkSettings i enable id quietMs p).mxs = p.mxs ∧
    (Part.applyLinkSettings i enable id quietMs p).lpc = p.lpc ∧
    (Part.applyLinkSettings i enable id quietMs p).mlt = p.mlt ∧
    (Part.applyLinkSettings i enable id quietMs p).xu = p.xu ∧
    (Part.applyLinkSettings i enable id quietMs p).tel = p.tel ∧
    (Part.applyLinkSettings i enable id quietMs p).sns = p.sns ∧
    (Part.applyLinkSettings i enable id quietMs p).frees = p.frees := by
  simp only [Part.applyLinkSettings]
  (repeat' split) <;> simp

@[simp] theorem Part.setSensor_keeps (q : SensorOrderParams) (p : Part) :
    (Part.setSensor q p).2.geo = p.geo ∧ (Part.setSensor q p).2.fra = p.fra ∧
    (Part.setSensor q p).2.rca = p.rca ∧ (Part.setSensor q p).2.mxs = p.mxs ∧
    (Part.setSensor q p).2.lpc = p.lpc ∧ (Part.setSensor q p).2.mlt = p.mlt ∧
    (Part.setSensor q p).2.xu = p.xu ∧ (Part.setSensor q p).2.tel = p.tel ∧
    (Part.setSensor q p).2.sns = p.sns ∧ (Part.setSensor q p).2.frees = p.frees := by
  simp only [Part.setSensor]
  (repeat' split) <;> simp

@[simp] theorem Part.commitLimits_keeps (p : Part) :
    (Part.commitLimits p).geo = p.geo ∧ (Part.commitLimits p).links = p.links ∧
    (Part.commitLimits p).fra = p.fra ∧ (Part.commitLimits p).scn = p.scn ∧ (Part.commitLimits p).rca = p.rca ∧
    (Part.commitLimits p).mxs = p.mxs ∧ (Part.commitLimits p).mlt = p.mlt ∧ (Part.commitLimits p).xu = p.xu ∧
    (Part.commitLimits p).tel = p.tel ∧ (Part.commitLimits p).sns = p.sns ∧ (Part.commitLimits p).tlu = p.tlu ∧
    (Part.commitLimits p).issued = p.issued ∧ (Part.commitLimits p).frees = p.frees := by
  simp [Part.commitLimits]

@[simp] theorem Part.commitPairs_keeps (p : Part) :
    (Part.commitPairs p).geo = p.geo ∧ (Part.commitPairs p).links = p.links ∧
    (Part.commitPairs p).fra = p.fra ∧ (Part.commitPairs p).scn = p.scn ∧ (Part.commitPairs p).rca = p.rca ∧
    (Part.commitPairs p).mxs = p.mxs ∧ (Part.commitPairs p).mlt = p.mlt ∧ (Part.commitPairs p).xu = p.xu ∧
    (Part.commitPairs p).tel = p.tel ∧ (Part.commitPairs p).sns = p.sns ∧ (Part.commitPairs p).tlu = p.tlu ∧
    (Part.commitPairs p).issued = p.issued ∧ (Part.commitPairs p).frees = p.frees := by
  simp [Part.commitPairs]

@[simp] theorem Part.commitGains_keeps (p : Part) :
    (Part.commitGains p).geo = p.geo ∧ (Part.commitGains p).links = p.links ∧
    (Part.commitGains p).fra = p.fra ∧ (Part.commitGains p).scn = p.scn ∧ (Part.commitGains p).rca = p.rca ∧
    (Part.commitGains p).mxs = p.mxs ∧ (Part.commitGains p).mlt = p.mlt ∧ (Part.commitGains p).xu = p.xu ∧
    (Part.commitGains p).tel = p.tel ∧ (Part.commitGains p).sns = p.sns ∧ (Part.commitGains p).tlu = p.tlu ∧
    (Part.commitGains p).issued = p.issued ∧ (Part.commitGains p).frees = p.frees := by
  simp [Part.commitGains]

@[simp] theorem Part.limitsWait_keeps (p : Part) :
    (Part.limitsWait p).geo = p.geo ∧ (Part.limitsWait p).links = p.links ∧ (Part.limitsWait p).fra = p.fra ∧
    (Part.limitsWait p).scn = p.scn ∧ (Part.limitsWait p).rca = p.rca ∧ (Part.limitsWait p).mxs = p.mxs ∧
    (Part.limitsWait p).mlt = p.mlt ∧ (Part.limitsWait p).xu = p.xu ∧ (Part.limitsWait p).tel = p.tel ∧
    (Part.limitsWait p).sns = p.sns ∧ (Part.limitsWait p).tlu = p.tlu ∧ (Part.limitsWait p).issued = p.issued ∧
    (Part.limitsWait p).frees = p.frees := by
  simp only [Part.limitsWait]
  (repeat' split) <;> simp

@[simp] theorem Part.pairsWait_keeps (p : Part) :
    (Part.pairsWait p).geo = p.geo ∧ (Part.pairsWait p).links = p.links ∧ (Part.pairsWait p).fra = p.fra ∧
    (Part.pairsWait p).scn = p.scn ∧ (Part.pairsWait p).rca = p.rca ∧ (Part.pairsWait p).mxs = p.mxs ∧
    (Part.pairsWait p).mlt = p.mlt ∧ (Part.pairsWait p).xu = p.xu ∧ (Part.pairsWait p).tel = p.tel ∧
    (Part.pairsWait p).sns = p.sns ∧ (Part.pairsWait p).tlu = p.tlu ∧ (Part.pairsWait p).issued = p.issued ∧
    (Part.pairsWait p).frees = p.frees := by
  simp only [Part.pairsWait]
  (repeat' split) <;> simp

@[simp] theorem Part.gainsWait_keeps (p : Part) :
    (Part.gainsWait p).geo = p.geo ∧ (Part.gainsWait p).links = p.links ∧ (Part.gainsWait p).fra = p.fra ∧
    (Part.gainsWait p).scn = p.scn ∧ (Part.gainsWait p).rca = p.rca ∧ (Part.gainsWait p).mxs = p.mxs ∧
    (Part.gainsWait p).mlt = p.mlt ∧ (Part.gainsWait p).xu = p.xu ∧ (Part.gainsWait p).tel = p.tel ∧
    (Part.gainsWait p).sns = p.sns ∧ (Part.gainsWait p).tlu = p.tlu ∧ (Part.gainsWait p).issued = p.issued ∧
    (Part.gainsWait p).frees = p.frees := by
  simp only [Part.gainsWait]
  (repeat' split) <;> simp

@[simp] theorem Part.commitActuatorSide_keeps (p : Part) :
    (Part.commitActuatorSide p).geo = p.geo ∧ (Part.commitActuatorSide p).links = p.links ∧
    (Part.commitActuatorSide p).fra = p.fra ∧ (Part.commitActuatorSide p).scn = p.scn ∧
    (Part.commitActuatorSide p).rca = p.rca ∧ (Part.commitActuatorSide p).mxs = p.mxs ∧
    (Part.commitActuatorSide p).mlt = p.mlt ∧ (Part.commitActuatorSide p).xu = p.xu ∧
    (Part.commitActuatorSide p).tel = p.tel ∧ (Part.commitActuatorSide p).sns = p.sns ∧
    (Part.commitActuatorSide p).tlu = p.tlu ∧ (Part.commitActuatorSide p).issued = p.issued ∧
    (Part.commitActuatorSide p).frees = p.frees := by
  simp only [Part.commitActuatorSide]
  (repeat' split) <;> simp

@[simp] theorem Part.endUpdate_keeps (i : SlotIx) (g : Geometry) (u : UpdateReport) (ramp : Bool) (p : Part) :
    (Part.endUpdate i g u ramp p).geo = p.geo ∧ (Part.endUpdate i g u ramp p).links = p.links ∧
    (Part.endUpdate i g u ramp p).scn = p.scn ∧ (Part.endUpdate i g u ramp p).rca = p.rca ∧
    (Part.endUpdate i g u ramp p).mxs = p.mxs ∧ (Part.endUpdate i g u ramp p).mlt = p.mlt ∧
    (Part.endUpdate i g u ramp p).xu = p.xu ∧ (Part.endUpdate i g u ramp p).frees = p.frees := by
  simp only [Part.endUpdate]
  (repeat' split) <;> simp

@[simp] theorem Part.reportOnly_keeps (i : SlotIx) (p : Part) :
    (Part.reportOnly i p).geo = p.geo ∧ (Part.reportOnly i p).links = p.links ∧
    (Part.reportOnly i p).scn = p.scn ∧ (Part.reportOnly i p).rca = p.rca ∧ (Part.reportOnly i p).mxs = p.mxs ∧
    (Part.reportOnly i p).mlt = p.mlt ∧ (Part.reportOnly i p).xu = p.xu ∧
    (Part.reportOnly i p).frees = p.frees := by
  simp [Part.reportOnly]

@[simp] theorem Part.fullUpdate_keeps (i : SlotIx) (p : Part) :
    (Part.fullUpdate i p).geo = p.geo ∧ (Part.fullUpdate i p).links = p.links ∧
    (Part.fullUpdate i p).scn = p.scn ∧ (Part.fullUpdate i p).rca = p.rca ∧ (Part.fullUpdate i p).mxs = p.mxs ∧
    (Part.fullUpdate i p).mlt = p.mlt ∧ (Part.fullUpdate i p).xu = p.xu ∧
    (Part.fullUpdate i p).frees = p.frees := by
  simp only [Part.fullUpdate]
  (repeat' split) <;> simp

@[simp] theorem Part.beginUpdate_keeps (i : SlotIx) (p : Part) :
    (Part.beginUpdate i p).geo = p.geo ∧ (Part.beginUpdate i p).links = p.links ∧
    (Part.beginUpdate i p).scn = p.scn ∧ (Part.beginUpdate i p).rca = p.rca ∧
    (Part.beginUpdate i p).mxs = p.mxs ∧ (Part.beginUpdate i p).mlt = p.mlt ∧
    (Part.beginUpdate i p).xu = p.xu ∧ (Part.beginUpdate i p).frees = p.frees := by
  simp only [Part.beginUpdate]
  (repeat' split) <;> simp

@[simp] theorem Part.updateBegin_keeps (p : Part) :
    (Part.updateBegin p).geo = p.geo ∧ (Part.updateBegin p).links = p.links ∧
    (Part.updateBegin p).scn = p.scn ∧ (Part.updateBegin p).rca = p.rca ∧ (Part.updateBegin p).mxs = p.mxs ∧
    (Part.updateBegin p).mlt = p.mlt ∧ (Part.updateBegin p).xu = p.xu ∧ (Part.updateBegin p).frees = p.frees := by
  simp only [Part.updateBegin]
  (repeat' split) <;> simp

@[simp] theorem Part.putVector_keeps (v : List Nat) (p : Part) :
    (Part.putVector v p).geo = p.geo ∧ (Part.putVector v p).links = p.links ∧
    (Part.putVector v p).fra = p.fra ∧ (Part.putVector v p).scn = p.scn ∧ (Part.putVector v p).rca = p.rca ∧
    (Part.putVector v p).mxs = p.mxs ∧ (Part.putVector v p).mlt = p.mlt ∧ (Part.putVector v p).xu = p.xu ∧
    (Part.putVector v p).tel = p.tel ∧ (Part.putVector v p).sns = p.sns ∧ (Part.putVector v p).tlu = p.tlu ∧
    (Part.putVector v p).issued = p.issued ∧ (Part.putVector v p).frees = p.frees := by
  simp [Part.putVector]

@[simp] theorem Part.handTo_keeps (g : Geometry) (m : MirrorIx) (codes : List Nat) (p : Part) :
    (Part.handTo g m codes p).part.geo = p.geo ∧ (Part.handTo g m codes p).part.links = p.links ∧
    (Part.handTo g m codes p).part.fra = p.fra ∧ (Part.handTo g m codes p).part.scn = p.scn ∧
    (Part.handTo g m codes p).part.rca = p.rca ∧ (Part.handTo g m codes p).part.mxs = p.mxs ∧
    (Part.handTo g m codes p).part.lpc = p.lpc ∧ (Part.handTo g m codes p).part.xu = p.xu ∧
    (Part.handTo g m codes p).part.tel = p.tel ∧ (Part.handTo g m codes p).part.sns = p.sns ∧
    (Part.handTo g m codes p).part.frees = p.frees := by
  simp only [Part.handTo]
  (repeat' split) <;> simp

@[simp] theorem Part.handShape_keeps (codes : List Nat) (p : Part) :
    (Part.handShape codes p).geo = p.geo ∧ (Part.handShape codes p).links = p.links ∧
    (Part.handShape codes p).fra = p.fra ∧ (Part.handShape codes p).scn = p.scn ∧
    (Part.handShape codes p).rca = p.rca ∧ (Part.handShape codes p).mxs = p.mxs ∧
    (Part.handShape codes p).lpc = p.lpc ∧ (Part.handShape codes p).xu = p.xu ∧
    (Part.handShape codes p).tel = p.tel ∧ (Part.handShape codes p).sns = p.sns ∧
    (Part.handShape codes p).frees = p.frees := by
  simp only [Part.handShape]
  (repeat' split) <;> simp

@[simp] theorem Part.sendVector_keeps (u : Update) (p : Part) :
    (Part.sendVector u p).geo = p.geo ∧ (Part.sendVector u p).links = p.links ∧
    (Part.sendVector u p).scn = p.scn ∧ (Part.sendVector u p).rca = p.rca ∧ (Part.sendVector u p).mxs = p.mxs ∧
    (Part.sendVector u p).xu = p.xu ∧ (Part.sendVector u p).frees = p.frees := by
  simp [Part.sendVector]

@[simp] theorem Part.sendPoint_keeps (p : Part) :
    (Part.sendPoint p).geo = p.geo ∧ (Part.sendPoint p).links = p.links ∧ (Part.sendPoint p).scn = p.scn ∧
    (Part.sendPoint p).rca = p.rca ∧ (Part.sendPoint p).mxs = p.mxs ∧ (Part.sendPoint p).xu = p.xu ∧
    (Part.sendPoint p).frees = p.frees := by
  simp only [Part.sendPoint]
  (repeat' split) <;> simp

@[simp] theorem Part.driveShape_keeps (w : List Nat) (p : Part) :
    (Part.driveShape w p).geo = p.geo ∧ (Part.driveShape w p).links = p.links ∧
    (Part.driveShape w p).fra = p.fra ∧ (Part.driveShape w p).scn = p.scn ∧ (Part.driveShape w p).rca = p.rca ∧
    (Part.driveShape w p).mxs = p.mxs ∧ (Part.driveShape w p).xu = p.xu ∧ (Part.driveShape w p).tel = p.tel ∧
    (Part.driveShape w p).sns = p.sns ∧ (Part.driveShape w p).frees = p.frees := by
  simp [Part.driveShape]

@[simp] theorem Part.flattenOrder_keeps (p : Part) :
    (Part.flattenOrder p).2.geo = p.geo ∧ (Part.flattenOrder p).2.links = p.links ∧
    (Part.flattenOrder p).2.fra = p.fra ∧ (Part.flattenOrder p).2.scn = p.scn ∧
    (Part.flattenOrder p).2.rca = p.rca ∧ (Part.flattenOrder p).2.mxs = p.mxs ∧
    (Part.flattenOrder p).2.xu = p.xu ∧ (Part.flattenOrder p).2.tel = p.tel ∧
    (Part.flattenOrder p).2.sns = p.sns ∧ (Part.flattenOrder p).2.frees = p.frees := by
  simp only [Part.flattenOrder]
  (repeat' split) <;> simp

@[simp] theorem Part.judgeShape_keeps (codes : List (BitVec 16)) (p : Part) :
    (Part.judgeShape codes p).2.geo = p.geo ∧ (Part.judgeShape codes p).2.links = p.links ∧
    (Part.judgeShape codes p).2.fra = p.fra ∧ (Part.judgeShape codes p).2.scn = p.scn ∧
    (Part.judgeShape codes p).2.rca = p.rca ∧ (Part.judgeShape codes p).2.mxs = p.mxs ∧
    (Part.judgeShape codes p).2.xu = p.xu ∧ (Part.judgeShape codes p).2.tel = p.tel ∧
    (Part.judgeShape codes p).2.sns = p.sns ∧ (Part.judgeShape codes p).2.frees = p.frees := by
  simp only [Part.judgeShape]
  (repeat' split) <;> simp

@[simp] theorem Part.restartAssembly_keeps (p : Part) :
    (Part.restartAssembly p).geo = p.geo ∧ (Part.restartAssembly p).links = p.links ∧
    (Part.restartAssembly p).scn = p.scn ∧ (Part.restartAssembly p).rca = p.rca ∧
    (Part.restartAssembly p).mxs = p.mxs ∧ (Part.restartAssembly p).lpc = p.lpc ∧
    (Part.restartAssembly p).mlt = p.mlt ∧ (Part.restartAssembly p).xu = p.xu ∧
    (Part.restartAssembly p).tel = p.tel ∧ (Part.restartAssembly p).sns = p.sns ∧
    (Part.restartAssembly p).tlu = p.tlu ∧ (Part.restartAssembly p).issued = p.issued ∧
    (Part.restartAssembly p).frees = p.frees := by
  simp [Part.restartAssembly]

@[simp] theorem Part.openLoop_keeps (p : Part) :
    (Part.openLoop p).geo = p.geo ∧ (Part.openLoop p).links = p.links ∧ (Part.openLoop p).scn = p.scn ∧
    (Part.openLoop p).rca = p.rca ∧ (Part.openLoop p).mxs = p.mxs ∧ (Part.openLoop p).mlt = p.mlt ∧
    (Part.openLoop p).xu = p.xu ∧ (Part.openLoop p).tel = p.tel ∧ (Part.openLoop p).sns = p.sns ∧
    (Part.openLoop p).frees = p.frees := by
  simp [Part.openLoop]

@[simp] theorem Part.loopOpenOrder_keeps (p : Part) :
    (Part.loopOpenOrder p).2.geo = p.geo ∧ (Part.loopOpenOrder p).2.links = p.links ∧
    (Part.loopOpenOrder p).2.scn = p.scn ∧ (Part.loopOpenOrder p).2.rca = p.rca ∧
    (Part.loopOpenOrder p).2.mxs = p.mxs ∧ (Part.loopOpenOrder p).2.mlt = p.mlt ∧
    (Part.loopOpenOrder p).2.xu = p.xu ∧ (Part.loopOpenOrder p).2.tel = p.tel ∧
    (Part.loopOpenOrder p).2.sns = p.sns ∧ (Part.loopOpenOrder p).2.frees = p.frees := by
  simp only [Part.loopOpenOrder]
  (repeat' split) <;> simp

@[simp] theorem Part.closeLoop_keeps (k : Nat) (p : Part) :
    (Part.closeLoop k p).geo = p.geo ∧ (Part.closeLoop k p).links = p.links ∧
    (Part.closeLoop k p).fra = p.fra ∧ (Part.closeLoop k p).scn = p.scn ∧ (Part.closeLoop k p).rca = p.rca ∧
    (Part.closeLoop k p).mxs = p.mxs ∧ (Part.closeLoop k p).mlt = p.mlt ∧ (Part.closeLoop k p).xu = p.xu ∧
    (Part.closeLoop k p).tel = p.tel ∧ (Part.closeLoop k p).sns = p.sns ∧
    (Part.closeLoop k p).frees = p.frees := by
  simp [Part.closeLoop]

@[simp] theorem Part.loopCloseOrder_keeps (ramp : BitVec 16) (p : Part) :
    (Part.loopCloseOrder ramp p).2.geo = p.geo ∧ (Part.loopCloseOrder ramp p).2.links = p.links ∧
    (Part.loopCloseOrder ramp p).2.fra = p.fra ∧ (Part.loopCloseOrder ramp p).2.scn = p.scn ∧
    (Part.loopCloseOrder ramp p).2.rca = p.rca ∧ (Part.loopCloseOrder ramp p).2.mxs = p.mxs ∧
    (Part.loopCloseOrder ramp p).2.mlt = p.mlt ∧ (Part.loopCloseOrder ramp p).2.xu = p.xu ∧
    (Part.loopCloseOrder ramp p).2.tel = p.tel ∧ (Part.loopCloseOrder ramp p).2.sns = p.sns ∧
    (Part.loopCloseOrder ramp p).2.frees = p.frees := by
  simp only [Part.loopCloseOrder]
  (repeat' split) <;> simp

@[simp] theorem Part.flushFifos_keeps (p : Part) :
    (Part.flushFifos p).geo = p.geo ∧ (Part.flushFifos p).fra = p.fra ∧ (Part.flushFifos p).scn = p.scn ∧
    (Part.flushFifos p).rca = p.rca ∧ (Part.flushFifos p).mxs = p.mxs ∧ (Part.flushFifos p).lpc = p.lpc ∧
    (Part.flushFifos p).mlt = p.mlt ∧ (Part.flushFifos p).xu = p.xu ∧ (Part.flushFifos p).tel = p.tel ∧
    (Part.flushFifos p).sns = p.sns ∧ (Part.flushFifos p).tlu = p.tlu ∧ (Part.flushFifos p).issued = p.issued ∧
    (Part.flushFifos p).frees = p.frees := by
  simp [Part.flushFifos]

@[simp] theorem Part.stopLoop_keeps (p : Part) :
    (Part.stopLoop p).geo = p.geo ∧ (Part.stopLoop p).mlt = p.mlt ∧ (Part.stopLoop p).xu = p.xu ∧
    (Part.stopLoop p).sns = p.sns ∧ (Part.stopLoop p).frees = p.frees := by
  simp [Part.stopLoop]

@[simp] theorem Part.loopStopOrder_keeps (p : Part) :
    (Part.loopStopOrder p).2.geo = p.geo ∧ (Part.loopStopOrder p).2.mlt = p.mlt ∧
    (Part.loopStopOrder p).2.xu = p.xu ∧ (Part.loopStopOrder p).2.sns = p.sns ∧
    (Part.loopStopOrder p).2.frees = p.frees := by
  simp only [Part.loopStopOrder]
  (repeat' split) <;> simp

@[simp] theorem Part.resumeLoop_keeps (p : Part) :
    (Part.resumeLoop p).geo = p.geo ∧ (Part.resumeLoop p).links = p.links ∧ (Part.resumeLoop p).scn = p.scn ∧
    (Part.resumeLoop p).rca = p.rca ∧ (Part.resumeLoop p).mxs = p.mxs ∧ (Part.resumeLoop p).mlt = p.mlt ∧
    (Part.resumeLoop p).xu = p.xu ∧ (Part.resumeLoop p).tel = p.tel ∧ (Part.resumeLoop p).sns = p.sns ∧
    (Part.resumeLoop p).frees = p.frees := by
  simp [Part.resumeLoop]

@[simp] theorem Part.resumeOrder_keeps (p : Part) :
    (Part.resumeOrder p).2.geo = p.geo ∧ (Part.resumeOrder p).2.links = p.links ∧
    (Part.resumeOrder p).2.scn = p.scn ∧ (Part.resumeOrder p).2.rca = p.rca ∧
    (Part.resumeOrder p).2.mxs = p.mxs ∧ (Part.resumeOrder p).2.mlt = p.mlt ∧
    (Part.resumeOrder p).2.xu = p.xu ∧ (Part.resumeOrder p).2.tel = p.tel ∧
    (Part.resumeOrder p).2.sns = p.sns ∧ (Part.resumeOrder p).2.frees = p.frees := by
  simp only [Part.resumeOrder]
  (repeat' split) <;> simp

@[simp] theorem Part.writeGains_keeps (m : MirrorIx) (x : Gains) (p : Part) :
    (Part.writeGains m x p).geo = p.geo ∧ (Part.writeGains m x p).links = p.links ∧
    (Part.writeGains m x p).fra = p.fra ∧ (Part.writeGains m x p).scn = p.scn ∧
    (Part.writeGains m x p).rca = p.rca ∧ (Part.writeGains m x p).mxs = p.mxs ∧
    (Part.writeGains m x p).mlt = p.mlt ∧ (Part.writeGains m x p).xu = p.xu ∧
    (Part.writeGains m x p).tel = p.tel ∧ (Part.writeGains m x p).sns = p.sns ∧
    (Part.writeGains m x p).tlu = p.tlu ∧ (Part.writeGains m x p).issued = p.issued ∧
    (Part.writeGains m x p).frees = p.frees := by
  simp [Part.writeGains]

@[simp] theorem Part.setGains_keeps (q : GainsOrderParams) (p : Part) :
    (Part.setGains q p).2.geo = p.geo ∧ (Part.setGains q p).2.links = p.links ∧
    (Part.setGains q p).2.fra = p.fra ∧ (Part.setGains q p).2.scn = p.scn ∧ (Part.setGains q p).2.rca = p.rca ∧
    (Part.setGains q p).2.mxs = p.mxs ∧ (Part.setGains q p).2.mlt = p.mlt ∧ (Part.setGains q p).2.xu = p.xu ∧
    (Part.setGains q p).2.tel = p.tel ∧ (Part.setGains q p).2.sns = p.sns ∧ (Part.setGains q p).2.tlu = p.tlu ∧
    (Part.setGains q p).2.issued = p.issued ∧ (Part.setGains q p).2.frees = p.frees := by
  simp only [Part.setGains]
  (repeat' split) <;> simp

@[simp] theorem Part.refuse_keeps (o : Order) (r : Reason) (ref : OrderRef) (p : Part) :
    (Part.refuse o r ref p).geo = p.geo ∧ (Part.refuse o r ref p).links = p.links ∧
    (Part.refuse o r ref p).fra = p.fra ∧ (Part.refuse o r ref p).scn = p.scn ∧
    (Part.refuse o r ref p).rca = p.rca ∧ (Part.refuse o r ref p).mxs = p.mxs ∧
    (Part.refuse o r ref p).lpc = p.lpc ∧ (Part.refuse o r ref p).mlt = p.mlt ∧
    (Part.refuse o r ref p).xu = p.xu ∧ (Part.refuse o r ref p).tel = p.tel ∧
    (Part.refuse o r ref p).sns = p.sns := by
  simp only [Part.refuse]
  (repeat' split) <;> simp

@[simp] theorem Part.endLane_keeps (r : Running) (res : OrderResult) (p : Part) :
    (Part.endLane r res p).geo = p.geo ∧ (Part.endLane r res p).links = p.links ∧
    (Part.endLane r res p).fra = p.fra ∧ (Part.endLane r res p).scn = p.scn ∧
    (Part.endLane r res p).rca = p.rca ∧ (Part.endLane r res p).mxs = p.mxs ∧
    (Part.endLane r res p).lpc = p.lpc ∧ (Part.endLane r res p).mlt = p.mlt ∧
    (Part.endLane r res p).tel = p.tel ∧ (Part.endLane r res p).sns = p.sns ∧
    (Part.endLane r res p).frees = p.frees := by
  simp [Part.endLane]

@[simp] theorem Part.dropMatrixLoad_keeps (b : BankIx) (p : Part) :
    (Part.dropMatrixLoad b p).geo = p.geo ∧ (Part.dropMatrixLoad b p).links = p.links ∧
    (Part.dropMatrixLoad b p).fra = p.fra ∧ (Part.dropMatrixLoad b p).scn = p.scn ∧
    (Part.dropMatrixLoad b p).rca = p.rca ∧ (Part.dropMatrixLoad b p).lpc = p.lpc ∧
    (Part.dropMatrixLoad b p).mlt = p.mlt ∧ (Part.dropMatrixLoad b p).xu = p.xu ∧
    (Part.dropMatrixLoad b p).tel = p.tel ∧ (Part.dropMatrixLoad b p).sns = p.sns ∧
    (Part.dropMatrixLoad b p).tlu = p.tlu ∧ (Part.dropMatrixLoad b p).issued = p.issued ∧
    (Part.dropMatrixLoad b p).frees = p.frees := by
  simp [Part.dropMatrixLoad]

@[simp] theorem Part.dropWork_keeps (op : BulkOp) (p : Part) :
    (Part.dropWork op p).geo = p.geo ∧ (Part.dropWork op p).links = p.links ∧
    (Part.dropWork op p).fra = p.fra ∧ (Part.dropWork op p).rca = p.rca ∧ (Part.dropWork op p).mlt = p.mlt ∧
    (Part.dropWork op p).xu = p.xu ∧ (Part.dropWork op p).tel = p.tel ∧ (Part.dropWork op p).tlu = p.tlu ∧
    (Part.dropWork op p).issued = p.issued ∧ (Part.dropWork op p).frees = p.frees := by
  simp only [Part.dropWork]
  (repeat' split) <;> simp

@[simp] theorem Part.endEarly_keeps (r : Running) (reason : Reason) (p : Part) :
    (Part.endEarly r reason p).geo = p.geo ∧ (Part.endEarly r reason p).links = p.links ∧
    (Part.endEarly r reason p).fra = p.fra ∧ (Part.endEarly r reason p).rca = p.rca ∧
    (Part.endEarly r reason p).mlt = p.mlt ∧ (Part.endEarly r reason p).tel = p.tel ∧
    (Part.endEarly r reason p).frees = p.frees := by
  simp [Part.endEarly]

@[simp] theorem Part.countHostFailure_keeps (p : Part) :
    (Part.countHostFailure p).geo = p.geo ∧ (Part.countHostFailure p).links = p.links ∧
    (Part.countHostFailure p).fra = p.fra ∧ (Part.countHostFailure p).scn = p.scn ∧
    (Part.countHostFailure p).rca = p.rca ∧ (Part.countHostFailure p).mxs = p.mxs ∧
    (Part.countHostFailure p).lpc = p.lpc ∧ (Part.countHostFailure p).mlt = p.mlt ∧
    (Part.countHostFailure p).tel = p.tel ∧ (Part.countHostFailure p).sns = p.sns ∧
    (Part.countHostFailure p).frees = p.frees := by
  simp [Part.countHostFailure]

@[simp] theorem Part.failTransfer_keeps (r : Running) (p : Part) :
    (Part.failTransfer r p).geo = p.geo ∧ (Part.failTransfer r p).links = p.links ∧
    (Part.failTransfer r p).fra = p.fra ∧ (Part.failTransfer r p).rca = p.rca ∧
    (Part.failTransfer r p).mlt = p.mlt ∧ (Part.failTransfer r p).tel = p.tel ∧
    (Part.failTransfer r p).frees = p.frees := by
  simp [Part.failTransfer]

@[simp] theorem Part.laneRead_keeps (r : Running) (addr : BitVec 64) (length : Nat) (p : Part) :
    (Part.laneRead r addr length p).geo = p.geo ∧ (Part.laneRead r addr length p).links = p.links ∧
    (Part.laneRead r addr length p).fra = p.fra ∧ (Part.laneRead r addr length p).rca = p.rca ∧
    (Part.laneRead r addr length p).mlt = p.mlt ∧ (Part.laneRead r addr length p).tel = p.tel ∧
    (Part.laneRead r addr length p).frees = p.frees := by
  simp only [Part.laneRead]
  (repeat' split) <;> simp

@[simp] theorem Part.beginMatrix_keeps (b : BankIx) (s a e : Nat) (check : BitVec 32) (p : Part) :
    (Part.beginMatrix b s a e check p).geo = p.geo ∧ (Part.beginMatrix b s a e check p).links = p.links ∧
    (Part.beginMatrix b s a e check p).fra = p.fra ∧ (Part.beginMatrix b s a e check p).scn = p.scn ∧
    (Part.beginMatrix b s a e check p).rca = p.rca ∧ (Part.beginMatrix b s a e check p).lpc = p.lpc ∧
    (Part.beginMatrix b s a e check p).mlt = p.mlt ∧ (Part.beginMatrix b s a e check p).xu = p.xu ∧
    (Part.beginMatrix b s a e check p).tel = p.tel ∧ (Part.beginMatrix b s a e check p).sns = p.sns ∧
    (Part.beginMatrix b s a e check p).tlu = p.tlu ∧ (Part.beginMatrix b s a e check p).issued = p.issued ∧
    (Part.beginMatrix b s a e check p).frees = p.frees := by
  simp [Part.beginMatrix]

@[simp] theorem Part.beginReadBank_keeps (b : BankIx) (first columns : Nat) (p : Part) :
    (Part.beginReadBank b first columns p).geo = p.geo ∧
    (Part.beginReadBank b first columns p).links = p.links ∧
    (Part.beginReadBank b first columns p).fra = p.fra ∧ (Part.beginReadBank b first columns p).scn = p.scn ∧
    (Part.beginReadBank b first columns p).rca = p.rca ∧ (Part.beginReadBank b first columns p).lpc = p.lpc ∧
    (Part.beginReadBank b first columns p).mlt = p.mlt ∧ (Part.beginReadBank b first columns p).xu = p.xu ∧
    (Part.beginReadBank b first columns p).tel = p.tel ∧ (Part.beginReadBank b first columns p).sns = p.sns ∧
    (Part.beginReadBank b first columns p).tlu = p.tlu ∧
    (Part.beginReadBank b first columns p).issued = p.issued ∧
    (Part.beginReadBank b first columns p).frees = p.frees := by
  simp [Part.beginReadBank]

@[simp] theorem Part.beginWork_keeps (op : BulkOp) (p : Part) :
    (Part.beginWork op p).geo = p.geo ∧ (Part.beginWork op p).links = p.links ∧
    (Part.beginWork op p).fra = p.fra ∧ (Part.beginWork op p).rca = p.rca ∧ (Part.beginWork op p).mlt = p.mlt ∧
    (Part.beginWork op p).xu = p.xu ∧ (Part.beginWork op p).tel = p.tel ∧ (Part.beginWork op p).tlu = p.tlu ∧
    (Part.beginWork op p).issued = p.issued ∧ (Part.beginWork op p).frees = p.frees := by
  simp only [Part.beginWork]
  (repeat' split) <;> simp

@[simp] theorem Part.completeSlopeLoad_keeps (l : SlopeLoad) (p : Part) :
    (Part.completeSlopeLoad l p).2.geo = p.geo ∧ (Part.completeSlopeLoad l p).2.links = p.links ∧
    (Part.completeSlopeLoad l p).2.fra = p.fra ∧ (Part.completeSlopeLoad l p).2.rca = p.rca ∧
    (Part.completeSlopeLoad l p).2.mxs = p.mxs ∧ (Part.completeSlopeLoad l p).2.lpc = p.lpc ∧
    (Part.completeSlopeLoad l p).2.mlt = p.mlt ∧ (Part.completeSlopeLoad l p).2.xu = p.xu ∧
    (Part.completeSlopeLoad l p).2.tel = p.tel ∧ (Part.completeSlopeLoad l p).2.sns = p.sns ∧
    (Part.completeSlopeLoad l p).2.tlu = p.tlu ∧ (Part.completeSlopeLoad l p).2.issued = p.issued ∧
    (Part.completeSlopeLoad l p).2.frees = p.frees := by
  simp only [Part.completeSlopeLoad]
  (repeat' split) <;> simp

@[simp] theorem Part.completeActuatorLoad_keeps (l : ActuatorLoad) (p : Part) :
    (Part.completeActuatorLoad l p).2.geo = p.geo ∧ (Part.completeActuatorLoad l p).2.links = p.links ∧
    (Part.completeActuatorLoad l p).2.fra = p.fra ∧ (Part.completeActuatorLoad l p).2.scn = p.scn ∧
    (Part.completeActuatorLoad l p).2.rca = p.rca ∧ (Part.completeActuatorLoad l p).2.mxs = p.mxs ∧
    (Part.completeActuatorLoad l p).2.mlt = p.mlt ∧ (Part.completeActuatorLoad l p).2.xu = p.xu ∧
    (Part.completeActuatorLoad l p).2.tel = p.tel ∧ (Part.completeActuatorLoad l p).2.sns = p.sns ∧
    (Part.completeActuatorLoad l p).2.tlu = p.tlu ∧ (Part.completeActuatorLoad l p).2.issued = p.issued ∧
    (Part.completeActuatorLoad l p).2.frees = p.frees := by
  simp only [Part.completeActuatorLoad]
  (repeat' split) <;> simp

@[simp] theorem Part.completeShape_keeps (p : Part) :
    (Part.completeShape p).2.geo = p.geo ∧ (Part.completeShape p).2.links = p.links ∧
    (Part.completeShape p).2.fra = p.fra ∧ (Part.completeShape p).2.scn = p.scn ∧
    (Part.completeShape p).2.rca = p.rca ∧ (Part.completeShape p).2.mxs = p.mxs ∧
    (Part.completeShape p).2.xu = p.xu ∧ (Part.completeShape p).2.tel = p.tel ∧
    (Part.completeShape p).2.sns = p.sns ∧ (Part.completeShape p).2.frees = p.frees := by
  simp [Part.completeShape]

@[simp] theorem Part.conclude_keeps (r : Running) (x : OrderResult × Part) :
    (Part.conclude r x).geo = x.2.geo ∧ (Part.conclude r x).links = x.2.links ∧
    (Part.conclude r x).fra = x.2.fra ∧ (Part.conclude r x).scn = x.2.scn ∧ (Part.conclude r x).rca = x.2.rca ∧
    (Part.conclude r x).mxs = x.2.mxs ∧ (Part.conclude r x).lpc = x.2.lpc ∧ (Part.conclude r x).mlt = x.2.mlt ∧
    (Part.conclude r x).tel = x.2.tel ∧ (Part.conclude r x).sns = x.2.sns ∧
    (Part.conclude r x).frees = x.2.frees := by
  simp [Part.conclude]

@[simp] theorem Part.completeLoad_keeps (r : Running) (p : Part) :
    (Part.completeLoad r p).geo = p.geo ∧ (Part.completeLoad r p).links = p.links ∧
    (Part.completeLoad r p).fra = p.fra ∧ (Part.completeLoad r p).rca = p.rca ∧
    (Part.completeLoad r p).mxs = p.mxs ∧ (Part.completeLoad r p).tel = p.tel ∧
    (Part.completeLoad r p).sns = p.sns ∧ (Part.completeLoad r p).frees = p.frees := by
  simp only [Part.completeLoad]
  (repeat' split) <;> simp

@[simp] theorem Part.confirm_keeps (r : Running) (p : Part) :
    (Part.confirm r p).geo = p.geo ∧ (Part.confirm r p).links = p.links ∧ (Part.confirm r p).fra = p.fra ∧
    (Part.confirm r p).rca = p.rca ∧ (Part.confirm r p).mlt = p.mlt ∧ (Part.confirm r p).tel = p.tel ∧
    (Part.confirm r p).frees = p.frees := by
  simp [Part.confirm]

@[simp] theorem Part.runLane_keeps (r : Running) (reading : Bool) (p : Part) :
    (Part.runLane r reading p).geo = p.geo ∧ (Part.runLane r reading p).links = p.links ∧
    (Part.runLane r reading p).fra = p.fra ∧ (Part.runLane r reading p).rca = p.rca ∧
    (Part.runLane r reading p).tel = p.tel ∧ (Part.runLane r reading p).frees = p.frees := by
  simp only [Part.runLane]
  (repeat' split) <;> simp

@[simp] theorem Part.startBulk_keeps (b : Bulk) (p : Part) :
    (Part.startBulk b p).geo = p.geo ∧ (Part.startBulk b p).links = p.links ∧
    (Part.startBulk b p).fra = p.fra ∧ (Part.startBulk b p).rca = p.rca ∧ (Part.startBulk b p).tel = p.tel ∧
    (Part.startBulk b p).frees = p.frees := by
  simp only [Part.startBulk]
  (repeat' split) <;> simp

@[simp] theorem Part.startHead_keeps (p : Part) :
    (Part.startHead p).geo = p.geo ∧ (Part.startHead p).links = p.links ∧ (Part.startHead p).fra = p.fra ∧
    (Part.startHead p).rca = p.rca ∧ (Part.startHead p).tel = p.tel ∧ (Part.startHead p).frees = p.frees := by
  simp only [Part.startHead]
  (repeat' split) <;> simp

@[simp] theorem Part.startHeads_keeps (n : Nat) (p : Part) :
    (Part.startHeads n p).geo = p.geo ∧ (Part.startHeads n p).links = p.links ∧
    (Part.startHeads n p).fra = p.fra ∧ (Part.startHeads n p).rca = p.rca ∧ (Part.startHeads n p).tel = p.tel ∧
    (Part.startHeads n p).frees = p.frees := by
  induction n generalizing p with
  | zero => simp [Part.startHeads]
  | succ n ih => simp [Part.startHeads, ih]

@[simp] theorem Part.startQueue_keeps (p : Part) :
    (Part.startQueue p).geo = p.geo ∧ (Part.startQueue p).links = p.links ∧ (Part.startQueue p).fra = p.fra ∧
    (Part.startQueue p).rca = p.rca ∧ (Part.startQueue p).tel = p.tel ∧ (Part.startQueue p).frees = p.frees := by
  simp [Part.startQueue]

@[simp] theorem Part.placeEntries_keeps (op : BulkOp) (entries : List (List Byte)) (p : Part) :
    (Part.placeEntries op entries p).geo = p.geo ∧ (Part.placeEntries op entries p).links = p.links ∧
    (Part.placeEntries op entries p).fra = p.fra ∧ (Part.placeEntries op entries p).rca = p.rca ∧
    (Part.placeEntries op entries p).mxs = p.mxs ∧ (Part.placeEntries op entries p).mlt = p.mlt ∧
    (Part.placeEntries op entries p).xu = p.xu ∧ (Part.placeEntries op entries p).tel = p.tel ∧
    (Part.placeEntries op entries p).sns = p.sns ∧ (Part.placeEntries op entries p).tlu = p.tlu ∧
    (Part.placeEntries op entries p).issued = p.issued ∧ (Part.placeEntries op entries p).frees = p.frees := by
  simp only [Part.placeEntries]
  (repeat' split) <;> simp

@[simp] theorem Part.takeEntries_keeps (r : Running) (bytes : List Byte) (p : Part) :
    (Part.takeEntries r bytes p).geo = p.geo ∧ (Part.takeEntries r bytes p).links = p.links ∧
    (Part.takeEntries r bytes p).fra = p.fra ∧ (Part.takeEntries r bytes p).rca = p.rca ∧
    (Part.takeEntries r bytes p).mxs = p.mxs ∧ (Part.takeEntries r bytes p).tel = p.tel ∧
    (Part.takeEntries r bytes p).sns = p.sns ∧ (Part.takeEntries r bytes p).frees = p.frees := by
  simp only [Part.takeEntries]
  (repeat' split) <;> simp

@[simp] theorem Part.takeMatrixBytes_keeps (r : Running) (bytes : List Byte) (p : Part) :
    (Part.takeMatrixBytes r bytes p).geo = p.geo ∧ (Part.takeMatrixBytes r bytes p).links = p.links ∧
    (Part.takeMatrixBytes r bytes p).fra = p.fra ∧ (Part.takeMatrixBytes r bytes p).scn = p.scn ∧
    (Part.takeMatrixBytes r bytes p).rca = p.rca ∧ (Part.takeMatrixBytes r bytes p).lpc = p.lpc ∧
    (Part.takeMatrixBytes r bytes p).mlt = p.mlt ∧ (Part.takeMatrixBytes r bytes p).tel = p.tel ∧
    (Part.takeMatrixBytes r bytes p).sns = p.sns ∧ (Part.takeMatrixBytes r bytes p).tlu = p.tlu ∧
    (Part.takeMatrixBytes r bytes p).issued = p.issued ∧ (Part.takeMatrixBytes r bytes p).frees = p.frees := by
  simp only [Part.takeMatrixBytes]
  (repeat' split) <;> simp

@[simp] theorem Part.hostReadCompletion_keeps (bytes : List Byte) (p : Part) :
    (Part.hostReadCompletion bytes p).geo = p.geo ∧ (Part.hostReadCompletion bytes p).links = p.links ∧
    (Part.hostReadCompletion bytes p).fra = p.fra ∧ (Part.hostReadCompletion bytes p).rca = p.rca ∧
    (Part.hostReadCompletion bytes p).tel = p.tel ∧ (Part.hostReadCompletion bytes p).sns = p.sns ∧
    (Part.hostReadCompletion bytes p).frees = p.frees := by
  simp only [Part.hostReadCompletion]
  (repeat' split) <;> simp

@[simp] theorem Part.endMatrix_keeps (r : Running) (l : MatrixLoad) (p : Part) :
    (Part.endMatrix r l p).geo = p.geo ∧ (Part.endMatrix r l p).links = p.links ∧
    (Part.endMatrix r l p).fra = p.fra ∧ (Part.endMatrix r l p).scn = p.scn ∧
    (Part.endMatrix r l p).rca = p.rca ∧ (Part.endMatrix r l p).lpc = p.lpc ∧
    (Part.endMatrix r l p).mlt = p.mlt ∧ (Part.endMatrix r l p).tel = p.tel ∧
    (Part.endMatrix r l p).sns = p.sns ∧ (Part.endMatrix r l p).frees = p.frees := by
  simp only [Part.endMatrix]
  (repeat' split) <;> simp

@[simp] theorem Part.loadAdvances_keeps (count : Nat) (p : Part) :
    (Part.loadAdvances count p).geo = p.geo ∧ (Part.loadAdvances count p).links = p.links ∧
    (Part.loadAdvances count p).fra = p.fra ∧ (Part.loadAdvances count p).scn = p.scn ∧
    (Part.loadAdvances count p).rca = p.rca ∧ (Part.loadAdvances count p).lpc = p.lpc ∧
    (Part.loadAdvances count p).mlt = p.mlt ∧ (Part.loadAdvances count p).tel = p.tel ∧
    (Part.loadAdvances count p).sns = p.sns ∧ (Part.loadAdvances count p).frees = p.frees := by
  simp only [Part.loadAdvances]
  (repeat' split) <;> simp

@[simp] theorem Part.loaderBurstComplete_keeps (p : Part) :
    (Part.loaderBurstComplete p).geo = p.geo ∧ (Part.loaderBurstComplete p).links = p.links ∧
    (Part.loaderBurstComplete p).fra = p.fra ∧ (Part.loaderBurstComplete p).scn = p.scn ∧
    (Part.loaderBurstComplete p).rca = p.rca ∧ (Part.loaderBurstComplete p).lpc = p.lpc ∧
    (Part.loaderBurstComplete p).mlt = p.mlt ∧ (Part.loaderBurstComplete p).tel = p.tel ∧
    (Part.loaderBurstComplete p).sns = p.sns ∧ (Part.loaderBurstComplete p).frees = p.frees := by
  simp only [Part.loaderBurstComplete]
  (repeat' split) <;> simp

@[simp] theorem Part.issueImage_keeps (r : Running) (bytes : List Byte) (p : Part) :
    (Part.issueImage r bytes p).geo = p.geo ∧ (Part.issueImage r bytes p).links = p.links ∧
    (Part.issueImage r bytes p).fra = p.fra ∧ (Part.issueImage r bytes p).rca = p.rca ∧
    (Part.issueImage r bytes p).mlt = p.mlt ∧ (Part.issueImage r bytes p).tel = p.tel ∧
    (Part.issueImage r bytes p).frees = p.frees := by
  simp only [Part.issueImage]
  (repeat' split) <;> simp

@[simp] theorem Part.readerBurstComplete_keeps (p : Part) :
    (Part.readerBurstComplete p).geo = p.geo ∧ (Part.readerBurstComplete p).links = p.links ∧
    (Part.readerBurstComplete p).fra = p.fra ∧ (Part.readerBurstComplete p).rca = p.rca ∧
    (Part.readerBurstComplete p).mlt = p.mlt ∧ (Part.readerBurstComplete p).tel = p.tel ∧
    (Part.readerBurstComplete p).frees = p.frees := by
  simp only [Part.readerBurstComplete]
  (repeat' split) <;> simp

@[simp] theorem Part.hostWriteRequest_keeps (length : Nat) (p : Part) :
    (Part.hostWriteRequest length p).geo = p.geo ∧ (Part.hostWriteRequest length p).links = p.links ∧
    (Part.hostWriteRequest length p).fra = p.fra ∧ (Part.hostWriteRequest length p).rca = p.rca ∧
    (Part.hostWriteRequest length p).mlt = p.mlt ∧ (Part.hostWriteRequest length p).tel = p.tel ∧
    (Part.hostWriteRequest length p).frees = p.frees := by
  simp only [Part.hostWriteRequest]
  (repeat' split) <;> simp

@[simp] theorem Part.endCopy_keeps (r : Running) (p : Part) :
    (Part.endCopy r p).geo = p.geo ∧ (Part.endCopy r p).links = p.links ∧ (Part.endCopy r p).fra = p.fra ∧
    (Part.endCopy r p).scn = p.scn ∧ (Part.endCopy r p).rca = p.rca ∧ (Part.endCopy r p).mxs = p.mxs ∧
    (Part.endCopy r p).lpc = p.lpc ∧ (Part.endCopy r p).mlt = p.mlt ∧ (Part.endCopy r p).tel = p.tel ∧
    (Part.endCopy r p).frees = p.frees := by
  simp [Part.endCopy]

@[simp] theorem Part.endToHost_keeps (r : Running) (p : Part) :
    (Part.endToHost r p).geo = p.geo ∧ (Part.endToHost r p).links = p.links ∧
    (Part.endToHost r p).fra = p.fra ∧ (Part.endToHost r p).scn = p.scn ∧ (Part.endToHost r p).rca = p.rca ∧
    (Part.endToHost r p).lpc = p.lpc ∧ (Part.endToHost r p).mlt = p.mlt ∧ (Part.endToHost r p).tel = p.tel ∧
    (Part.endToHost r p).frees = p.frees := by
  simp only [Part.endToHost]
  (repeat' split) <;> simp

@[simp] theorem Part.confirmingReadCompletion_keeps (p : Part) :
    (Part.confirmingReadCompletion p).geo = p.geo ∧ (Part.confirmingReadCompletion p).links = p.links ∧
    (Part.confirmingReadCompletion p).fra = p.fra ∧ (Part.confirmingReadCompletion p).scn = p.scn ∧
    (Part.confirmingReadCompletion p).rca = p.rca ∧ (Part.confirmingReadCompletion p).lpc = p.lpc ∧
    (Part.confirmingReadCompletion p).mlt = p.mlt ∧ (Part.confirmingReadCompletion p).tel = p.tel ∧
    (Part.confirmingReadCompletion p).frees = p.frees := by
  simp only [Part.confirmingReadCompletion]
  (repeat' split) <;> simp

@[simp] theorem Part.abortTransfer_keeps (matchFlag ticket : Byte) (p : Part) :
    (Part.abortTransfer matchFlag ticket p).2.geo = p.geo ∧
    (Part.abortTransfer matchFlag ticket p).2.links = p.links ∧
    (Part.abortTransfer matchFlag ticket p).2.fra = p.fra ∧
    (Part.abortTransfer matchFlag ticket p).2.rca = p.rca ∧
    (Part.abortTransfer matchFlag ticket p).2.tel = p.tel ∧
    (Part.abortTransfer matchFlag ticket p).2.frees = p.frees := by
  simp only [Part.abortTransfer]
  (repeat' split) <;> simp

@[simp] theorem Part.modPacer_keeps (g : Pacer → Pacer) (p : Part) :
    (Part.modPacer g p).geo = p.geo ∧ (Part.modPacer g p).links = p.links ∧ (Part.modPacer g p).fra = p.fra ∧
    (Part.modPacer g p).scn = p.scn ∧ (Part.modPacer g p).rca = p.rca ∧ (Part.modPacer g p).mxs = p.mxs ∧
    (Part.modPacer g p).lpc = p.lpc ∧ (Part.modPacer g p).mlt = p.mlt ∧ (Part.modPacer g p).xu = p.xu ∧
    (Part.modPacer g p).tel = p.tel ∧ (Part.modPacer g p).sns = p.sns ∧ (Part.modPacer g p).issued = p.issued ∧
    (Part.modPacer g p).frees = p.frees := by
  simp [Part.modPacer]

@[simp] theorem Part.setPacer_keeps (q : PacerOrderParams) (p : Part) :
    (Part.setPacer q p).2.geo = p.geo ∧ (Part.setPacer q p).2.links = p.links ∧
    (Part.setPacer q p).2.fra = p.fra ∧ (Part.setPacer q p).2.scn = p.scn ∧ (Part.setPacer q p).2.rca = p.rca ∧
    (Part.setPacer q p).2.mxs = p.mxs ∧ (Part.setPacer q p).2.lpc = p.lpc ∧ (Part.setPacer q p).2.mlt = p.mlt ∧
    (Part.setPacer q p).2.xu = p.xu ∧ (Part.setPacer q p).2.tel = p.tel ∧ (Part.setPacer q p).2.sns = p.sns ∧
    (Part.setPacer q p).2.issued = p.issued ∧ (Part.setPacer q p).2.frees = p.frees := by
  simp only [Part.setPacer]
  (repeat' split) <;> simp

@[simp] theorem Part.periodStart_keeps (p : Part) :
    (Part.periodStart p).geo = p.geo ∧ (Part.periodStart p).links = p.links ∧
    (Part.periodStart p).fra = p.fra ∧ (Part.periodStart p).scn = p.scn ∧ (Part.periodStart p).rca = p.rca ∧
    (Part.periodStart p).mxs = p.mxs ∧ (Part.periodStart p).lpc = p.lpc ∧ (Part.periodStart p).mlt = p.mlt ∧
    (Part.periodStart p).xu = p.xu ∧ (Part.periodStart p).tel = p.tel ∧ (Part.periodStart p).sns = p.sns ∧
    (Part.periodStart p).issued = p.issued ∧ (Part.periodStart p).frees = p.frees := by
  simp only [Part.periodStart]
  (repeat' split) <;> simp

@[simp] theorem Part.pulseEnd_keeps (p : Part) :
    (Part.pulseEnd p).geo = p.geo ∧ (Part.pulseEnd p).links = p.links ∧ (Part.pulseEnd p).fra = p.fra ∧
    (Part.pulseEnd p).scn = p.scn ∧ (Part.pulseEnd p).rca = p.rca ∧ (Part.pulseEnd p).mxs = p.mxs ∧
    (Part.pulseEnd p).lpc = p.lpc ∧ (Part.pulseEnd p).mlt = p.mlt ∧ (Part.pulseEnd p).xu = p.xu ∧
    (Part.pulseEnd p).tel = p.tel ∧ (Part.pulseEnd p).sns = p.sns ∧ (Part.pulseEnd p).issued = p.issued ∧
    (Part.pulseEnd p).frees = p.frees := by
  simp only [Part.pulseEnd]
  (repeat' split) <;> simp

@[simp] theorem Part.lineSample_keeps (interlock snap mark : Bool) (p : Part) :
    (Part.lineSample interlock snap mark p).geo = p.geo ∧
    (Part.lineSample interlock snap mark p).links = p.links ∧
    (Part.lineSample interlock snap mark p).fra = p.fra ∧ (Part.lineSample interlock snap mark p).scn = p.scn ∧
    (Part.lineSample interlock snap mark p).rca = p.rca ∧ (Part.lineSample interlock snap mark p).mxs = p.mxs ∧
    (Part.lineSample interlock snap mark p).lpc = p.lpc ∧ (Part.lineSample interlock snap mark p).mlt = p.mlt ∧
    (Part.lineSample interlock snap mark p).xu = p.xu ∧ (Part.lineSample interlock snap mark p).tel = p.tel ∧
    (Part.lineSample interlock snap mark p).sns = p.sns ∧
    (Part.lineSample interlock snap mark p).issued = p.issued ∧
    (Part.lineSample interlock snap mark p).frees = p.frees := by
  simp only [Part.lineSample]
  (repeat' split) <;> simp

@[simp] theorem Part.interlockEdge_keeps (p : Part) :
    (Part.interlockEdge p).geo = p.geo ∧ (Part.interlockEdge p).links = p.links ∧
    (Part.interlockEdge p).fra = p.fra ∧ (Part.interlockEdge p).scn = p.scn ∧
    (Part.interlockEdge p).rca = p.rca ∧ (Part.interlockEdge p).mxs = p.mxs ∧
    (Part.interlockEdge p).mlt = p.mlt ∧ (Part.interlockEdge p).xu = p.xu ∧
    (Part.interlockEdge p).tel = p.tel ∧ (Part.interlockEdge p).sns = p.sns ∧
    (Part.interlockEdge p).frees = p.frees := by
  simp only [Part.interlockEdge]
  (repeat' split) <;> simp

@[simp] theorem Part.judgeSnap_keeps (p : Part) :
    (Part.judgeSnap p).geo = p.geo ∧ (Part.judgeSnap p).links = p.links ∧ (Part.judgeSnap p).fra = p.fra ∧
    (Part.judgeSnap p).scn = p.scn ∧ (Part.judgeSnap p).rca = p.rca ∧ (Part.judgeSnap p).mxs = p.mxs ∧
    (Part.judgeSnap p).lpc = p.lpc ∧ (Part.judgeSnap p).mlt = p.mlt ∧ (Part.judgeSnap p).xu = p.xu ∧
    (Part.judgeSnap p).tel = p.tel ∧ (Part.judgeSnap p).issued = p.issued ∧
    (Part.judgeSnap p).frees = p.frees := by
  simp only [Part.judgeSnap]
  (repeat' split) <;> simp

@[simp] theorem Part.takeSnap_keeps (p : Part) :
    (Part.takeSnap p).geo = p.geo ∧ (Part.takeSnap p).links = p.links ∧ (Part.takeSnap p).fra = p.fra ∧
    (Part.takeSnap p).scn = p.scn ∧ (Part.takeSnap p).rca = p.rca ∧ (Part.takeSnap p).mxs = p.mxs ∧
    (Part.takeSnap p).lpc = p.lpc ∧ (Part.takeSnap p).mlt = p.mlt ∧ (Part.takeSnap p).xu = p.xu ∧
    (Part.takeSnap p).tel = p.tel ∧ (Part.takeSnap p).sns = p.sns ∧ (Part.takeSnap p).issued = p.issued ∧
    (Part.takeSnap p).frees = p.frees := by
  simp [Part.takeSnap]

@[simp] theorem Part.snapEdge_keeps (p : Part) :
    (Part.snapEdge p).geo = p.geo ∧ (Part.snapEdge p).links = p.links ∧ (Part.snapEdge p).fra = p.fra ∧
    (Part.snapEdge p).scn = p.scn ∧ (Part.snapEdge p).rca = p.rca ∧ (Part.snapEdge p).mxs = p.mxs ∧
    (Part.snapEdge p).lpc = p.lpc ∧ (Part.snapEdge p).mlt = p.mlt ∧ (Part.snapEdge p).xu = p.xu ∧
    (Part.snapEdge p).tel = p.tel ∧ (Part.snapEdge p).issued = p.issued ∧ (Part.snapEdge p).frees = p.frees := by
  simp only [Part.snapEdge]
  (repeat' split) <;> simp

@[simp] theorem Part.markEdge_keeps (p : Part) :
    (Part.markEdge p).geo = p.geo ∧ (Part.markEdge p).links = p.links ∧ (Part.markEdge p).fra = p.fra ∧
    (Part.markEdge p).scn = p.scn ∧ (Part.markEdge p).rca = p.rca ∧ (Part.markEdge p).mxs = p.mxs ∧
    (Part.markEdge p).lpc = p.lpc ∧ (Part.markEdge p).mlt = p.mlt ∧ (Part.markEdge p).xu = p.xu ∧
    (Part.markEdge p).tel = p.tel ∧ (Part.markEdge p).sns = p.sns ∧ (Part.markEdge p).issued = p.issued ∧
    (Part.markEdge p).frees = p.frees := by
  simp only [Part.markEdge]
  (repeat' split) <;> simp

@[simp] theorem Part.applyLines_keeps (q : LinesOrderParams) (blockInterlock blockMark blockLoop : Bool) (p : Part) :
    (Part.applyLines q blockInterlock blockMark blockLoop p).geo = p.geo ∧
    (Part.applyLines q blockInterlock blockMark blockLoop p).links = p.links ∧
    (Part.applyLines q blockInterlock blockMark blockLoop p).fra = p.fra ∧
    (Part.applyLines q blockInterlock blockMark blockLoop p).scn = p.scn ∧
    (Part.applyLines q blockInterlock blockMark blockLoop p).rca = p.rca ∧
    (Part.applyLines q blockInterlock blockMark blockLoop p).mxs = p.mxs ∧
    (Part.applyLines q blockInterlock blockMark blockLoop p).lpc = p.lpc ∧
    (Part.applyLines q blockInterlock blockMark blockLoop p).mlt = p.mlt ∧
    (Part.applyLines q blockInterlock blockMark blockLoop p).xu = p.xu ∧
    (Part.applyLines q blockInterlock blockMark blockLoop p).tel = p.tel ∧
    (Part.applyLines q blockInterlock blockMark blockLoop p).sns = p.sns ∧
    (Part.applyLines q blockInterlock blockMark blockLoop p).issued = p.issued ∧
    (Part.applyLines q blockInterlock blockMark blockLoop p).frees = p.frees := by
  simp [Part.applyLines]

@[simp] theorem Part.setLines_keeps (q : LinesOrderParams) (p : Part) :
    (Part.setLines q p).2.geo = p.geo ∧ (Part.setLines q p).2.links = p.links ∧
    (Part.setLines q p).2.fra = p.fra ∧ (Part.setLines q p).2.scn = p.scn ∧ (Part.setLines q p).2.rca = p.rca ∧
    (Part.setLines q p).2.mxs = p.mxs ∧ (Part.setLines q p).2.lpc = p.lpc ∧ (Part.setLines q p).2.mlt = p.mlt ∧
    (Part.setLines q p).2.xu = p.xu ∧ (Part.setLines q p).2.tel = p.tel ∧ (Part.setLines q p).2.sns = p.sns ∧
    (Part.setLines q p).2.issued = p.issued ∧ (Part.setLines q p).2.frees = p.frees := by
  simp only [Part.setLines]
  (repeat' split) <;> simp

@[simp] theorem Part.setWindow_keeps (q : WindowOrderParams) (p : Part) :
    (Part.setWindow q p).2.geo = p.geo ∧ (Part.setWindow q p).2.links = p.links ∧
    (Part.setWindow q p).2.fra = p.fra ∧ (Part.setWindow q p).2.scn = p.scn ∧
    (Part.setWindow q p).2.rca = p.rca ∧ (Part.setWindow q p).2.mxs = p.mxs ∧
    (Part.setWindow q p).2.lpc = p.lpc ∧ (Part.setWindow q p).2.mlt = p.mlt ∧
    (Part.setWindow q p).2.tel = p.tel ∧ (Part.setWindow q p).2.sns = p.sns ∧
    (Part.setWindow q p).2.tlu = p.tlu ∧ (Part.setWindow q p).2.issued = p.issued ∧
    (Part.setWindow q p).2.frees = p.frees := by
  simp only [Part.setWindow]
  (repeat' split) <;> simp

@[simp] theorem Part.setExchange_keeps (periodUs : BitVec 16) (p : Part) :
    (Part.setExchange periodUs p).2.geo = p.geo ∧ (Part.setExchange periodUs p).2.links = p.links ∧
    (Part.setExchange periodUs p).2.fra = p.fra ∧ (Part.setExchange periodUs p).2.scn = p.scn ∧
    (Part.setExchange periodUs p).2.rca = p.rca ∧ (Part.setExchange periodUs p).2.mxs = p.mxs ∧
    (Part.setExchange periodUs p).2.lpc = p.lpc ∧ (Part.setExchange periodUs p).2.mlt = p.mlt ∧
    (Part.setExchange periodUs p).2.tel = p.tel ∧ (Part.setExchange periodUs p).2.sns = p.sns ∧
    (Part.setExchange periodUs p).2.tlu = p.tlu ∧ (Part.setExchange periodUs p).2.issued = p.issued ∧
    (Part.setExchange periodUs p).2.frees = p.frees := by
  simp [Part.setExchange]

@[simp] theorem Part.finishWith_keeps (ref : OrderRef) (x : OrderResult × Part) :
    (Part.finishWith ref x).geo = x.2.geo ∧ (Part.finishWith ref x).links = x.2.links ∧
    (Part.finishWith ref x).fra = x.2.fra ∧ (Part.finishWith ref x).scn = x.2.scn ∧
    (Part.finishWith ref x).rca = x.2.rca ∧ (Part.finishWith ref x).mxs = x.2.mxs ∧
    (Part.finishWith ref x).lpc = x.2.lpc ∧ (Part.finishWith ref x).mlt = x.2.mlt ∧
    (Part.finishWith ref x).xu = x.2.xu ∧ (Part.finishWith ref x).tel = x.2.tel ∧
    (Part.finishWith ref x).sns = x.2.sns ∧ (Part.finishWith ref x).frees = x.2.frees := by
  simp [Part.finishWith]

@[simp] theorem Part.finishIf_keeps (ref : OrderRef) (x : Option OrderResult × Part) :
    (Part.finishIf ref x).geo = x.2.geo ∧ (Part.finishIf ref x).links = x.2.links ∧
    (Part.finishIf ref x).fra = x.2.fra ∧ (Part.finishIf ref x).scn = x.2.scn ∧
    (Part.finishIf ref x).rca = x.2.rca ∧ (Part.finishIf ref x).mxs = x.2.mxs ∧
    (Part.finishIf ref x).lpc = x.2.lpc ∧ (Part.finishIf ref x).mlt = x.2.mlt ∧
    (Part.finishIf ref x).xu = x.2.xu ∧ (Part.finishIf ref x).tel = x.2.tel ∧
    (Part.finishIf ref x).sns = x.2.sns ∧ (Part.finishIf ref x).frees = x.2.frees := by
  simp only [Part.finishIf]
  (repeat' split) <;> simp

@[simp] theorem Part.enqueueBulk_keeps (ref : OrderRef) (t : Taken) (length : Nat) (p : Part) :
    (Part.enqueueBulk ref t length p).geo = p.geo ∧ (Part.enqueueBulk ref t length p).links = p.links ∧
    (Part.enqueueBulk ref t length p).fra = p.fra ∧ (Part.enqueueBulk ref t length p).rca = p.rca ∧
    (Part.enqueueBulk ref t length p).tel = p.tel ∧ (Part.enqueueBulk ref t length p).frees = p.frees := by
  simp only [Part.enqueueBulk]
  (repeat' split) <;> simp

@[simp] theorem Part.takeBulk_keeps (o : Order) (ref : OrderRef) (x : Except Reason Taken) (p : Part) :
    (Part.takeBulk o ref x p).geo = p.geo ∧ (Part.takeBulk o ref x p).links = p.links ∧
    (Part.takeBulk o ref x p).fra = p.fra ∧ (Part.takeBulk o ref x p).rca = p.rca ∧
    (Part.takeBulk o ref x p).tel = p.tel := by
  simp only [Part.takeBulk]
  (repeat' split) <;> simp

@[simp] theorem Part.startSweepTimer_keeps (p : Part) :
    (Part.startSweepTimer p).geo = p.geo ∧ (Part.startSweepTimer p).links = p.links ∧
    (Part.startSweepTimer p).fra = p.fra ∧ (Part.startSweepTimer p).scn = p.scn ∧
    (Part.startSweepTimer p).rca = p.rca ∧ (Part.startSweepTimer p).mxs = p.mxs ∧
    (Part.startSweepTimer p).lpc = p.lpc ∧ (Part.startSweepTimer p).mlt = p.mlt ∧
    (Part.startSweepTimer p).tel = p.tel ∧ (Part.startSweepTimer p).sns = p.sns ∧
    (Part.startSweepTimer p).tlu = p.tlu ∧ (Part.startSweepTimer p).issued = p.issued ∧
    (Part.startSweepTimer p).frees = p.frees := by
  simp [Part.startSweepTimer]

@[simp] theorem Part.writeStatus_keeps (p : Part) :
    (Part.writeStatus p).geo = p.geo ∧ (Part.writeStatus p).links = p.links ∧
    (Part.writeStatus p).fra = p.fra ∧ (Part.writeStatus p).scn = p.scn ∧ (Part.writeStatus p).rca = p.rca ∧
    (Part.writeStatus p).mxs = p.mxs ∧ (Part.writeStatus p).lpc = p.lpc ∧ (Part.writeStatus p).mlt = p.mlt ∧
    (Part.writeStatus p).xu = p.xu ∧ (Part.writeStatus p).tel = p.tel ∧ (Part.writeStatus p).sns = p.sns ∧
    (Part.writeStatus p).tlu = p.tlu ∧ (Part.writeStatus p).frees = p.frees := by
  simp [Part.writeStatus]

@[simp] theorem Part.abandonSweep_keeps (p : Part) :
    (Part.abandonSweep p).geo = p.geo ∧ (Part.abandonSweep p).links = p.links ∧
    (Part.abandonSweep p).fra = p.fra ∧ (Part.abandonSweep p).scn = p.scn ∧ (Part.abandonSweep p).rca = p.rca ∧
    (Part.abandonSweep p).mxs = p.mxs ∧ (Part.abandonSweep p).lpc = p.lpc ∧ (Part.abandonSweep p).mlt = p.mlt ∧
    (Part.abandonSweep p).tel = p.tel ∧ (Part.abandonSweep p).sns = p.sns ∧
    (Part.abandonSweep p).frees = p.frees := by
  simp [Part.abandonSweep]

@[simp] theorem Part.sweepReads_keeps (p : Part) :
    (Part.sweepReads p).geo = p.geo ∧ (Part.sweepReads p).links = p.links ∧ (Part.sweepReads p).fra = p.fra ∧
    (Part.sweepReads p).scn = p.scn ∧ (Part.sweepReads p).rca = p.rca ∧ (Part.sweepReads p).mxs = p.mxs ∧
    (Part.sweepReads p).lpc = p.lpc ∧ (Part.sweepReads p).mlt = p.mlt ∧ (Part.sweepReads p).tel = p.tel ∧
    (Part.sweepReads p).sns = p.sns ∧ (Part.sweepReads p).frees = p.frees := by
  simp only [Part.sweepReads]
  (repeat' split) <;> simp

@[simp] theorem Part.sweepTimerExpiry_keeps (p : Part) :
    (Part.sweepTimerExpiry p).geo = p.geo ∧ (Part.sweepTimerExpiry p).links = p.links ∧
    (Part.sweepTimerExpiry p).fra = p.fra ∧ (Part.sweepTimerExpiry p).scn = p.scn ∧
    (Part.sweepTimerExpiry p).rca = p.rca ∧ (Part.sweepTimerExpiry p).mxs = p.mxs ∧
    (Part.sweepTimerExpiry p).lpc = p.lpc ∧ (Part.sweepTimerExpiry p).mlt = p.mlt ∧
    (Part.sweepTimerExpiry p).tel = p.tel ∧ (Part.sweepTimerExpiry p).sns = p.sns ∧
    (Part.sweepTimerExpiry p).frees = p.frees := by
  simp only [Part.sweepTimerExpiry]
  (repeat' split) <;> simp

@[simp] theorem Part.acceptConsumed_keeps (v : BitVec 32) (p : Part) :
    (Part.acceptConsumed v p).geo = p.geo ∧ (Part.acceptConsumed v p).links = p.links ∧
    (Part.acceptConsumed v p).fra = p.fra ∧ (Part.acceptConsumed v p).scn = p.scn ∧
    (Part.acceptConsumed v p).rca = p.rca ∧ (Part.acceptConsumed v p).mxs = p.mxs ∧
    (Part.acceptConsumed v p).lpc = p.lpc ∧ (Part.acceptConsumed v p).mlt = p.mlt ∧
    (Part.acceptConsumed v p).xu = p.xu ∧ (Part.acceptConsumed v p).sns = p.sns ∧
    (Part.acceptConsumed v p).tlu = p.tlu ∧ (Part.acceptConsumed v p).issued = p.issued ∧
    (Part.acceptConsumed v p).frees = p.frees := by
  simp [Part.acceptConsumed]

@[simp] theorem Part.loseDuplicate_keeps (x : PostedSlot) (p : Part) :
    (Part.loseDuplicate x p).geo = p.geo ∧ (Part.loseDuplicate x p).links = p.links ∧
    (Part.loseDuplicate x p).fra = p.fra ∧ (Part.loseDuplicate x p).scn = p.scn ∧
    (Part.loseDuplicate x p).rca = p.rca ∧ (Part.loseDuplicate x p).mxs = p.mxs ∧
    (Part.loseDuplicate x p).lpc = p.lpc ∧ (Part.loseDuplicate x p).mlt = p.mlt ∧
    (Part.loseDuplicate x p).xu = p.xu ∧ (Part.loseDuplicate x p).tel = p.tel ∧
    (Part.loseDuplicate x p).sns = p.sns := by
  simp [Part.loseDuplicate]

@[simp] theorem Part.endSweep_keeps (p : Part) :
    (Part.endSweep p).geo = p.geo ∧ (Part.endSweep p).links = p.links ∧ (Part.endSweep p).fra = p.fra ∧
    (Part.endSweep p).scn = p.scn ∧ (Part.endSweep p).rca = p.rca ∧ (Part.endSweep p).mxs = p.mxs ∧
    (Part.endSweep p).lpc = p.lpc ∧ (Part.endSweep p).mlt = p.mlt ∧ (Part.endSweep p).tel = p.tel ∧
    (Part.endSweep p).sns = p.sns ∧ (Part.endSweep p).tlu = p.tlu ∧ (Part.endSweep p).frees = p.frees := by
  simp [Part.endSweep]

@[simp] theorem Part.hostAccessFailure_keeps (read : FailedRead) (p : Part) :
    (Part.hostAccessFailure read p).geo = p.geo ∧ (Part.hostAccessFailure read p).links = p.links ∧
    (Part.hostAccessFailure read p).fra = p.fra ∧ (Part.hostAccessFailure read p).rca = p.rca ∧
    (Part.hostAccessFailure read p).mlt = p.mlt ∧ (Part.hostAccessFailure read p).tel = p.tel ∧
    (Part.hostAccessFailure read p).frees = p.frees := by
  simp only [Part.hostAccessFailure]
  (repeat' split) <;> simp

@[simp] theorem Part.stopLane_keeps (p : Part) :
    (Part.stopLane p).geo = p.geo ∧ (Part.stopLane p).links = p.links ∧ (Part.stopLane p).fra = p.fra ∧
    (Part.stopLane p).rca = p.rca ∧ (Part.stopLane p).mlt = p.mlt ∧ (Part.stopLane p).tel = p.tel ∧
    (Part.stopLane p).frees = p.frees := by
  simp only [Part.stopLane]
  (repeat' split) <;> simp

@[simp] theorem Part.stopQueued_keeps (b : Bulk) (p : Part) :
    (Part.stopQueued b p).geo = p.geo ∧ (Part.stopQueued b p).links = p.links ∧
    (Part.stopQueued b p).fra = p.fra ∧ (Part.stopQueued b p).scn = p.scn ∧ (Part.stopQueued b p).rca = p.rca ∧
    (Part.stopQueued b p).mxs = p.mxs ∧ (Part.stopQueued b p).lpc = p.lpc ∧ (Part.stopQueued b p).mlt = p.mlt ∧
    (Part.stopQueued b p).xu = p.xu ∧ (Part.stopQueued b p).tel = p.tel ∧ (Part.stopQueued b p).sns = p.sns ∧
    (Part.stopQueued b p).frees = p.frees := by
  simp [Part.stopQueued]

@[simp] theorem Part.stopQueue_keeps (p : Part) :
    (Part.stopQueue p).geo = p.geo ∧ (Part.stopQueue p).links = p.links ∧ (Part.stopQueue p).fra = p.fra ∧
    (Part.stopQueue p).scn = p.scn ∧ (Part.stopQueue p).rca = p.rca ∧ (Part.stopQueue p).mxs = p.mxs ∧
    (Part.stopQueue p).lpc = p.lpc ∧ (Part.stopQueue p).mlt = p.mlt ∧ (Part.stopQueue p).tel = p.tel ∧
    (Part.stopQueue p).sns = p.sns ∧ (Part.stopQueue p).frees = p.frees := by
  refine ⟨?_, ?_, ?_, ?_, ?_, ?_, ?_, ?_, ?_, ?_, ?_⟩ <;>
    exact (foldl_view _ _ (by intro q x; simp) _ _).trans (by simp)

@[simp] theorem Part.stopProbes_keeps (p : Part) :
    (Part.stopProbes p).geo = p.geo ∧ (Part.stopProbes p).links = p.links ∧ (Part.stopProbes p).fra = p.fra ∧
    (Part.stopProbes p).scn = p.scn ∧ (Part.stopProbes p).rca = p.rca ∧ (Part.stopProbes p).mxs = p.mxs ∧
    (Part.stopProbes p).lpc = p.lpc ∧ (Part.stopProbes p).xu = p.xu ∧ (Part.stopProbes p).tel = p.tel ∧
    (Part.stopProbes p).sns = p.sns ∧ (Part.stopProbes p).frees = p.frees := by
  simp [Part.stopProbes]

@[simp] theorem Part.stopExchange_keeps (p : Part) :
    (Part.stopExchange p).geo = p.geo ∧ (Part.stopExchange p).links = p.links ∧
    (Part.stopExchange p).fra = p.fra ∧ (Part.stopExchange p).rca = p.rca ∧ (Part.stopExchange p).tel = p.tel ∧
    (Part.stopExchange p).frees = p.frees := by
  simp [Part.stopExchange]

@[simp] theorem Part.startExchange_keeps (p : Part) :
    (Part.startExchange p).geo = p.geo ∧ (Part.startExchange p).links = p.links ∧
    (Part.startExchange p).fra = p.fra ∧ (Part.startExchange p).scn = p.scn ∧
    (Part.startExchange p).rca = p.rca ∧ (Part.startExchange p).mxs = p.mxs ∧
    (Part.startExchange p).lpc = p.lpc ∧ (Part.startExchange p).mlt = p.mlt ∧
    (Part.startExchange p).sns = p.sns ∧ (Part.startExchange p).tlu = p.tlu ∧
    (Part.startExchange p).issued = p.issued ∧ (Part.startExchange p).frees = p.frees := by
  simp [Part.startExchange]

@[simp] theorem Part.settleBurst_keeps (p : Part) (b : Burst) :
    (Part.settleBurst p b).geo = p.geo ∧ (Part.settleBurst p b).links = p.links ∧
    (Part.settleBurst p b).fra = p.fra ∧ (Part.settleBurst p b).scn = p.scn ∧
    (Part.settleBurst p b).rca = p.rca ∧ (Part.settleBurst p b).lpc = p.lpc ∧
    (Part.settleBurst p b).mlt = p.mlt ∧ (Part.settleBurst p b).xu = p.xu ∧
    (Part.settleBurst p b).tel = p.tel ∧ (Part.settleBurst p b).sns = p.sns ∧
    (Part.settleBurst p b).tlu = p.tlu ∧ (Part.settleBurst p b).issued = p.issued := by
  simp only [Part.settleBurst]
  (repeat' split) <;> simp

@[simp] theorem Part.reportSwap_keeps (p : Part) :
    (Part.reportSwap p).geo = p.geo ∧ (Part.reportSwap p).links = p.links ∧ (Part.reportSwap p).fra = p.fra ∧
    (Part.reportSwap p).scn = p.scn ∧ (Part.reportSwap p).rca = p.rca ∧ (Part.reportSwap p).mxs = p.mxs ∧
    (Part.reportSwap p).lpc = p.lpc ∧ (Part.reportSwap p).mlt = p.mlt ∧ (Part.reportSwap p).xu = p.xu ∧
    (Part.reportSwap p).tel = p.tel ∧ (Part.reportSwap p).sns = p.sns ∧ (Part.reportSwap p).tlu = p.tlu ∧
    (Part.reportSwap p).frees = p.frees := by
  simp only [Part.reportSwap]
  (repeat' split) <;> simp

@[simp] theorem Part.cutLinks_keeps (p : Part) :
    (Part.cutLinks p).geo = p.geo ∧ (Part.cutLinks p).links = p.links ∧ (Part.cutLinks p).fra = p.fra ∧
    (Part.cutLinks p).scn = p.scn ∧ (Part.cutLinks p).rca = p.rca ∧ (Part.cutLinks p).mxs = p.mxs ∧
    (Part.cutLinks p).lpc = p.lpc ∧ (Part.cutLinks p).xu = p.xu ∧ (Part.cutLinks p).tel = p.tel ∧
    (Part.cutLinks p).sns = p.sns ∧ (Part.cutLinks p).tlu = p.tlu ∧ (Part.cutLinks p).frees = p.frees := by
  simp [Part.cutLinks]

@[simp] theorem Part.baseLoWrite_keeps (value : BitVec 32) (p : Part) :
    (Part.baseLoWrite value p).geo = p.geo ∧ (Part.baseLoWrite value p).links = p.links ∧
    (Part.baseLoWrite value p).fra = p.fra ∧ (Part.baseLoWrite value p).scn = p.scn ∧
    (Part.baseLoWrite value p).rca = p.rca ∧ (Part.baseLoWrite value p).mxs = p.mxs ∧
    (Part.baseLoWrite value p).lpc = p.lpc ∧ (Part.baseLoWrite value p).mlt = p.mlt ∧
    (Part.baseLoWrite value p).tel = p.tel ∧ (Part.baseLoWrite value p).sns = p.sns ∧
    (Part.baseLoWrite value p).tlu = p.tlu ∧ (Part.baseLoWrite value p).issued = p.issued ∧
    (Part.baseLoWrite value p).frees = p.frees := by
  simp only [Part.baseLoWrite]
  (repeat' split) <;> simp

@[simp] theorem Part.baseHiWrite_keeps (value : BitVec 32) (p : Part) :
    (Part.baseHiWrite value p).geo = p.geo ∧ (Part.baseHiWrite value p).links = p.links ∧
    (Part.baseHiWrite value p).fra = p.fra ∧ (Part.baseHiWrite value p).scn = p.scn ∧
    (Part.baseHiWrite value p).rca = p.rca ∧ (Part.baseHiWrite value p).mxs = p.mxs ∧
    (Part.baseHiWrite value p).lpc = p.lpc ∧ (Part.baseHiWrite value p).mlt = p.mlt ∧
    (Part.baseHiWrite value p).tel = p.tel ∧ (Part.baseHiWrite value p).sns = p.sns ∧
    (Part.baseHiWrite value p).tlu = p.tlu ∧ (Part.baseHiWrite value p).issued = p.issued ∧
    (Part.baseHiWrite value p).frees = p.frees := by
  simp only [Part.baseHiWrite]
  (repeat' split) <;> simp

@[simp] theorem Part.timeLoRead_keeps (first count : Nat) (p : Part) :
    (Part.timeLoRead first count p).geo = p.geo ∧ (Part.timeLoRead first count p).links = p.links ∧
    (Part.timeLoRead first count p).fra = p.fra ∧ (Part.timeLoRead first count p).scn = p.scn ∧
    (Part.timeLoRead first count p).rca = p.rca ∧ (Part.timeLoRead first count p).mxs = p.mxs ∧
    (Part.timeLoRead first count p).lpc = p.lpc ∧ (Part.timeLoRead first count p).mlt = p.mlt ∧
    (Part.timeLoRead first count p).xu = p.xu ∧ (Part.timeLoRead first count p).tel = p.tel ∧
    (Part.timeLoRead first count p).sns = p.sns ∧ (Part.timeLoRead first count p).frees = p.frees := by
  simp [Part.timeLoRead]

end Sys2Proof.Machine
end

