-- ==== Sys2Proof/Laws/Ops.lean ====
section
/-! SUPPORT. What each shared operation can do, said once: events, MSI messages, results, the loop state, hold causes and
telemetry records. -/

namespace Sys2Proof.Machine

/-! ## Events and messages (R205, R206) -/

/-- Setting a flag that is set changes nothing. -/
theorem withFlag_of_set (x : BitVec 8) (e : Event) (h : x.getLsbD e.bit = true) : withFlag x e = x := by
  unfold withFlag
  ext i hi
  simp only [BitVec.getElem_or, BitVec.getElem_twoPow]
  by_cases hb : e.bit = i
  · subst hb; simp [← BitVec.getLsbD_eq_getElem, h]
  · simp; omega

/-- A raised event sets its flag and touches nothing else of the TLU (R205). -/
@[simp] theorem Part.raise_tlu (e : Event) (p : Part) :
    (p.raise e).tlu = { p.tlu with events := withFlag p.tlu.events e } := by
  simp only [Part.raise]
  split
  · rename_i h; rw [withFlag_of_set _ _ h]
  · split <;> simp

/-- A raised event sends one message exactly when its flag goes from 0 to 1 with its mask bit at 1 (R206). -/
theorem Part.raise_issued (e : Event) (p : Part) :
    (p.raise e).issued = if p.wouldSignal e then p.issued ++ [.msi] else p.issued := by
  simp only [Part.raise, Part.wouldSignal, Part.sendMsi]
  split
  · simp_all
  · split
    · simp_all [Part.issue, apply_ite Part.issued, Part.modTlu]
    · simp_all

/-! ## Host memory (R153) -/

/-- A posted write is issued, unless memory requests are disabled (R153). -/
theorem Part.hostWrite_issued (a : BitVec 64) (d : List Byte) (p : Part) :
    (p.hostWrite a d).issued = if p.xu.memRequests then p.issued ++ [.hostWrite a d] else p.issued := by
  simp only [Part.hostWrite]; split <;> rfl

/-- A read is issued, unless memory requests are disabled (R153). -/
theorem Part.hostRead_issued (a : BitVec 64) (n : Nat) (p : Part) :
    (p.hostRead a n).issued = if p.xu.memRequests then p.issued ++ [.hostRead a n] else p.issued := by
  simp only [Part.hostRead]; split <;> rfl

/-! ## Results (R163) -/

/-- A finished order touches the TLU in its ORDER_FINISHED flag only, and in that only when its notify flag is 1 (R163). -/
@[simp] theorem Part.finish_tlu (ref : OrderRef) (r : OrderResult) (p : Part) :
    (p.finish ref r).tlu =
      if ref.notify then { p.tlu with events := withFlag p.tlu.events .orderFinished } else p.tlu := by
  simp only [Part.finish]; split <;> simp

/-! ## The loop state (R94, R99) -/

/-- The loop state after it is set. -/
@[simp] theorem Part.putLoop_loop (st : LoopState) (p : Part) : (p.putLoop st).lpc.loop = st := rfl

/-- The loop state after a change to it. -/
@[simp] theorem Part.setLoop_loop (st : LoopState) (p : Part) : (p.setLoop st).lpc.loop = st := by
  simp only [Part.setLoop]; split <;> simp_all

/-- A change of the loop state raises LOOP_STATE; a state left as it was changes nothing (R94). -/
theorem Part.setLoop_cases (st : LoopState) (p : Part) :
    (p.lpc.loop = st ∧ p.setLoop st = p) ∨ (p.lpc.loop ≠ st ∧ p.setLoop st = (p.putLoop st).raise .loopState) := by
  simp only [Part.setLoop]; split <;> simp_all

/-- A hold cause leaves OPEN and CLOSED for HELD, and leaves STOPPED and HELD as they are (R99). -/
theorem Part.takeHold_loop (c : HoldCause) (p : Part) :
    (p.takeHold c).lpc.loop = if p.lpc.loop = .stopped then .stopped else .held := by
  simp only [Part.takeHold]
  split <;> simp_all

/-- After a hold cause the loop is not CLOSED (R99). -/
theorem Part.takeHold_not_closed (c : HoldCause) (p : Part) : (p.takeHold c).lpc.loop ≠ .closed := by
  rw [Part.takeHold_loop]; split <;> simp

/-- A hold cause touches nothing of the TLU but the LOOP_STATE flag (R94, R99). -/
theorem Part.takeHold_tlu (c : HoldCause) (p : Part) :
    (p.takeHold c).tlu = p.tlu ∨ (p.takeHold c).tlu = { p.tlu with events := withFlag p.tlu.events .loopState } := by
  simp only [Part.takeHold]
  split
  · exact Or.inl rfl
  · exact Or.inl rfl
  all_goals simp only [Part.setLoop]; split <;> simp

/-! ## Telemetry (R181, R182) -/

/-- A record at the write point is written or dropped (R181, R182). -/
theorem Part.writePoint_cases (r : TelRecord) (p : Part) :
    (p.canWrite = true ∧ p.writePoint r = p.writeRecord r) ∨ (p.canWrite = false ∧ p.writePoint r = p.dropRecord) := by
  simp only [Part.writePoint]; split <;> simp_all

/-- A written record moves the written count by one, and keeps the ring's other settings (R181). -/
@[simp] theorem Part.writeRecord_tel (r : TelRecord) (p : Part) :
    (p.writeRecord r).tel = { p.tel with written := p.tel.written + 1, droppedSince := 0 } := by
  simp [Part.writeRecord]

/-- A dropped record counts, and keeps the ring (R182). -/
@[simp] theorem Part.dropRecord_tel (p : Part) :
    p.dropRecord.tel =
      { p.tel with dropped := p.tel.dropped + 1, droppedSince := min 65535 (p.tel.droppedSince + 1) } := by
  simp [Part.dropRecord]

/-! ## Time (R195) -/

/-- One microsecond passes. -/
@[simp] theorem Part.tick_tlu (p : Part) : p.tick.tlu = { p.tlu with timebase := p.tlu.timebase + 1 } := rfl

/-- An event in time moves nothing of the TLU but the timebase. -/
@[simp] theorem Part.advanceTo_tlu (t : Time) (p : Part) :
    (p.advanceTo t).tlu = { p.tlu with timebase := if reached p.tlu.timebase t then p.tlu.timebase else t } := rfl

/-! ## The conditioner's visits (R51 to R57) -/

/-- Visits are made in order up to the first that gives a value: n of them, none before the last gives a value, and the last does
unless they are all made (R53, R56). -/
theorem runVisits_spec (c : Scn) (vs : List Visit) (work : SlopeWork) :
    ∃ n ≤ vs.length, (runVisits c vs work).rest = vs.drop n ∧
      (runVisits c vs work).work = (vs.take n).foldl (makeVisit c) work ∧
      (∀ m < n, ((vs.take m).foldl (makeVisit c) work).values = []) ∧
      (n < vs.length → (runVisits c vs work).work.values ≠ []) := by
  induction vs generalizing work with
  | nil => exact ⟨0, by simp [runVisits]⟩
  | cons v rest ih =>
    simp only [runVisits]
    split
    · rename_i h
      obtain ⟨n, hn, h1, h2, h3, h4⟩ := ih (makeVisit c work v)
      refine ⟨n + 1, by simpa using hn, by simpa using h1, by simpa using h2, ?_, fun hl => h4 (by simpa using hl)⟩
      rintro (_ | m) hm
      · simpa using h
      · simpa using h3 m (by omega)
    · rename_i h
      exact ⟨0, by simp, by simp, by simp, by omega, fun _ => h⟩

/-- The conditioner goes on only where a work is in progress whose values are all handed on, and then it makes visits (R57). -/
theorem Scn.goOn_cases (c : Scn) :
    c.goOn = c ∨ ∃ j n, c.job = some j ∧ j.todo = [] ∧ n ≤ j.rest.length ∧
      c.goOn = { c with
        records := c.records.set j.slot ((j.rest.take n).foldl (makeVisit c) ⟨c.records.get j.slot, c.kept, []⟩).record
        kept := ((j.rest.take n).foldl (makeVisit c) ⟨c.records.get j.slot, c.kept, []⟩).kept
        job := some { j with
          rest := j.rest.drop n
          todo := ((j.rest.take n).foldl (makeVisit c) ⟨c.records.get j.slot, c.kept, []⟩).values } } := by
  unfold Scn.goOn
  split
  · exact .inl rfl
  · rename_i j hj
    split
    · rename_i ht
      obtain ⟨n, hn, h1, h2, -, -⟩ := runVisits_spec c j.rest ⟨c.records.get j.slot, c.kept, []⟩
      exact .inr ⟨j, n, hj, ht, hn, by simp [h1, h2]⟩
    · exact .inl rfl

/-! ## FAULT (R143) -/

/-- A link in FAULT sends nothing: its packets are gone, and its timer is stopped (R143). -/
@[simp] theorem Part.enterFault_link (m : MirrorIx) (p : Part) :
    (p.enterFault m).mlt.get m = { p.mlt.get m with
      state := .fault
      timer := none
      awaiting := false
      queryCount := 0
      tx := [] } := by
  simp only [Part.enterFault, Part.cutOff]
  split <;> simp [Part.issue, Part.modMirror, Part.modMlt]

/-! ## Taking an order (R158) -/

/-- An order's command does nothing, or takes the order (R155, R158). -/
theorem Part.orderCommand_cases (h : OrderHead) (o : Order) (p : Part) :
    (p.cannotTake o h.slot = true ∧ p.orderCommand h o = p) ∨
      (p.cannotTake o h.slot = false ∧ p.orderCommand h o = p.takeOrder o (p.orderRef h o)) := by
  simp only [Part.orderCommand]; split <;> simp_all

end Sys2Proof.Machine
end

