-- ==== Sys2Proof/WellFormed.lean ====
section
/-! DEFINITION. Which commands are commands at all: what the bus, the registers and the links can present. A range
that a rule of the manual judges (an index, a kind, a tuning value) is no matter of form. -/

namespace Sys2Proof

/-- A read of count bytes from byte first of a register lies within it (R213). That one of more than four bytes, or across a register
boundary, is no command is the model's choice (DESIGN CHOICE, log entry 39). -/
def wellFormedRead (first count : Nat) : Bool :=
  1 ≤ count && first + count ≤ 4

/-- A register write of one to four bytes lies within one four-byte register position (R213). That one of more than four bytes, or
across a register boundary, is no command is the model's choice (DESIGN CHOICE, log entry 39). -/
def wellFormedWrite (offset : BitVec 12) (count : Nat) : Bool :=
  1 ≤ count && offset.toNat % 4 + count ≤ 4

/-- The write is one that R150, R151 or R213 can ignore: a partial write, a write to IDENT, TIME_LO, TIME_HI or an unused
offset, or a CONTROL write without PART_RESET (which changes nothing when EXCH_EN already has the value written). -/
def mayBeIgnored (offset : BitVec 12) (count : Nat) (value : BitVec 32) : Bool :=
  count < 4 || offset = 0x00 || offset = 0x18 || offset = 0x1C || 0x20 ≤ offset.toNat
    || (offset = 0x04 && !value.getLsbD 1)

/-- A sweep's second read returns 32 order slots of 128 bytes (R157, R214). -/
def wellFormedSlots (slots : List (List Byte)) : Bool :=
  slots.length = 32 && slots.all (fun b => b.length = 128)

/-- The command is well formed. -/
def Instr.wellFormed : Instr → Bool
  | .timeLoRead first count => wellFormedRead first count
  | .registerWriteIgnored offset count value => wellFormedWrite offset count && mayBeIgnored offset count value
  | .sweepReadCompletion _ slots => wellFormedSlots slots
  | .hostReadCompletion bytes => !bytes.isEmpty
  | .hostWriteRequest length => 1 ≤ length
  | .powerOn | .partReset _ | .functionLevelReset | .exchEnStart | .exchEnStop
  | .exchBaseLoWrite _ | .exchBaseHiWrite _ | .eventsWrite _ | .eventMaskWrite _
  | .segmentArrival _ _ _ | .quietTimerExpiry _ | .admitSegment | .deadlineExpiry _
  | .processEntry | .handOnValue | .arbiterGrant | .columnBurstArrival | .sealDecision
  | .substitutionEnd | .extractionEnd | .frameGapExpiry | .updateBegin | .sendPoint
  | .mirrorPacketArrival _ _ _ | .packetTransmitEnd _ | .receiptTimerExpiry _ | .sweepTimerExpiry
  | .hostAccessFailure _ | .transferStart | .loaderBurstComplete | .readerBurstComplete
  | .confirmingReadCompletion | .setGeometry _ _ | .setSensor _ _ | .setLoop _ _ | .setGains _ _
  | .setMirror _ _ | .loopOpen _ | .loopClose _ _ | .loopStop _ | .resume _ | .flatten _
  | .mirrorReset _ _ | .mirrorProbe _ _ | .swapMatrix _ _ | .setStore _ _ | .setWindow _ _
  | .setExchange _ _ | .abortTransfer _ _ _ | .setTelemetry _ _ _ | .capture _ | .setPacer _ _
  | .setLines _ _ | .loadMatrix _ _ | .readBack _ _ | .loadTable _ _ | .applyShape _ _
  | .copySnapshot _ _ | .interlockEdge | .snapEdge | .markEdge | .periodStart | .pulseEnd
  | .lineSample _ _ _ => true

end Sys2Proof
end

