-- ==== Sys2Proof/Laws/PerInstr.lean ====
section
/-! SUPPORT. What well-formedness says of a command's operands, one lemma for each constructor. -/

namespace Sys2Proof

/-- What the bus and the registers can present, in numbers: the ranges of a command's operands (R157, R169, R213). -/
def Instr.Presentable : Instr → Prop
  | .timeLoRead first count => 1 ≤ count ∧ first + count ≤ 4
  | .registerWriteIgnored offset count _ => 1 ≤ count ∧ offset.toNat % 4 + count ≤ 4
  | .sweepReadCompletion _ slots => slots.length = 32 ∧ ∀ b ∈ slots, b.length = 128
  | .hostReadCompletion bytes => bytes ≠ []
  | .hostWriteRequest length => 1 ≤ length
  | _ => True

/-- A well-formed command has operands that can be presented. -/
def Laws.Formed.Statement (i : Instr) : Prop := i.wellFormed = true → i.Presentable

namespace Laws.Formed

theorem powerOn : Statement (.powerOn) := fun _ => trivial

theorem partReset (exchEn : Bool) : Statement (.partReset exchEn) := fun _ => trivial

theorem functionLevelReset : Statement (.functionLevelReset) := fun _ => trivial

theorem exchEnStart : Statement (.exchEnStart) := fun _ => trivial

theorem exchEnStop : Statement (.exchEnStop) := fun _ => trivial

theorem exchBaseLoWrite (value : BitVec 32) : Statement (.exchBaseLoWrite value) := fun _ => trivial

theorem exchBaseHiWrite (value : BitVec 32) : Statement (.exchBaseHiWrite value) := fun _ => trivial

theorem eventsWrite (value : BitVec 32) : Statement (.eventsWrite value) := fun _ => trivial

theorem eventMaskWrite (value : BitVec 32) : Statement (.eventMaskWrite value) := fun _ => trivial

theorem timeLoRead (first count : Nat) : Statement (.timeLoRead first count) := by
  simp [Statement, Instr.wellFormed, Instr.Presentable, wellFormedRead]

theorem registerWriteIgnored (offset : BitVec 12) (count : Nat) (value : BitVec 32) : Statement (.registerWriteIgnored offset count value) := by
  simp only [Statement, Instr.wellFormed, Instr.Presentable, wellFormedWrite, Bool.and_eq_true, decide_eq_true_eq]
  exact fun h => h.1

theorem segmentArrival (link : LinkIx) (early : Bool) (packet : List Byte) : Statement (.segmentArrival link early packet) := fun _ => trivial

theorem quietTimerExpiry (link : LinkIx) : Statement (.quietTimerExpiry link) := fun _ => trivial

theorem admitSegment : Statement (.admitSegment) := fun _ => trivial

theorem deadlineExpiry (slot : SlotIx) : Statement (.deadlineExpiry slot) := fun _ => trivial

theorem processEntry : Statement (.processEntry) := fun _ => trivial

theorem handOnValue : Statement (.handOnValue) := fun _ => trivial

theorem arbiterGrant : Statement (.arbiterGrant) := fun _ => trivial

theorem columnBurstArrival : Statement (.columnBurstArrival) := fun _ => trivial

theorem sealDecision : Statement (.sealDecision) := fun _ => trivial

theorem substitutionEnd : Statement (.substitutionEnd) := fun _ => trivial

theorem extractionEnd : Statement (.extractionEnd) := fun _ => trivial

theorem frameGapExpiry : Statement (.frameGapExpiry) := fun _ => trivial

theorem updateBegin : Statement (.updateBegin) := fun _ => trivial

theorem sendPoint : Statement (.sendPoint) := fun _ => trivial

theorem mirrorPacketArrival (mirror : MirrorIx) (early : Bool) (packet : List Byte) : Statement (.mirrorPacketArrival mirror early packet) := fun _ => trivial

theorem packetTransmitEnd (mirror : MirrorIx) : Statement (.packetTransmitEnd mirror) := fun _ => trivial

theorem receiptTimerExpiry (mirror : MirrorIx) : Statement (.receiptTimerExpiry mirror) := fun _ => trivial

theorem sweepTimerExpiry : Statement (.sweepTimerExpiry) := fun _ => trivial

theorem sweepReadCompletion (consumed : BitVec 32) (slots : List (List Byte)) : Statement (.sweepReadCompletion consumed slots) := by
  simp [Statement, Instr.wellFormed, Instr.Presentable, wellFormedSlots]

theorem hostAccessFailure (read : FailedRead) : Statement (.hostAccessFailure read) := fun _ => trivial

theorem transferStart : Statement (.transferStart) := fun _ => trivial

theorem hostReadCompletion (bytes : List Byte) : Statement (.hostReadCompletion bytes) := by
  simp [Statement, Instr.wellFormed, Instr.Presentable]

theorem loaderBurstComplete : Statement (.loaderBurstComplete) := fun _ => trivial

theorem readerBurstComplete : Statement (.readerBurstComplete) := fun _ => trivial

theorem confirmingReadCompletion : Statement (.confirmingReadCompletion) := fun _ => trivial

theorem setGeometry (h : OrderHead) (p : GeometryParams) : Statement (.setGeometry h p) := fun _ => trivial

theorem setSensor (h : OrderHead) (p : SensorOrderParams) : Statement (.setSensor h p) := fun _ => trivial

theorem setLoop (h : OrderHead) (p : LoopOrderParams) : Statement (.setLoop h p) := fun _ => trivial

theorem setGains (h : OrderHead) (p : GainsOrderParams) : Statement (.setGains h p) := fun _ => trivial

theorem setMirror (h : OrderHead) (p : MirrorOrderParams) : Statement (.setMirror h p) := fun _ => trivial

theorem loopOpen (h : OrderHead) : Statement (.loopOpen h) := fun _ => trivial

theorem loopClose (h : OrderHead) (ramp : BitVec 16) : Statement (.loopClose h ramp) := fun _ => trivial

theorem loopStop (h : OrderHead) : Statement (.loopStop h) := fun _ => trivial

theorem resume (h : OrderHead) : Statement (.resume h) := fun _ => trivial

theorem flatten (h : OrderHead) : Statement (.flatten h) := fun _ => trivial

theorem mirrorReset (h : OrderHead) (mirror : Byte) : Statement (.mirrorReset h mirror) := fun _ => trivial

theorem mirrorProbe (h : OrderHead) (mirror : Byte) : Statement (.mirrorProbe h mirror) := fun _ => trivial

theorem swapMatrix (h : OrderHead) (target : Byte) : Statement (.swapMatrix h target) := fun _ => trivial

theorem setStore (h : OrderHead) (pairMode : Byte) : Statement (.setStore h pairMode) := fun _ => trivial

theorem setWindow (h : OrderHead) (p : WindowOrderParams) : Statement (.setWindow h p) := fun _ => trivial

theorem setExchange (h : OrderHead) (periodUs : BitVec 16) : Statement (.setExchange h periodUs) := fun _ => trivial

theorem abortTransfer (h : OrderHead) (matchFlag ticket : Byte) : Statement (.abortTransfer h matchFlag ticket) := fun _ => trivial

theorem setTelemetry (h : OrderHead) (ring : BitVec 64) (capacity : BitVec 32) : Statement (.setTelemetry h ring capacity) := fun _ => trivial

theorem capture (h : OrderHead) : Statement (.capture h) := fun _ => trivial

theorem setPacer (h : OrderHead) (p : PacerOrderParams) : Statement (.setPacer h p) := fun _ => trivial

theorem setLines (h : OrderHead) (p : LinesOrderParams) : Statement (.setLines h p) := fun _ => trivial

theorem loadMatrix (h : OrderHead) (p : MatrixOrderParams) : Statement (.loadMatrix h p) := fun _ => trivial

theorem readBack (h : OrderHead) (p : ReadBackParams) : Statement (.readBack h p) := fun _ => trivial

theorem loadTable (h : OrderHead) (p : TableOrderParams) : Statement (.loadTable h p) := fun _ => trivial

theorem applyShape (h : OrderHead) (p : ShapeOrderParams) : Statement (.applyShape h p) := fun _ => trivial

theorem copySnapshot (h : OrderHead) (dest : BitVec 64) : Statement (.copySnapshot h dest) := fun _ => trivial

theorem interlockEdge : Statement (.interlockEdge) := fun _ => trivial

theorem snapEdge : Statement (.snapEdge) := fun _ => trivial

theorem markEdge : Statement (.markEdge) := fun _ => trivial

theorem periodStart : Statement (.periodStart) := fun _ => trivial

theorem pulseEnd : Statement (.pulseEnd) := fun _ => trivial

theorem lineSample (interlock snap mark : Bool) : Statement (.lineSample interlock snap mark) := fun _ => trivial

theorem hostWriteRequest (length : Nat) : Statement (.hostWriteRequest length) := by
  simp [Statement, Instr.wellFormed, Instr.Presentable]

end Laws.Formed

end Sys2Proof
end

