-- ==== Sys2Proof/Laws/Tables.lean ====
section
/-! SUPPORT. The sparse tables and the matrix store: what a read gives after each write, and that every operation keeps the
canonical form. -/

namespace Sys2Proof.Machine

/-! ## Reading after writing -/

theorem Sparse.find_put {α : Type} (t : Sparse α) (a b : Nat) (v : α) :
    Sparse.find (Sparse.put t a v) b = if b = a then some v else Sparse.find t b := by
  induction t with
  | nil => simp only [Sparse.put, Sparse.find]; split <;> split <;> simp_all
  | cons e rest ih =>
    obtain ⟨k, w⟩ := e
    simp only [Sparse.put]
    split
    · simp only [Sparse.find]; grind
    · split
      · simp only [Sparse.find]; grind
      · simp only [Sparse.find, ih]; grind

theorem Sparse.find_drop {α : Type} (t : Sparse α) (a b : Nat) :
    Sparse.find (Sparse.drop t a) b = if b = a then none else Sparse.find t b := by
  induction t with
  | nil => simp [Sparse.drop, Sparse.find]
  | cons e rest ih =>
    obtain ⟨k, w⟩ := e
    simp only [Sparse.drop] at ih ⊢
    by_cases h : k = a
    · rw [List.filter_cons_of_neg (by simp [h]), ih]; subst h; simp only [Sparse.find]; grind
    · rw [List.filter_cons_of_pos (by simp [h])]; simp only [Sparse.find, ih]; grind

/-- A table read after one write (the law of the sparse tables). -/
theorem Sparse.get_set {α : Type} [DecidableEq α] (d : α) (t : Sparse α) (a b : Nat) (v : α) :
    Sparse.get d (Sparse.set d t a v) b = if b = a then v else Sparse.get d t b := by
  simp only [Sparse.get, Sparse.set]
  split
  · rw [Sparse.find_drop]; split <;> simp_all
  · rw [Sparse.find_put]; split <;> simp_all

/-- A table read after the listed entries were written from a function. -/
theorem Sparse.get_setAll {α : Type} [DecidableEq α] (d : α) (t : Sparse α) (ks : List Nat) (f : Nat → α) (a : Nat) :
    Sparse.get d (Sparse.setAll d t ks f) a = if a ∈ ks then f a else Sparse.get d t a := by
  induction ks generalizing t with
  | nil => simp [Sparse.setAll]
  | cons k rest ih =>
    have := ih (Sparse.set d t k (f k))
    simp only [Sparse.setAll, List.foldl_cons] at this ⊢
    rw [this, Sparse.get_set]
    simp only [List.mem_cons]; split <;> split <;> simp_all

@[simp] theorem Sparse.get_nil {α : Type} (d : α) (a : Nat) : Sparse.get d [] a = d := rfl

/-! ## The canonical form -/

/-- Every index of the table is above a bound. -/
def Sparse.above {α : Type} (k : Nat) (t : Sparse α) : Prop := ∀ e ∈ t, k < e.1

/-- The canonical form, one entry at a time. -/
theorem Sparse.wf_cons {α : Type} [DecidableEq α] (d : α) (k : Nat) (v : α) (t : Sparse α) :
    Sparse.wf d ((k, v) :: t) = true ↔ v ≠ d ∧ Sparse.above k t ∧ Sparse.wf d t = true := by
  induction t generalizing k v with
  | nil => simp [Sparse.wf, Sparse.above]
  | cons e rest ih =>
    obtain ⟨k', v'⟩ := e
    have h := ih k' v'
    simp only [Sparse.wf, Bool.and_eq_true, decide_eq_true_eq, Sparse.above, List.mem_cons] at h ⊢
    constructor
    · rintro ⟨⟨a, b⟩, c⟩
      refine ⟨by simpa using a, ?_, c⟩
      rintro e (rfl | he)
      · exact b
      · have := (h.mp c).2.1 e he; omega
    · rintro ⟨a, b, c⟩
      exact ⟨⟨by simpa using a, b _ (Or.inl rfl)⟩, c⟩

theorem Sparse.above_put {α : Type} (k a : Nat) (v : α) (t : Sparse α) (h : Sparse.above k t) (ha : k < a) :
    Sparse.above k (Sparse.put t a v) := by
  induction t with
  | nil => simpa [Sparse.put, Sparse.above] using ha
  | cons e rest ih =>
    obtain ⟨j, w⟩ := e
    have h1 : k < j := h _ (List.mem_cons_self ..)
    have h2 : Sparse.above k rest := fun e he => h e (List.mem_cons_of_mem _ he)
    have h3 := ih h2
    simp only [Sparse.put]
    split
    · intro e he; simp only [List.mem_cons] at he; rcases he with rfl | rfl | he
      · exact ha
      · exact h1
      · exact h2 e he
    · split
      · intro e he; simp only [List.mem_cons] at he; rcases he with rfl | he
        · exact ha
        · exact h2 e he
      · intro e he; simp only [List.mem_cons] at he; rcases he with rfl | he
        · exact h1
        · exact h3 e he

/-- Listing an entry that is not the default keeps the canonical form. -/
theorem Sparse.wf_put {α : Type} [DecidableEq α] (d : α) (t : Sparse α) (a : Nat) (v : α) (h : Sparse.wf d t = true)
    (hv : v ≠ d) : Sparse.wf d (Sparse.put t a v) = true := by
  induction t with
  | nil => simp [Sparse.put, Sparse.wf, hv]
  | cons e rest ih =>
    obtain ⟨k, w⟩ := e
    obtain ⟨hw, hab, hr⟩ := (Sparse.wf_cons d k w rest).mp h
    simp only [Sparse.put]
    split
    · rename_i hak
      refine (Sparse.wf_cons d a v _).mpr ⟨hv, ?_, h⟩
      intro e he; simp only [List.mem_cons] at he; rcases he with rfl | he
      · exact hak
      · have := hab e he; omega
    · split
      · rename_i hak; subst hak
        exact (Sparse.wf_cons d _ v _).mpr ⟨hv, hab, hr⟩
      · rename_i h1 h2
        exact (Sparse.wf_cons d _ w _).mpr ⟨hw, Sparse.above_put _ _ _ _ hab (by omega), ih hr⟩

/-- Removing an entry keeps the canonical form. -/
theorem Sparse.wf_drop {α : Type} [DecidableEq α] (d : α) (t : Sparse α) (a : Nat) (h : Sparse.wf d t = true) :
    Sparse.wf d (Sparse.drop t a) = true := by
  induction t with
  | nil => simp [Sparse.drop, Sparse.wf]
  | cons e rest ih =>
    obtain ⟨k, w⟩ := e
    obtain ⟨hw, hab, hr⟩ := (Sparse.wf_cons d k w rest).mp h
    have := ih hr
    simp only [Sparse.drop, List.filter_cons] at this ⊢
    split
    · exact (Sparse.wf_cons d _ w _).mpr ⟨hw, fun e he => hab e (List.mem_filter.mp he).1, this⟩
    · exact this

/-- Writing one entry keeps the canonical form. -/
theorem Sparse.wf_set {α : Type} [DecidableEq α] (d : α) (t : Sparse α) (a : Nat) (v : α) (h : Sparse.wf d t = true) :
    Sparse.wf d (Sparse.set d t a v) = true := by
  simp only [Sparse.set]
  split
  · exact Sparse.wf_drop d t a h
  · rename_i hv; exact Sparse.wf_put d t a v h hv

/-- Writing the listed entries keeps the canonical form. -/
theorem Sparse.wf_setAll {α : Type} [DecidableEq α] (d : α) (t : Sparse α) (ks : List Nat) (f : Nat → α)
    (h : Sparse.wf d t = true) : Sparse.wf d (Sparse.setAll d t ks f) = true := by
  induction ks generalizing t with
  | nil => exact h
  | cons k rest ih => exact ih _ (Sparse.wf_set d t k (f k) h)

/-! ## The matrix store -/

/-- A byte of the store read after one byte was written. -/
theorem Memory.read_write (m : List Host.Cell) (a b : Nat) (v : Byte) :
    Memory.read (Memory.write m a v) b = if b = a then some v else Memory.read m b := Sparse.find_put m a b v

/-- The store's canonical form, one cell at a time. -/
theorem Memory.wf_cons (k : Nat) (v : Byte) (t : List Host.Cell) :
    Memory.wf ((k, v) :: t) = true ↔ Sparse.above k t ∧ Memory.wf t = true := by
  induction t generalizing k v with
  | nil => simp [Memory.wf, Sparse.above]
  | cons e rest ih =>
    obtain ⟨k', v'⟩ := e
    have h := ih k' v'
    simp only [Memory.wf, Bool.and_eq_true, decide_eq_true_eq, Sparse.above, List.mem_cons] at h ⊢
    constructor
    · rintro ⟨b, c⟩
      refine ⟨?_, c⟩
      rintro e (rfl | he)
      · exact b
      · have := (h.mp c).1 e he; omega
    · rintro ⟨b, c⟩
      exact ⟨b _ (Or.inl rfl), c⟩

/-- Writing one byte keeps the store's canonical form. -/
theorem Memory.wf_write (m : List Host.Cell) (a : Nat) (v : Byte) (h : Memory.wf m = true) :
    Memory.wf (Memory.write m a v) = true := by
  induction m with
  | nil => simp [Memory.write, Sparse.put, Memory.wf]
  | cons e rest ih =>
    obtain ⟨k, w⟩ := e
    obtain ⟨hab, hr⟩ := (Memory.wf_cons k w rest).mp h
    simp only [Memory.write, Sparse.put] at ih ⊢
    split
    · rename_i hak
      refine (Memory.wf_cons a v _).mpr ⟨?_, h⟩
      intro e he; simp only [List.mem_cons] at he; rcases he with rfl | he
      · exact hak
      · have := hab e he; omega
    · split
      · rename_i hak; subst hak
        exact (Memory.wf_cons _ v _).mpr ⟨hab, hr⟩
      · rename_i h1 h2
        exact (Memory.wf_cons _ w _).mpr ⟨Sparse.above_put _ _ _ _ hab (by omega), ih hr⟩

/-- Writing a run of bytes keeps the store's canonical form. -/
theorem Memory.wf_writeAll (m : List Host.Cell) (a : Nat) (data : List Byte) (h : Memory.wf m = true) :
    Memory.wf (Memory.writeAll m a data) = true := by
  induction data generalizing m a with
  | nil => exact h
  | cons b rest ih => exact ih _ _ (Memory.wf_write m a b h)

/-- The store after power-on has the canonical form. -/
theorem Memory.wf_reset : Memory.wf State.reset.part.mxs.store = true := rfl

end Sys2Proof.Machine
end

