-- ==== Sys2Proof/Tests/Slice0.lean ====
section
/-! SUPPORT. Tests of the model against the manual's own examples and tables, a smoke test of each well-formedness check, and for
every statement with hypotheses a concrete state and operands that meet them. -/

namespace Sys2Proof.Tests

open Sys2Proof.Machine

/-! ## Small parts to test on -/

/-- The part after a command. -/
def ran (c : Instr) (p : Part) : Part :=
  match exec c ⟨p, []⟩ with
  | .next t => t.part
  | .fault _ => p
  | .refused _ => p

/-- The power-on part with the exchange running. -/
def exchanging : Part := { Part.powerOn with xu := { Xu.powerOn with exchEn := true } }

/-- An order in the last slot, with its notify flag. -/
def order : OrderHead := ⟨31, true⟩

/-- A part with its loop in a state. -/
def looping (st : LoopState) (p : Part) : Part := { p with lpc := { p.lpc with loop := st } }

/-- A part whose sensor link 3 is in a state, its sensor with n subapertures. -/
def linked (st : LinkState) (n : Nat) (p : Part) : Part :=
  { p with
    links := p.links.set 3 { p.links.get 3 with state := st, enable := true }
    geo := { p.geo with n := p.geo.n.set 3 n, isSet := true } }

/-- A part whose mirror link 1 is in a state. -/
def mirrored (st : MirrorState) (p : Part) : Part :=
  { p with mlt := p.mlt.set 1 { p.mlt.get 1 with state := st, enable := true } }

/-- A sensor packet of records that are all 0. -/
def slopesPacket (id frame index count records : Nat) : List Byte :=
  withCrc (leBytes 1 0x51 ++ leBytes 1 id ++ leBytes 2 frame ++ leBytes 1 index ++ leBytes 1 count ++ leBytes 1 records ++
    zeros (1 + 6 * records))

/-- A part whose slot 1 is in a state, its sealing mark as given, with a frame number. -/
def slotted (st : SlotState) (sealing : Bool) (f : Serial) (p : Part) : Part :=
  { p with fra := { p.fra with slots := p.fra.slots.set 1 { p.fra.slots.get 1 with state := st, sealing := sealing, frame := f } } }

/-! ## Well-formedness: a term that each check refuses -/

theorem test_wf_read_past_register : (Instr.timeLoRead 3 2).wellFormed = false := by decide
theorem test_wf_read_of_nothing : (Instr.timeLoRead 0 0).wellFormed = false := by decide
theorem test_wf_write_past_position : (Instr.registerWriteIgnored 0x1B 2 0).wellFormed = false := by decide
theorem test_wf_write_not_ignored : (Instr.registerWriteIgnored 0x10 4 0).wellFormed = false := by decide
theorem test_wf_sweep_lacks_slots : (Instr.sweepReadCompletion 0 [zeros 128]).wellFormed = false := by decide
theorem test_wf_sweep_short_slot : (Instr.sweepReadCompletion 0 (List.replicate 32 (zeros 127))).wellFormed = false := by
  decide +kernel
theorem test_wf_read_without_bytes : (Instr.hostReadCompletion []).wellFormed = false := by decide
theorem test_wf_write_request_of_nothing : (Instr.hostWriteRequest 0).wellFormed = false := by decide

/-! ## Formats (chapter 11) -/

/-- The check value of R210. -/
theorem test_crc_check_value : crc16 [0x31, 0x32, 0x33, 0x34, 0x35, 0x36, 0x37, 0x38, 0x39] = 0x29B1 := by decide +kernel

/-- A RECEIPT of section 11.3: mirror 1, sequence 0x1234, BUSY, no fault. -/
theorem test_receipt_read :
    driverPacket [0x71, 0x01, 0x34, 0x12, 0x03, 0xFE, 0, 0] = some (.receipt 1 0x1234 .busy false) := by decide

/-- A REPLY of section 11.3: ready, no fault, last accepted 0x0102. -/
theorem test_reply_read : driverPacket [0x72, 0x01, 0x02, 0x01, 0, 0] = some (.reply true false 0x0102) := by decide

/-- The status codes of section 11.3 end at 3. -/
theorem test_receipt_status_4 : driverPacket [0x71, 0x01, 0x34, 0x12, 0x04, 0x00, 0, 0] = none := by decide

/-- Record 1 of a segment stands at offset 0x0E (section 11.2). -/
theorem test_record_1_read :
    segRecord (zeros 14 ++ [0x01, 0x80, 0xFF, 0xFF, 0x10, 0x00]) 1 = ⟨0x8001, 0xFFFF, 0x0010⟩ := by decide

/-- A posted SET_WINDOW, its offsets as section 11.6 gives them from the slot's start: index at 0x08, enable at 0x09, part base at
0x10, size at 0x18, host address at 0x20. -/
theorem test_slot_read :
    postedSlot 7 ([0x01, 0x2A, 0x0F, 0x00, 0x01, 0, 0, 0, 0x02, 0x01] ++ zeros 6 ++ leBytes 8 0x1000 ++ leBytes 8 0x2000 ++
      leBytes 8 0x3000 ++ zeros 88) =
      some ⟨7, 0x2A, true, .setWindow ⟨2, 1, 0x1000, 0x2000, 0x3000⟩⟩ := by decide

/-- A posted LOAD_MATRIX: bank, E, S, A, check word and source. -/
theorem test_slot_load_matrix :
    postedSlot 0 ([0x01, 0x00, 0x20, 0x00, 0x00, 0, 0, 0, 0x01, 0x0C] ++ leBytes 2 20480 ++ leBytes 2 4096 ++ zeros 2 ++
      leBytes 4 0xFFFF8003 ++ zeros 4 ++ leBytes 8 0x40 ++ zeros 96) =
      some ⟨0, 0x00, false, .loadMatrix ⟨1, 12, 20480, 4096, 0xFFFF8003, 0x40⟩⟩ := by decide

/-- A kind code of no entry of the order table (R159). -/
theorem test_slot_unknown_kind : orderOf 0x0016 [] = .unknownKind 0x0016 := by decide

/-- IDENT as it reads (R150). -/
theorem test_ident : Part.powerOn.readRegister 0x00 = 0x21B8DB01 := by decide

/-- A read of one byte of IDENT returns that byte (R213). -/
theorem test_ident_byte : Part.powerOn.readAt 1 1 = [0xDB] := by decide

/-! ## Arithmetic (chapters 2 to 6) -/

/-- The slope bases of R22's example. -/
theorem test_slope_bases :
    let g : Geometry := ⟨⟨150, 0, 2560, 600⟩, 3000, 1096, true⟩
    g.base 0 = 0 ∧ g.base 1 = 300 ∧ g.base 2 = 300 ∧ g.base 3 = 5420 ∧ g.slopes = 6620 ∧ g.mirrorOf 3000 = 1 := by decide

/-- The segments of R22's example. -/
theorem test_segments :
    segmentCount 150 = 3 ∧ recordCount 150 2 = 22 ∧ segmentCount 600 = 10 ∧ recordCount 600 9 = 24 := by decide

/-- The third and fourth rows of R52's table. -/
theorem test_condition_rounds_and_saturates :
    conditionSlope (-3) 0 8192 = ⟨-1, false⟩ ∧ conditionSlope 32000 (-1000) 16384 = ⟨32767, true⟩ := by decide

/-- The second, fifth and last rows of R52's table. -/
theorem test_condition_weights :
    conditionSlope (-700) (-60) 24576 = ⟨-960, false⟩ ∧ conditionSlope 20000 0 32768 = ⟨32767, true⟩ ∧
      conditionSlope (-32768) 32767 65535 = ⟨-32768, true⟩ := by decide

/-- Rows of R66's table. -/
theorem test_residuals_round :
    residualOf 12 6144 = 2 ∧ residualOf 12 (-6144) = -1 ∧ residualOf 1 (-1) = 0 ∧ residualOf 0 7 = 7 := by decide

/-- The rows of R66's table about the residual range. -/
theorem test_residuals_saturate :
    residualSaturates 12 34359736319 = false ∧ residualOf 12 34359738368 = 8388607 ∧
      residualSaturates 12 34359738368 = true ∧ residualSaturates 12 (-34359740416) = false ∧
      residualOf 0 (-39693200) = -8388608 := by decide

/-- The ramp of R114's example. -/
theorem test_ramp :
    [1, 2, 3, 4, 5].map (fun k => effectiveGain 32768 k 4) = [8192, 16384, 24576, 32768, 32768] := by decide

/-! ## One step of a command -/

/-- Section 10.6, the period that begins at 1,000: sum 98,304, carry, accumulator 32,768, length 1,001. -/
theorem test_period_with_carry :
    let x : Pacer := ⟨true, ⟨1000, 49152, 20⟩, none, 49152, 0, 1000, false⟩
    let p := ran .periodStart { Part.powerOn with tlu := { Tlu.powerOn with timebase := 1000, pacer := x } }
    p.tlu.pacer = ⟨true, ⟨1000, 49152, 20⟩, none, 32768, 1000, 1001, true⟩ := by decide

/-- Section 10.6, the period that begins at 5,003 takes the pending values from an accumulator of 0. -/
theorem test_period_takes_pending :
    let x : Pacer := ⟨true, ⟨1000, 49152, 20⟩, some ⟨2000, 0, 50⟩, 49152, 4003, 1000, false⟩
    let p := ran .periodStart { Part.powerOn with tlu := { Tlu.powerOn with timebase := 5003, pacer := x } }
    p.tlu.pacer = ⟨true, ⟨2000, 0, 50⟩, none, 0, 5003, 2000, true⟩ := by decide

/-- Section 10.7, the sample at 50: the third consecutive one at a count of 2. -/
theorem test_third_sample_accepted :
    let l : Tlu := { Tlu.powerOn with timebase := 50, nextSample := 50, snap := ⟨false, 2, 2, false⟩ }
    (ran (.lineSample false true false) { Part.powerOn with tlu := l }).tlu.snap = ⟨false, 0, 2, true⟩ := by decide

/-- Section 10.7, the sample at 20 ends the run that the sample at 10 began. -/
theorem test_glitch_ignored :
    let l : Tlu := { Tlu.powerOn with timebase := 20, nextSample := 20, snap := ⟨false, 1, 2, false⟩ }
    (ran (.lineSample false false false) { Part.powerOn with tlu := l }).tlu.snap = ⟨false, 0, 2, false⟩ := by decide

/-- Past the last multiple of 10 before the wrap of the timebase, the next sample is at 0 (R195, R200). -/
theorem test_sample_at_wrap :
    let l : Tlu := { Tlu.powerOn with timebase := 0xFFFFFFFFFFFFFFFF, nextSample := 0xFFFFFFFFFFFFFFFA }
    let q := ran (.lineSample false false false) { Part.powerOn with tlu := l }
    q.tlu.timebase = 0 ∧ q.tlu.nextSample = 10 := by decide

/-- Section 10.7, the rising edge: not blocked in CLOSED, counted as qualified, a capture requested. -/
theorem test_snap_edge_qualified :
    let p := ran .snapEdge { looping .closed .powerOn with tlu := { Tlu.powerOn with snap := ⟨false, 0, 2, true⟩ } }
    p.tlu.snap.level = true ∧ p.tlu.qualifiedSnaps = 1 ∧ p.sns.capturePending = true := by decide

/-- A rising INTERLOCK edge holds a CLOSED loop (R99, R202). -/
theorem test_interlock_holds :
    let p := ran .interlockEdge { looping .closed .powerOn with tlu := { Tlu.powerOn with interlock := ⟨false, 0, 3, true⟩ } }
    p.lpc.loop = .held ∧ p.lpc.firstCause = some .interlock ∧ p.tlu.events = 0x82 := by decide

/-- Section 10.7: a mask bit that changes from 0 to 1 with its flag set sends one message. -/
theorem test_mask_write_signals :
    (ran (.eventMaskWrite 0x22) { Part.powerOn with tlu := { Tlu.powerOn with events := 2, mask := 0x20 } }).issued =
      [.msi] := by decide

/-- A read of the two high bytes of TIME_LO returns them and latches the high half (R196, R213). -/
theorem test_time_read :
    let p := ran (.timeLoRead 2 2) { Part.powerOn with tlu := { Tlu.powerOn with timebase := 0x0000000500AABBCC } }
    p.issued = [.readData [0xAA, 0x00]] ∧ p.tlu.latch = 5 := by decide

/-- Frame numbers wrap: in ACQUIRING with L = 65,535 a segment of frame 0 brings the link to TRACKING (R7). -/
theorem test_admission_wraps :
    let p := linked .acquiring 1 (looping .opened .powerOn)
    let q := ran (.segmentArrival 3 false (slopesPacket 0 0 0 1 1))
      { p with links := p.links.set 3 { p.links.get 3 with lastFrame := some 0xFFFF } }
    (q.links.get 3).state = .tracking ∧ (q.links.get 3).fifo.length = 1 := by decide +kernel

/-- R80's example: the sum of the columns (1, −2, 32,767) and (−32,768, −32,768, 5) is 0xFFFF8003. -/
theorem test_check_sum :
    let b : Bulk := ⟨⟨0, 0, 0x0020, false⟩, .loadMatrix 1 2 3 0 0xFFFF8003, 0, 12⟩
    let p : Part := { Part.powerOn with
      xu := { Xu.powerOn with lane := some ⟨b, 12, 0, [], false⟩ }
      mxs := { Mxs.powerOn with load := some ⟨1, 0, [], 0, 0, 0, none⟩ } }
    ((ran (.hostReadCompletion ([1, -2, 32767, -32768, -32768, 5].flatMap fun v => leBytes 2 (BitVec.ofInt 16 v).toNat)) p
      ).mxs.load.map (·.sum)) = some 0xFFFF8003 := by decide

/-- A read that crosses a coefficient: the half that has come waits for the next byte. -/
theorem test_half_coefficient_waits :
    let b : Bulk := ⟨⟨0, 0, 0x0020, false⟩, .loadMatrix 1 2 3 0 0, 0, 12⟩
    let p : Part := { Part.powerOn with
      xu := { Xu.powerOn with lane := some ⟨b, 12, 0, [], false⟩ }
      mxs := { Mxs.powerOn with load := some ⟨1, 0, [], 0, 0, 0, none⟩ } }
    ((ran (.hostReadCompletion [0xFE]) p).mxs.load.map fun l => (l.sum, l.low)) = some (0, some 0xFE) := by decide

/-- A receipt of ACCEPTED for the newer of two frames retires both, the older as IMPLICIT (R133, R134). -/
theorem test_receipt_retires_older :
    let p := mirrored .running .powerOn
    let q := ran (.mirrorPacketArrival 1 false (withCrc [0x71, 1, 0, 0, 0, 0]))
      { p with mlt := p.mlt.set 1 { p.mlt.get 1 with outstanding := [⟨0xFFFF, some 0⟩, ⟨0, some 9⟩] } }
    (q.mlt.get 1).outstanding = [] ∧ (q.mlt.get 1).counters.accepted = 1 ∧ (q.mlt.get 1).counters.implicitly = 1 := by
  decide +kernel

/-- The step takes the front command, and the others wait. -/
theorem test_step_takes_front :
    step ⟨.powerOn, [.eventsWrite 0, .capture order]⟩ = exec (.eventsWrite 0) ⟨.powerOn, [.capture order]⟩ := rfl

/-- SET_EXCHANGE below its range: the period is 10, and the order reports TAKEN, a result with the ADJUSTED note, DONE, and its
notify flag (R163, R174). -/
theorem test_set_exchange :
    let p := ran (.setExchange ⟨1, false⟩ 9) exchanging
    p.xu.periodUs = 10 ∧ p.xu.nextTicket = 1 ∧ p.tlu.events = 0 ∧
      p.issued = [.hostWrite 0x1080 [2], .hostWrite 0x10E0 ([0, 1] ++ zeros 30), .hostWrite 0x1080 [3]] := by decide

/-- LOOP_OPEN right after power-on: the geometry is not set, first detail word 1 (R95). -/
theorem test_loop_open_unset :
    (ran (.loopOpen ⟨0, false⟩) exchanging).issued =
      [.hostWrite 0x1000 [2], .hostWrite 0x1060 ([Reason.geometryMismatch.code] ++ zeros 3 ++ leBytes 4 1 ++ zeros 24),
        .hostWrite 0x1000 [4]] := by decide

/-- An order's command does nothing while the exchange is stopped (R155). -/
theorem test_no_order_while_stopped : ran (.capture order) .powerOn = .powerOn := by decide

/-- A QUERY that leaves the link: kind, mirror id, CRC (section 11.3). -/
theorem test_query_leaves :
    let p := mirrored .checking .powerOn
    ((ran (.packetTransmitEnd 1) { p with mlt := p.mlt.set 1 { p.mlt.get 1 with tx := [.query false] } }).issued) =
      [.packet 1 (withCrc [0x62, 0x01])] := by decide +kernel

/-! ## States and operands that meet the hypotheses of the statements, clause by clause -/

theorem test_meets_EmptyQueuePassesOneMicrosecond : Machine.State.reset.pending = [] := rfl

/-- Both values of EXCH_EN, the ends of a read, and each ground on which a write is ignored. -/
theorem test_meets_RegistersWrittenAndRead :
    exchanging.xu.exchEn = true ∧ Part.powerOn.xu.exchEn = false ∧ (1 ≤ 4 ∧ 0 + 4 ≤ 4) ∧ (1 ≤ 1 ∧ 3 + 1 ≤ 4) ∧
      (1 ≤ 4 ∧ 0x1C % 4 + 4 ≤ 4) ∧ (1 ≤ 1 ∧ 0x1F % 4 + 1 ≤ 4) ∧ (0x20 ≤ 0x20) ∧
      ((0x11 : BitVec 12).toNat % 4 + 3 ≤ 4 ∧ (3 : Nat) < 4) ∧ ((0x20 : BitVec 12).toNat % 4 + 4 ≤ 4 ∧ 0x20 ≤ (0x20 : BitVec 12).toNat) ∧
      (∀ offset ∈ [(0x00 : BitVec 12), 0x04, 0x18, 0x1C], offset.toNat % 4 + 4 ≤ 4) ∧
      ((0x04 : BitVec 12) = 0x04 ∧ (1 : BitVec 32).getLsbD 1 = false ∧ (1 : BitVec 32).getLsbD 0 = exchanging.xu.exchEn) := by
  decide

/-- A mask write that signals, one that does not, and one with messages disabled. -/
theorem test_meets_EventFlagsAndMask :
    let p : Part := { Part.powerOn with tlu := { Tlu.powerOn with events := 0x80 } }
    ((0x80 : BitVec 32).getLsbD Event.interlock.bit = true ∧ p.tlu.mask.getLsbD Event.interlock.bit = false ∧
      p.tlu.events.getLsbD Event.interlock.bit = true ∧ p.xu.memRequests = true ∧ p.xu.msiEnabled = true) ∧
    ([Event.orderFinished, .loopState, .sensorLink, .mirrorLink, .telemetryDrop, .snapshotHeld, .hostAccess, .interlock].all
      fun e => !(0x7F : BitVec 32).getLsbD e.bit || p.tlu.mask.getLsbD e.bit || !p.tlu.events.getLsbD e.bit) = true ∧
    ({ p.xu with msiEnabled := false } : Xu).msiEnabled = false := by decide

/-- The exchange stopped and running; running with nothing in flight, and with an order in each place that a stop empties. -/
theorem test_meets_ExchangeStartsAndStops :
    exchanging.xu.exchEn = true ∧ exchanging.xu.memRequests = true ∧ Part.powerOn.xu.exchEn = false ∧
    stoppedOrders exchanging = [] ∧ exchanging.xu.lane = none ∧
    (let b : Bulk := ⟨⟨2, 2, 0x0021, true⟩, .readBank 1 0 1, 0, 64⟩
     let probing (slot : Fin 32) : MirrorLink := { exchanging.mlt.get 0 with state := .idle, probe := some ⟨⟨slot, 3, 0x000C, true⟩, none⟩ }
     let p : Part := { exchanging with
       xu := { exchanging.xu with
         lane := some ⟨⟨⟨1, 1, 0x0024, true⟩, .copySnapshot, 0, 65600⟩, 65600, 65536, [], false⟩
         queue := [b] }
       mxs := { exchanging.mxs with pendingSwap := some ⟨1, ⟨3, 3, 0x000D, false⟩⟩ }
       mlt := ⟨probing 4, probing 5⟩ }
     p.xu.exchEn = true ∧ (stoppedOrders p).map (fun x => (x.1.slot, x.2.d4)) = [(1, 64), (2, 64), (3, 0), (4, 0), (5, 0)]) := by
  decide

/-- A part in which a reset finds something in every block: a kept slope, a limits entry with a value at its upper limit, a bank
LOADING with a loader burst granted, a pending swap whose order has its notify flag, and two packets on each mirror link. -/
def resetting : Part :=
  let p := mirrored .running (linked .tracking 64 exchanging)
  { p with
    scn := { p.scn with kept := [(5, ⟨7, 2⟩)], refShadow := [(1, 2)], refWaiting := true }
    rca := { p.rca with stream := [⟨1, 0, 5, 0, 0⟩] }
    mxs := { p.mxs with
      banks := ⟨⟨.loading, 2, 1, 0, 0, 2⟩, ⟨.ready, 2, 1, 0, 0, 4⟩⟩
      pendingSwap := some ⟨1, ⟨30, 0, 0x000D, true⟩⟩
      bursts := [.loader 4 [3, 0] true] }
    lpc := { p.lpc with loop := .opened, u := [(7, 256)], limLive := [(7, ⟨1, 9, 5, true⟩)] }
    mlt := (Two.both { p.mlt.get 1 with tx := [.frame 1 [0], .query false] }) }

/-- Each reset, of a part in which something is under way in every block. -/
theorem test_meets_PartReset :
    (Instr.functionLevelReset = .functionLevelReset ∧ (∃ b, Instr.partReset true = .partReset b) ∧
      ∃ b, Instr.partReset false = .partReset b) ∧
    (resetting.mxs.banks.get 0).state = .loading ∧ resetting.mxs.pendingSwap.isSome = true ∧
    Sparse.wf Limits.powerOn resetting.lpc.limLive = true ∧ Sparse.wf Limits.powerOn Part.powerOn.lpc.limLive = true :=
  ⟨⟨rfl, ⟨true, rfl⟩, ⟨false, rfl⟩⟩, by decide⟩

/-- Packets at the bounds of each check: too short, of another kind, with 0 and 41 segments, index 40, 0 and 65 records, a length
that does not agree; well formed with a wrong CRC; foreign; misplaced; and OFF. -/
theorem test_meets_FailedSegmentsCountOnce :
    (Part.powerOn.links.get 3).state = .off ∧ ((linked .quiet 1 .powerOn).links.get 3).state ≠ .off ∧
    segmentMalformed (zeros 7) ∧ segmentMalformed (zeros 14) ∧ segmentMalformed (slopesPacket 0 0 0 0 1) ∧
    segmentMalformed (slopesPacket 0 0 0 41 1) ∧ segmentMalformed (slopesPacket 0 0 40 40 1) ∧
    segmentMalformed (slopesPacket 0 0 0 1 0) ∧ segmentMalformed (slopesPacket 0 0 0 1 65) ∧
    segmentMalformed (slopesPacket 0 0 0 1 1 ++ [0]) ∧
    (¬ segmentMalformed (0x51 :: 0 :: 0 :: 0 :: 39 :: 40 :: 1 :: zeros 9) ∧
      crcMatches (0x51 :: 0 :: 0 :: 0 :: 39 :: 40 :: 1 :: zeros 9) = false) ∧
    (¬ segmentMalformed (slopesPacket 1 0 0 1 1) ∧ crcMatches (slopesPacket 1 0 0 1 1) = true ∧
      (byteAt (slopesPacket 1 0 0 1 1) 1).toNat ≠ ((linked .quiet 1 .powerOn).links.get 3).expectedId) ∧
    ((byteAt (slopesPacket 0 0 0 1 1) 1).toNat = ((linked .quiet 2 .powerOn).links.get 3).expectedId ∧
      segmentMisplaced 2 (slopesPacket 0 0 0 1 1) ∧ segmentMisplaced 64 (slopesPacket 0 0 0 2 64)) := by
  unfold segmentMalformed segmentMisplaced
  and_intros <;> decide +kernel

/-- The first and the last segment of a sensor, on a link that is TRACKING, ACQUIRING with and without L + 1 (which wraps), and QUIET;
in a stopped and an open loop; with 15 and 16 segments in the FIFO. -/
theorem test_meets_ValidSegmentMovesTheLink :
    segmentValid (linked .tracking 1 .powerOn) 3 (slopesPacket 0 0 0 1 1) ∧
    segmentValid (linked .quiet 2497 (looping .opened .powerOn)) 3 (slopesPacket 0 0 39 40 1) ∧
    some (field16 (slopesPacket 0 0 0 1 1) 2 - 1) = some 0xFFFF ∧
    ((linked .acquiring 1 .powerOn).links.get 3).lastFrame = none ∧
    (List.replicate 15 (⟨3, 0, 0, []⟩ : Segment)).length < 16 ∧ 16 ≤ (List.replicate 16 (⟨3, 0, 0, []⟩ : Segment)).length := by
  unfold segmentValid segmentMalformed segmentMisplaced
  decide +kernel

/-- A running quiet timer, in each link state. -/
theorem test_meets_QuietTimerExpires :
    ∀ st ∈ [LinkState.off, .acquiring, .tracking, .quiet],
      let p := linked st 1 .powerOn
      let q := { p with links := p.links.set 3 { p.links.get 3 with quietTimer := some 0 } }
      (q.links.get 3).quietTimer = some 0 ∧ (q.links.get 3).state = st := by decide

/-- An order can be taken from the last slot. The bounds of each refused value, and both values of enable on an OFF link, on one that
is not, and with another id. -/
theorem test_meets_SetSensorEffects :
    exchanging.readyFor order ∧ (3 < (4 : Byte).toNat ∧ 1 < (2 : Byte).toNat ∧ 15 < (16 : Byte).toNat) ∧
    ¬ (3 < (3 : Byte).toNat ∨ 1 < (1 : Byte).toNat ∨ 15 < (15 : Byte).toNat ∨ 2 < (2 : Byte).toNat) ∧
    (exchanging.links.get 3).state = .off ∧
    (linked .tracking 1 exchanging).readyFor order ∧ ((linked .tracking 1 exchanging).links.get 3).state ≠ .off ∧
    (15 : Byte).toNat ≠ ((linked .tracking 1 exchanging).links.get 3).expectedId ∧
    (0 : Byte).toNat = ((linked .tracking 1 exchanging).links.get 3).expectedId := by decide

/-- Counts and sums at their bounds, in STOPPED and in another state; a pending swap whose target fits the new geometry, and does
not. -/
theorem test_meets_GeometryReplacedAndNumbered :
    exchanging.readyFor order ∧ exchanging.mxs.pendingSwap = none ∧ exchanging.lpc.loop = .stopped ∧
    (looping .held exchanging).readyFor order ∧ (looping .held exchanging).lpc.loop ≠ .stopped ∧
    (2560 < (2561 : BitVec 16).toNat ∧ 4096 < (4097 : BitVec 16).toNat ∧ (0 : Nat) + 0 < 1 ∧ 4096 < 4096 + 1) ∧
    ((∀ i, ¬ 2560 < ((Four.all (2560 : BitVec 16)).get i).toNat) ∧ ¬ 4096 < (4096 : BitVec 16).toNat ∧ ¬ 4096 + 0 < 1 ∧
      ¬ 4096 < 4096 + 0 ∧ ¬ 0 + 1 < 1) ∧
    (let p := looping .stopped resetting
     p.readyFor order ∧ p.lpc.loop = .stopped ∧ p.mxs.pendingSwap = some ⟨1, ⟨30, 0, 0x000D, true⟩⟩ ∧
      ((p.mxs.banks.get 1).s = 2 * (0 + 0 + 0 + 1) ∧ (p.mxs.banks.get 1).a = 0 + 1) ∧
      (p.mxs.banks.get 1).s ≠ 2 * (0 + 0 + 0 + 2560)) := by decide

/-- A part that admits: link 3 first after the round-robin position 2, slot 1 collecting frame 9 with sensor 3 present. -/
def admitting (present : Bool) (received : List Nat) (f : Serial) : Part :=
  let p := slotted .assembling false 9 (linked .tracking 64 (looping .opened .powerOn))
  { p with
    links := p.links.set 3 { p.links.get 3 with fifo := [⟨3, f, 0, []⟩] }
    fra := { p.fra with
      rr := 2
      slots := p.fra.slots.set 1 { p.fra.slots.get 1 with
        present := (Four.all false).set 3 present
        received := (Four.all []).set 3 received } } }

/-- A part that admits to slot 1, which collects frame 9 beside a slot 0 that collects another. -/
def collectingBoth (f : Serial) : Part :=
  let p := admitting true [] 9
  { p with fra := { p.fra with slots := p.fra.slots.set 0 { p.slot 1 with frame := f } } }

/-- The other slot's frame older, newer, and exactly 32,768 away. -/
theorem test_two_collecting_slots :
    ([8, 0x8001, 10, 0x8009].map fun f => newer ((collectingBoth f).slot 1).frame ((collectingBoth f).slot (other 1)).frame) =
      [true, false, false, false] ∧
    ((collectingBoth 8).slot (other 1)).collecting = true ∧ ((collectingBoth 8).slot (other 1)).frame ≠ 9 := by decide

/-- A segment for the collecting slot of an absent sensor, one received before, one that completes the slot, and one that does not;
then a segment that is not newer, and one for which no slot is FREE. -/
theorem test_meets_AdmissionWithoutANewFrame :
    (let p := admitting true [] 9
     admissionTakes p 3 ∧ p.fra.queue.length < 64 ∧ (p.links.get 3).fifo = [⟨3, 9, 0, []⟩] ∧ (p.slot 1).collecting = true ∧
      (p.slot 1).frame = 9 ∧ (p.slot (other 1)).collecting = false ∧ (p.slot 1).present.get 3 = true ∧
      0 ∉ (p.slot 1).received.get 3) ∧
    ((admitting false [] 9).slot 1).present.get 3 = false ∧ 0 ∈ ((admitting true [0] 9).slot 1).received.get 3 ∧
    (let p := admitting true [] 8
     admissionTakes p 3 ∧ (∀ k, (p.slot k).collecting = true → (p.slot k).frame ≠ 8) ∧
      newer 8 (p.slot 1).frame = false ∧ (p.slot 1).state ≠ .free) ∧
    (let p := admitting true [] 10
     let q := { p with fra := { p.fra with slots := p.fra.slots.set 0 (p.slot 1) } }
     (∀ k, (q.slot k).collecting = true → (q.slot k).frame ≠ 10) ∧ (∀ k, (q.slot k).state ≠ .free) ∧
      (∀ k, (q.slot k).state ≠ .free → newer 10 (q.slot k).frame = true) ∧ (q.links.get 3).state = .tracking) := by
  refine ⟨⟨⟨1, ?_⟩, ?_⟩, ?_, ?_, ⟨⟨1, ?_⟩, ?_⟩, ?_⟩
  · refine ⟨by decide, by decide, by decide, by decide, fun e j h1 h2 => absurd h2 (by omega)⟩
  · decide
  · decide
  · decide
  · refine ⟨by decide, by decide, by decide, by decide, fun e j h1 h2 => absurd h2 (by omega)⟩
  · decide
  · decide

/-- A part whose sensor 3 brings frame 0, newer than 65,535 across the wrap, to a FREE slot 0, beside a slot 1 in a state; tables
wait, and a swap to bank A is pending. -/
def opening (st : SlotState) : Part :=
  let p := admitting true [] 0
  { p with
    fra := { p.fra with
      highest := some 0xFFFF
      slots := p.fra.slots.set 1 { p.slot 1 with frame := 0xFFFF, state := st, sealing := false } }
    scn := { p.scn with refShadow := [(1, 2)], refWaiting := true, parWaiting := true }
    mxs := { p.mxs with
      banks := ⟨⟨.ready, 128, 1, 0, 0, 0⟩, ⟨.active, 128, 1, 0, 0, 0⟩⟩
      pendingSwap := some ⟨0, ⟨0, 0, 0x000D, true⟩⟩ } }

/-- Frame 0 opens beside a slot that is ASSEMBLING, so that tables and swap wait, and beside one that is not. -/
theorem test_meets_AdmissionOpensAFrame :
    ∀ st ∈ [SlotState.assembling, .free, .sealed, .updating],
      let q := opening st
      (∃ d ∈ [1, 2, 3, 4], (3 : LinkIx).val = (q.fra.rr.val + d) % 4 ∧ (q.links.get 3).fifo ≠ [] ∧ d = 1) ∧
      q.fra.queue.length < 64 ∧ (q.links.get 3).fifo = [⟨3, 0, 0, []⟩] ∧
      (∀ k, (q.slot k).collecting = true → (q.slot k).frame ≠ 0) ∧ q.fra.highest = some 0xFFFF ∧ newer 0 0xFFFF = true ∧
      (∀ k, (q.slot k).state ≠ .free → newer 0 (q.slot k).frame = true) ∧ (q.links.get 3).state = .tracking ∧
      0 < q.geo.n.get 3 ∧ (q.slot 0).state = .free ∧ ((0 : SlotIx) = 1 → (q.slot 0).state ≠ .free) ∧
      q.mxs.activeBank = some 1 ∧ q.mxs.pendingSwap.isSome = true ∧ q.scn.refWaiting = true := by decide

theorem test_opening_takes : admissionTakes (opening .assembling) 3 ∧ admissionTakes (opening .sealed) 3 :=
  ⟨⟨1, by decide, by decide, by decide, by decide, fun e j h1 h2 => absurd h2 (by omega)⟩,
    ⟨1, by decide, by decide, by decide, by decide, fun e j h1 h2 => absurd h2 (by omega)⟩⟩

/-- A collecting slot, one that is not, and the frame-gap timer running and stopped. -/
theorem test_meets_AssemblyTimersExpire :
    (let p := slotted .assembling false 9 .powerOn
     (p.slot 1).state = .assembling ∧ (p.slot 1).sealing = false) ∧
    ¬ ((Part.powerOn.slot 1).state = .assembling ∧ (Part.powerOn.slot 1).sealing = false) ∧
    Part.powerOn.fra.gapTimer = none ∧ ({ Fra.powerOn with gapTimer := some 0 } : Fra).gapTimer = some 0 ∧
    (looping .closed .powerOn).lpc.loop = .closed ∧ Part.powerOn.lpc.loop = .stopped := by decide

/-- A part whose slot 1 is sealing and drained, one segment of its one sensor received, with slope 1 VALID in its record and a
kept value under a policy. -/
def sealed (policy : Policy) : Part :=
  let p := slotted .assembling true 9 (linked .tracking 1 (looping .opened .powerOn))
  { p with
    fra := { p.fra with slots := p.fra.slots.set 1 { p.slot 1 with received := (Four.all []).set 3 [0] } }
    geo := { p.geo with a1 := 1 }
    scn := { p.scn with
      kept := [(0, ⟨7, 2⟩)]
      records := p.scn.records.set 1 ⟨[(1, .valid 5)], 0, 0, 0⟩
      parLive := p.scn.parLive.set 3 { p.scn.parLive.get 3 with policy := policy } } }

/-- A sealing slot that is drained, with the conditioner free and not: no sensor REQUIRED, and one REQUIRED that is absent. The
abandon count is at the limit, below it, and at its end. -/
theorem test_meets_SealDecided :
    let p := sealed .keep
    let q := sealed .require
    sealDue p 1 ∧ ¬ sealDue p 0 ∧ ¬ frameAbandoned p 1 ∧ sealDue q 1 ∧ ¬ sealDue q 0 ∧ frameAbandoned q 1 ∧
      p.scn.job = none ∧ (some ⟨.entry, 0, [], [(0, 5)]⟩ : Option ScnJob).isSome = true ∧
      min 255 (q.fra.abandons + 1) < q.fra.abandonLimit ∧ 5 ≤ min 255 (4 + 1) := by
  unfold sealDue frameAbandoned sensorComplete segmentsWhole
  decide

/-- A slope that is VALID, MISSING and INVALID; ages at the keep limit and below it, under KEEP and under another policy. -/
theorem test_meets_SlopesConditionedAndSubstituted :
    (SlopeStatus.missing = .missing ∨ SlopeStatus.missing = .invalid) ∧
    (SlopeStatus.invalid = .missing ∨ SlopeStatus.invalid = .invalid) ∧
    ((⟨0, 0, .keep, 1⟩ : SensorParam).policy = .keep ∧ (⟨5, 0⟩ : Kept).age < (⟨0, 0, .keep, 1⟩ : SensorParam).keepLimit) ∧
    (⟨0, 0, .keep, 255⟩ : SensorParam).keepLimit ≤ (⟨5, 255⟩ : Kept).age ∧ SensorParam.powerOn.policy ≠ .keep := by decide

/-- A work queue head of one record in slot 1, flux-invalid and flux-valid, with and without a value to hand on. -/
theorem test_meets_EntryIsConditioned :
    let e : QueueEntry := ⟨1, ⟨3, 9, 0, [⟨1, 0, 5⟩]⟩⟩
    let p := linked .tracking 64 .powerOn
    let q := { p with fra := { p.fra with queue := [e] } }
    let w := { q with scn := { q.scn with parLive := q.scn.parLive.set 3 { q.scn.parLive.get 3 with fluxFloor := 6 } } }
    q.fra.queue = [e] ∧ q.scn.job = none ∧ q.scn.substDue = none ∧ fluxInvalid q 3 ⟨1, 0, 5⟩ = false ∧
      fluxInvalid w 3 ⟨1, 0, 5⟩ = true ∧ recordValues q e.seg 0 ≠ [] ∧ recordValues w e.seg 0 = [] ∧ q.rca.stream = [] := by decide

/-- A record at its flux floor and below it; a stream list with 7 and with 8 entries; a value with another of its visit behind it,
and the last of a visit; a burst that is added, with its value the only one of its slot and not, and one that is dropped; a
substitution that waits for the entry. -/
theorem test_meets_ValuesStreamAndAdd :
    (let par := SensorParam.powerOn
     par.fluxFloor.toNat ≤ (0 : BitVec 16).toNat ∧ (0 : BitVec 16).toNat < ({ par with fluxFloor := 1 } : SensorParam).fluxFloor.toNat) ∧
    (let y : StreamEntry := ⟨1, 0, 5, 0, 0⟩
     (List.replicate 7 y).length < 8 ∧ 8 ≤ (List.replicate 8 y).length) ∧
    (∀ todo ∈ [[], [(1, (6 : BitVec 16))]],
      let p := slotted .assembling false 9 .powerOn
      let q := { p with
        mxs := { p.mxs with banks := p.mxs.banks.set 0 { p.mxs.banks.get 0 with a := 1 } }
        scn := { p.scn with job := some ⟨.entry, 1, [.record 2 3 ⟨1, 1, 1⟩], (0, 5) :: todo⟩ } }
      q.scn.job = some ⟨.entry, 1, [.record 2 3 ⟨1, 1, 1⟩], (0, 5) :: todo⟩ ∧ (q.slotRecord 1).a ≠ 0) ∧
    (∀ due ∈ [none, some (0 : SlotIx)],
      let b : Burst := .stream 1 0 5 0 0 1 false
      let p : Part := { Part.powerOn with
        mxs := { Mxs.powerOn with bursts := [b], banks := Mxs.powerOn.banks.set 0 ⟨.active, 2, 1, 0, 0, 0⟩ }
        rca := { Rca.powerOn with stream := [⟨1, 0, 5, 1, 0⟩] }
        scn := { Scn.powerOn with job := some ⟨.entry, 1, [], []⟩, substDue := due } }
      p.mxs.bursts = [b] ∧ p.scn.job = some ⟨.entry, 1, [], []⟩ ∧ p.scn.substDue = due ∧
        p.rca.stream = [] ++ ⟨1, 0, 5, 1, 0⟩ :: []) ∧
    ([.stream 1 0 5 0 0 512 true] : List Burst) = .stream 1 0 5 0 0 512 true :: [] := by decide

/-- The ends of the scale exponent, a substitution whose values are all added, and an extraction. -/
theorem test_meets_ResidualsExtracted :
    (0 ≤ 31 ∧ 31 ≤ 31) ∧
    (let p : Part := { Part.powerOn with scn := { Scn.powerOn with job := some ⟨.substitution, 1, [], []⟩ } }
     p.scn.job = some ⟨.substitution, 1, [], []⟩ ∧ ∀ y ∈ p.rca.stream, y.slot ≠ 1) ∧
    ({ Rca.powerOn with extracting := some 1 } : Rca).extracting = some 1 := by decide

/-- A bank in each state, with the geometry's dimensions and with others, with a swap pending and without, in STOPPED and in OPEN. -/
theorem test_meets_SwapMatrixDecides :
    let bank (st : BankState) (p : Part) := { p with mxs := { p.mxs with banks := p.mxs.banks.set 1 ⟨st, 2, 1, 0, 0, 0⟩ } }
    let p : Part := { exchanging with geo := ⟨⟨1, 0, 0, 0⟩, 1, 0, true⟩ }
    p.readyFor order ∧ 2 ≤ (2 : Byte).toNat ∧ (1 : Byte).toNat = (1 : BankIx).val ∧
    (∀ st ∈ [BankState.empty, .loading, .ready, .active], ((bank st p).mxs.banks.get 1).state = st) ∧
    (((bank .ready p).mxs.banks.get 1).s = 2 * (p.geo.n.f0 + p.geo.n.f1 + p.geo.n.f2 + p.geo.n.f3) ∧
      ((bank .ready p).mxs.banks.get 1).a = p.geo.a0 + p.geo.a1) ∧
    ((bank .ready exchanging).mxs.banks.get 1).s ≠
      2 * (exchanging.geo.n.f0 + exchanging.geo.n.f1 + exchanging.geo.n.f2 + exchanging.geo.n.f3) ∧
    (bank .ready p).mxs.pendingSwap = none ∧ (bank .ready p).lpc.loop = .stopped ∧
    (looping .opened (bank .ready p)).readyFor order ∧ (looping .opened (bank .ready p)).lpc.loop ≠ .stopped ∧
    (let q := { bank .ready p with
       mxs := { (bank .ready p).mxs with pendingSwap := some ⟨0, ⟨0, 0, 0x000D, false⟩⟩ } }
     q.readyFor order ∧ q.mxs.pendingSwap.isSome = true) := by decide

/-- A part with a value of slope 1 in the stream list, its column of 200 coefficients, so many of its bursts granted. -/
def streaming (granted : Nat) : Part :=
  let p := slotted .assembling false 9 .powerOn
  { p with
    mxs := { p.mxs with banks := p.mxs.banks.set 0 { p.mxs.banks.get 0 with a := 200 } }
    rca := { p.rca with stream := [⟨1, 1, 5, granted, 0⟩] } }

/-- The column of slope 1, positions 200 to 399, has three bursts. -/
theorem test_column_has_bursts : hasBurst (streaming 2) 1 1 2 ∧ ¬ hasBurst (streaming 3) 1 1 3 := by
  simp only [hasBurst]; decide

/-- The power-on rotation with no request, and with a request of STREAM while a slot is ASSEMBLING; a request of LOADER for a last
block of 6 bytes in pair mode; and one of READER for its last bytes. -/
theorem test_meets_GrantGoesByRotation :
    (∀ r : Requester, r ∈ Part.powerOn.mxs.rotation) ∧ (∀ r : Requester, Part.powerOn.requesting r = false) ∧
    (let q := streaming 0
     q.requesting .stream = true ∧ (q.slot 1).state = .assembling ∧ q.rca.stream = [] ++ ⟨1, 1, 5, 0, 0⟩ :: []) ∧
    (let l : MatrixLoad := ⟨0, 6, [1, 0, 2, 0, 3, 0], 0, 0, 6, none⟩
     let r : Running := ⟨⟨⟨0, 0, 0x0020, false⟩, .loadMatrix 0 1 3 0 6, 0, 6⟩, 6, 6, [], false⟩
     let q := { Part.powerOn with
       xu := { Xu.powerOn with lane := some r }
       mxs := { Mxs.powerOn with
         load := some l
         pairMode := true
         pairNext := true
         banks := Mxs.powerOn.banks.set 0 ⟨.loading, 1, 3, 0, 6, 0⟩ } }
     q.requesting .loader = true ∧ q.mxs.load = some l ∧ q.mxs.pairMode = true ∧ q.mxs.pairNext = true) ∧
    (let q := { Part.powerOn with mxs := { Mxs.powerOn with readback := some ⟨254, 256⟩ } }
     q.requesting .reader = true ∧ q.mxs.readback = some ⟨254, 256⟩) := by
  refine ⟨?_, ?_, ?_, ?_, ?_⟩
  · intro r; cases r <;> decide
  · intro r; cases r <;> decide
  · decide
  · decide
  · decide

/-- A loader burst whose load has ended, one in the middle of its load, and the last one, with the check word equal and not. -/
theorem test_meets_MatrixLoadWritesAndEnds :
    let burst : Burst := .loader 4 [3, 0] true
    let l : MatrixLoad := ⟨1, 6, [], 6, 4, 6, none⟩
    let r : Running := ⟨⟨⟨0, 0, 0x0020, true⟩, .loadMatrix 1 1 3 0 6, 0, 6⟩, 6, 6, [], false⟩
    let p : Part := { exchanging with
      xu := { exchanging.xu with lane := some r }
      mxs := { Mxs.powerOn with bursts := [burst], load := some l, banks := Mxs.powerOn.banks.set 1 ⟨.loading, 1, 3, 0, 6, 0⟩ } }
    p.mxs.bursts = .loader 4 [3, 0] true :: [] ∧ p.mxs.load = some l ∧ p.xu.lane = some r ∧
    l.written + [3, 0].length = r.total ∧ r.moved = r.total ∧ l.sum = (p.mxs.banks.get 1).check ∧
    ({ l with sum := 7 } : MatrixLoad).sum ≠ (p.mxs.banks.get 1).check ∧
    ({ l with written := 0 } : MatrixLoad).written + [3, 0].length ≠ r.total ∧
    ([.loader 0 [1] false] : List Burst) = .loader 0 [1] false :: [] ∧ p.xu.memRequests = true := by decide

/-- Limits with lo = hi and over the whole range; an active and an inactive actuator; a value at each limit's edge. -/
theorem test_meets_IntegratorStep :
    ((⟨7, 7, 7, true⟩ : Limits).lo.toNat ≤ (⟨7, 7, 7, true⟩ : Limits).hi.toNat) ∧
    (Limits.powerOn.lo.toNat ≤ Limits.powerOn.hi.toNat) ∧ Limits.powerOn.active = true ∧
    (⟨0, 65535, 0, false⟩ : Limits).active = false := by decide

/-- Pairs that are skipped by an index at A, by two inactive actuators and by a difference of D; pairs that are adjusted by an excess
of 1, with both active and with one inactive; and limits in order. -/
theorem test_meets_CodesShaped :
    let off : Sparse Limits := [(0, ⟨0, 65535, 0, false⟩)]
    let s : PassState := ⟨[10, 16], 0⟩
    s.codes.length = 2 ∧ (0 : Nat) ≠ 1 ∧ 0 < 5 ∧ 2 ≤ 2 ∧ max 10 16 ≤ min 10 16 + 6 ∧ ¬ max 10 16 ≤ min 10 16 + 5 ∧
    (Sparse.get Limits.powerOn off 0).active = false ∧ (Sparse.get Limits.powerOn off 1).active = true ∧
    (Sparse.get Limits.powerOn [] 0).active = true := by decide

/-- The limits tables of the witnesses are in order. -/
theorem test_ordered_limits : orderedLimits [] := by
  intro a; exact ⟨Nat.le_of_ble_eq_true rfl, Nat.le_of_ble_eq_true rfl⟩

/-- A part whose LOOP_OPEN checks all hold, bank A ACTIVE and sensor 3 enabled. -/
def openable : Part :=
  let p := linked .acquiring 1 exchanging
  { p with
    geo := ⟨⟨0, 0, 0, 1⟩, 0, 1, true⟩
    mxs := { p.mxs with banks := p.mxs.banks.set 0 ⟨.active, 2, 1, 0, 0, 0⟩ } }

/-- LOOP_OPEN in each loop state, and with each of its five checks failing first. -/
theorem test_meets_LoopOpens :
    openable.readyFor order ∧ (∀ st ∈ [LoopState.opened, .held, .closed], (looping st openable).readyFor order) ∧
    openable.lpc.loop = .stopped ∧ exchanging.geo.isSet = false ∧ openable.geo.isSet = true ∧
    (∀ b, (({ openable with mxs := Mxs.powerOn } : Part).mxs.banks.get b).state ≠ .active) ∧
    (openable.mxs.banks.get 0).state = .active ∧ (openable.mxs.banks.get (other 0)).state ≠ .active ∧
    ((openable.mxs.banks.get 0).s = 2 * (openable.geo.n.f0 + openable.geo.n.f1 + openable.geo.n.f2 + openable.geo.n.f3) ∧
      (openable.mxs.banks.get 0).a = openable.geo.a0 + openable.geo.a1) ∧
    (openable.mxs.banks.get 0).a ≠ 1 + openable.geo.a1 ∧
    (∃ i, (openable.links.get i).state ≠ .off ∧ 0 < openable.geo.n.get i) ∧
    ¬ (∃ i, (({ openable with links := .all .powerOn } : Part).links.get i).state ≠ .off ∧ 0 < openable.geo.n.get i) ∧
    openable.tlu.interlock.level = false ∧ (⟨true, 0, 3, false⟩ : Line).level = true := by decide

/-- LOOP_CLOSE outside OPEN, and in OPEN with each check failing first, by mirror 0 and by mirror 1, and with none failing. -/
theorem test_meets_LoopCloses :
    exchanging.readyFor order ∧ exchanging.lpc.loop ≠ .opened ∧ (looping .opened openable).readyFor order ∧
    (looping .opened openable).lpc.loop = .opened ∧
    (¬ 0 < openable.geo.mirror 0 ∧ 0 < openable.geo.mirror 1 ∧ (openable.mlt.get 1).enable = false) ∧
    0 < (⟨⟨0, 0, 0, 1⟩, 1, 0, true⟩ : Geometry).mirror 0 ∧
    (let p := mirrored .fault openable
     (p.mlt.get 1).enable = true ∧ (p.mlt.get 1).state = .fault ∧ (p.mlt.get 0).enable = false) ∧
    (let p := mirrored .idle openable
     (p.mlt.get 1).enable = true ∧ (p.mlt.get 1).state ≠ .fault) ∧
    1023 < (1024 : BitVec 16).toNat ∧ ¬ 1023 < (1023 : BitVec 16).toNat := by decide

/-- RESUME outside HELD, and in HELD with each cause present and with none. -/
theorem test_meets_ResumeOpens :
    exchanging.readyFor order ∧ exchanging.lpc.loop ≠ .held ∧ (looping .held exchanging).readyFor order ∧
    (looping .held exchanging).lpc.loop = .held ∧ (looping .held exchanging).tlu.interlock.level = false ∧
    (⟨true, 0, 3, false⟩ : Line).level = true ∧
    (let p := mirrored .fault (looping .held exchanging)
     p.readyFor order ∧ ¬ ((p.mlt.get 0).enable = true ∧ (p.mlt.get 0).state = .fault) ∧
      (p.mlt.get 1).enable = true ∧ (p.mlt.get 1).state = .fault) := by decide

/-- A part whose slots hold a SEALED frame and an ASSEMBLING one that the conditioner works for, with a pending substitution, a
value and an entry of it, and a FIFO that is not empty. -/
def stopping : Part :=
  let p := slotted .sealed false 9 (linked .tracking 64 (looping .closed exchanging))
  { p with
    links := p.links.set 3 { p.links.get 3 with fifo := [⟨3, 11, 0, []⟩] }
    fra := { p.fra with
      slots := p.fra.slots.set 0 { p.slot 0 with state := .assembling, frame := 10, received := (Four.all []).set 3 [0] }
      queue := [⟨0, ⟨3, 10, 0, [⟨1, 1, 1⟩]⟩⟩]
      gapTimer := some 5 }
    scn := { p.scn with job := some ⟨.entry, 0, [], [(0, 1)]⟩, substDue := some 0 }
    rca := { p.rca with stream := [⟨0, 0, 1, 0, 0⟩] }
    mxs := { p.mxs with bursts := [.stream 0 0 1 0 0 1 false, .loader 0 [1] true] } }

/-- LOOP_STOP in STOPPED and in CLOSED, with slots that it frees and one that it leaves. -/
theorem test_meets_LoopStops :
    exchanging.readyFor order ∧ exchanging.lpc.loop = .stopped ∧
    (stopping.readyFor order ∧ stopping.lpc.loop ≠ .stopped ∧ discarded stopping 0 ∧ discarded stopping 1) ∧
    (let p := slotted .updating false 9 (looping .closed exchanging)
     p.readyFor order ∧ p.lpc.loop ≠ .stopped ∧ ¬ discarded p 0 ∧ ¬ discarded p 1) := by
  unfold discarded
  decide

/-- No update in STOPPED, while one runs, and with no slot SEALED; a report-only one in OPEN and HELD with a capture pending and
without; a full one in CLOSED, the frame's energy above the threshold and not, with the divergence limit reached and not, and
limits that wait and not. -/
theorem test_meets_UpdateBeginsByLoopState :
    Part.powerOn.lpc.loop = .stopped ∧
    ({ Lpc.powerOn with update := some ⟨1, true, .unset, [], [], 0, 0, false⟩ } : Lpc).update.isSome = true ∧
    (∀ k, (Part.powerOn.slot k).state ≠ .sealed) ∧
    (∀ st ∈ [LoopState.opened, .held], ∀ shot ∈ [false, true],
      let p := slotted .sealed false 9 (looping st .powerOn)
      let q := { p with sns := { p.sns with capturePending := shot } }
      q.lpc.update = none ∧ q.lpc.loop = st ∧ updateTakes q 1 ∧ q.sns.capturePending = shot) ∧
    (let p := slotted .sealed false 9 (looping .closed .powerOn)
     p.lpc.loop = .closed ∧ p.lpc.update = none ∧ updateTakes p 1 ∧ ¬ 0 < p.lpc.threshold.toNat ∧
      p.lpc.limWaiting = false ∧ ({ p.lpc with limWaiting := true } : Lpc).limWaiting = true) ∧
    (0 < (1 : BitVec 64).toNat ∧ (1 : BitVec 64).toNat < (2 : BitVec 64).toNat ∧ 10 ≤ min 255 (9 + 1) ∧
      ¬ 10 ≤ min 255 (8 + 1)) := by
  unfold updateTakes
  decide

/-- No update; one that runs in slot 1, its closed-throughout mark set and clear; a record behind an older SEALED frame, with 3 and
with 4 records queued, and one with no older frame to wait for. -/
theorem test_meets_SendPointReplaces :
    Lpc.powerOn.update = none ∧
    (let u : Update := ⟨1, true, .unset, [], [], 0, 0, false⟩
     ({ Lpc.powerOn with update := some u } : Lpc).update = some u ∧ u.closed = true ∧
      ({ u with closed := false } : Update).closed = false) ∧
    (let p := slotted .sealed false 9 .powerOn
     olderUnfinished p 10 ∧ ¬ olderUnfinished p 9 ∧ ¬ olderUnfinished Part.powerOn 10 ∧
      (List.replicate 3 (recordOf p 1 p.geo .complete .opened)).length < 4 ∧
      4 ≤ (List.replicate 4 (recordOf p 1 p.geo .complete .opened)).length) := by
  unfold olderUnfinished
  decide

/-- FLATTEN in CLOSED and HELD, and in STOPPED and OPEN with INTERLOCK asserted and not. -/
theorem test_meets_FlattenSetsFlat :
    (∀ st ∈ [LoopState.closed, .held, .stopped, .opened], (looping st exchanging).readyFor order) ∧
    Sparse.wf Limits.powerOn exchanging.lpc.limLive = true ∧ exchanging.tlu.interlock.level = false ∧
    (⟨true, 0, 3, false⟩ : Line).level = true := by decide

/-- A link in each state, and in RUNNING with one and with two frames outstanding; a pending probe in IDLE. -/
theorem test_meets_HandOverByState :
    (∀ st ∈ [MirrorState.off, .idle, .running, .checking, .blocked, .fault], ((mirrored st .powerOn).mlt.get 1).state = st) ∧
    [(⟨0, none⟩ : Outstanding)].length < 2 ∧ 2 ≤ [(⟨0, none⟩ : Outstanding), ⟨1, none⟩].length ∧
    ({ MirrorLink.powerOn with probe := some ⟨⟨0, 0, 0x000C, false⟩, none⟩ } : MirrorLink).probe =
      some ⟨⟨0, 0, 0x000C, false⟩, none⟩ ∧ Part.powerOn.xu.memRequests = true := by decide

/-- Packets of 5, 7 and 9 bytes and a status of 4; a wrong CRC; a receipt of another mirror; one that matches nothing outstanding; a
reply that nothing awaits. -/
theorem test_meets_MirrorPacketsRefused :
    ((mirrored .off .powerOn).mlt.get 1).state = .off ∧ ((mirrored .running .powerOn).mlt.get 1).state ≠ .off ∧
    driverMalformed (0x72 :: zeros 4) ∧ driverMalformed (0x71 :: zeros 6) ∧ driverMalformed (0x71 :: zeros 8) ∧
    driverMalformed [0x71, 1, 0, 0, 4, 0, 0, 0] ∧
    (¬ driverMalformed [0x71, 1, 0, 0, 3, 0, 0, 0] ∧ crcMatches [0x71, 1, 0, 0, 3, 0, 0, 0] = false) ∧
    (¬ driverMalformed (withCrc [0x71, 0, 0, 0, 3, 0]) ∧ crcMatches (withCrc [0x71, 0, 0, 0, 3, 0]) = true ∧
      (byteAt (withCrc [0x71, 0, 0, 0, 3, 0]) 1).toNat ≠ (1 : MirrorIx).val) ∧
    ((byteAt (withCrc [0x71, 1, 0, 0, 3, 0]) 1).toNat = (1 : MirrorIx).val ∧
      ∀ o ∈ ((mirrored .running .powerOn).mlt.get 1).outstanding, o.seq ≠ field16 (withCrc [0x71, 1, 0, 0, 3, 0]) 2) ∧
    (¬ driverMalformed (withCrc [0x72, 1, 0, 0]) ∧ crcMatches (withCrc [0x72, 1, 0, 0]) = true ∧
      ¬ (byteAt (withCrc [0x72, 1, 0, 0]) 0 = 0x71)) := by
  unfold driverMalformed
  and_intros <;> decide +kernel

/-- A receipt for the newer of two outstanding frames in RUNNING, CHECKING and BLOCKED, with each status, and with the reject limit
reached and not; a newer frame left, and none. -/
theorem test_meets_ReceiptRetiresFrames :
    (∀ st ∈ [(0 : Byte), 1, 2, 3],
      (driverPacket (withCrc [0x71, 1, 0, 0, st, 1])) =
        (receiptStatus st).map fun x => .receipt (BitVec.ofNat 8 (1 : MirrorIx).val) 0 x true) ∧
    crcMatches (withCrc [0x71, 1, 0, 0, 2, 1]) = true ∧
    (∀ st ∈ [MirrorState.running, .checking, .blocked], ((mirrored st .powerOn).mlt.get 1).state = st) ∧
    (([⟨0xFFFF, some 0⟩, ⟨0, none⟩] : List Outstanding) = [⟨0xFFFF, some 0⟩] ++ ⟨0, none⟩ :: [] ∧
      ∀ o ∈ ([⟨0xFFFF, some 0⟩] : List Outstanding), o.seq ≠ 0) ∧
    ([⟨0, none⟩, ⟨1, some 9⟩] : List Outstanding) = [] ++ ⟨0, none⟩ :: [⟨1, some 9⟩] ∧
    3 ≤ min 15 (2 + 1) ∧ ¬ 3 ≤ min 15 (1 + 1) := by decide +kernel

/-- A reply in CHECKING, in BLOCKED below the block limit and at it, and in IDLE with a probe pending whose QUERY has left and has
not; with a fault, not ready, and ready; a frame as old as the reply's, one newer, and the far edges of both. -/
theorem test_meets_ReplyReconciles :
    driverPacket (withCrc [0x72, 2, 5, 0]) = some (.reply false true 5) ∧
    driverPacket (withCrc [0x72, 0, 5, 0]) = some (.reply false false 5) ∧
    driverPacket (withCrc [0x72, 1, 5, 0]) = some (.reply true false 5) ∧ crcMatches (withCrc [0x72, 1, 5, 0]) = true ∧
    (∀ st ∈ [MirrorState.checking, .blocked, .idle], ((mirrored st .powerOn).mlt.get 1).state = st) ∧
    (MirrorLink.powerOn.blockLimit ≤ min 255 (19 + 1) ∧ min 255 (18 + 1) < MirrorLink.powerOn.blockLimit) ∧
    (∀ sent ∈ [false, true],
      ({ MirrorLink.powerOn with probe := some ⟨⟨0, 0, 0x000C, true⟩, if sent then some 3 else none⟩ } : MirrorLink).probe.map
        (fun pr => pr.sendTime.isSome) = some sent) ∧
    ((5 : Serial) - 5).toNat ≤ 32767 ∧ ((5 : Serial) - 0x8006).toNat ≤ 32767 ∧ 32767 < ((5 : Serial) - 6).toNat ∧
    32767 < ((5 : Serial) - 0x8005).toNat := by decide +kernel

/-- A link that sends nothing, a frame of 256 and of 257 codes that is outstanding and one that is not, and a QUERY with and without a
probe. -/
theorem test_meets_PacketsLeaveTheLink :
    (Part.powerOn.mlt.get 1).tx = [] ∧ (256 + 255) / 256 = 1 ∧ (257 + 255) / 256 = 2 ∧
    (let l : MirrorLink := { MirrorLink.powerOn with outstanding := [⟨0, some 0⟩, ⟨1, none⟩], tx := [.frame 1 [0]] }
     l.tx = .frame 1 [0] :: [] ∧ l.outstanding = [⟨0, some 0⟩] ++ ⟨1, none⟩ :: [] ∧
      ∀ o ∈ ([⟨0, some 0⟩] : List Outstanding), o.seq ≠ 1) ∧
    (∀ o ∈ MirrorLink.powerOn.outstanding, o.seq ≠ 1) ∧
    (let l : MirrorLink := { MirrorLink.powerOn with
       tx := [.query true]
       probe := some ⟨⟨0, 0, 0x000C, false⟩, none⟩ }
     l.tx = .query true :: [] ∧ l.probe = some ⟨⟨0, 0, 0x000C, false⟩, none⟩) ∧
    ([.query false] : List TxPacket) = .query false :: [] := by decide

/-- A running receipt timer in each state where it can expire, at and below each limit; a pending probe in IDLE; a stopped timer. -/
theorem test_meets_ReceiptTimerExpires :
    (Part.powerOn.mlt.get 1).timer = none ∧ ({ MirrorLink.powerOn with timer := some 0 } : MirrorLink).timer = some 0 ∧
    (∀ st ∈ [MirrorState.running, .checking, .blocked, .idle], ((mirrored st .powerOn).mlt.get 1).state = st) ∧
    (2 < MirrorLink.powerOn.queryLimit ∧ MirrorLink.powerOn.queryLimit ≤ 3) ∧
    (min 255 (18 + 1) < MirrorLink.powerOn.blockLimit ∧ MirrorLink.powerOn.blockLimit ≤ min 255 (19 + 1)) ∧
    Part.powerOn.xu.memRequests = true := by decide

/-- An IDLE link with a probe pending whose QUERY is being sent, and a packet behind it. -/
def probing : Part :=
  let p := mirrored .idle exchanging
  { p with mlt := p.mlt.set 1 { p.mlt.get 1 with
      probe := some ⟨⟨0, 0, 0x000C, true⟩, none⟩
      timer := some 7
      tx := [.query true, .query false] } }

/-- SET_MIRROR with each refused value at its bound, and with both values of enable on an OFF link, on an IDLE one with a probe
pending and without, and on one with actuators in CLOSED. -/
theorem test_meets_SetMirrorEffects :
    exchanging.readyFor order ∧ 2 ≤ (2 : Byte).toNat ∧ (1 : Byte).toNat = (1 : MirrorIx).val ∧ (1 : Byte).toNat < 2 ∧
    (exchanging.mlt.get 1).state = .off ∧
    (let p := mirrored .idle exchanging
     p.readyFor order ∧ (p.mlt.get 1).state ≠ .off ∧ p.lpc.loop ≠ .closed ∧ (p.mlt.get 1).probe = none) ∧
    (probing.readyFor order ∧ (probing.mlt.get 1).state ≠ .off ∧ probing.lpc.loop ≠ .closed ∧
      (probing.mlt.get 1).probe.isSome = true) ∧
    (let p := mirrored .running (looping .closed openable)
     p.readyFor order ∧ (p.mlt.get 1).state ≠ .off ∧ p.lpc.loop = .closed ∧ 0 < p.geo.mirror 1) := by decide

/-- A mirror index of 2; an OFF link; an IDLE one with a probe pending and without; one that is not IDLE. -/
theorem test_meets_MirrorResetAndProbe :
    exchanging.readyFor order ∧ 2 ≤ (2 : Byte).toNat ∧ (exchanging.mlt.get 1).state = .off ∧
    (∀ st ∈ [MirrorState.idle, .fault], (mirrored st exchanging).readyFor order ∧
      ((mirrored st exchanging).mlt.get 1).state ≠ .off ∧ ((mirrored st exchanging).mlt.get 1).probe = none) ∧
    (probing.readyFor order ∧ (probing.mlt.get 1).state = .idle ∧ (probing.mlt.get 1).probe.isSome = true) := by decide

/-- SET_LOOP and CAPTURE for any values; SET_GAINS, SET_STORE and SET_EXCHANGE at the bounds of their values. -/
theorem test_meets_SettingOrdersStore :
    exchanging.readyFor order ∧ (looping .closed exchanging).readyFor order ∧ 2 ≤ (2 : Byte).toNat ∧
    (1 : Byte).toNat = (1 : MirrorIx).val ∧ 2 ≤ (255 : Byte).toNat ∧ (1 : Byte).toNat < 2 := by decide

/-- An address window from 0x1000, of 64 KiB and more, that covers the buffers of the witnesses. -/
def windowed (p : Part) : Part :=
  { p with xu := { p.xu with windows := p.xu.windows.set 3 ⟨true, 0x1000, 0x20000, 0x80000⟩ } }

/-- A transfer that occupies the lane. -/
def occupied (p : Part) : Part :=
  { p with xu := { p.xu with lane := some ⟨⟨⟨0, 0, 0x0024, false⟩, .copySnapshot, 0, 65600⟩, 65600, 0, [], false⟩ } }

/-- The largest buffer that fits at its place, by its last byte. -/
theorem test_buffer_in_window : bufferAt (windowed exchanging) 0x1040 0x1FFC0 0x80040 := by
  refine ⟨by decide, 3, ⟨by decide, by decide, by decide⟩, ?_, by decide, by decide⟩
  intro j hj
  have : j = 0 ∨ j = 1 ∨ j = 2 := by omega
  rcases this with rfl | rfl | rfl <;> decide

/-- SET_WINDOW with values at their bounds, with a transfer and without; SET_TELEMETRY with capacities at their bounds, in STOPPED and
not; what holds with records waiting too, of frames that an older UPDATING frame holds back and that none does. Its ring in a window
stands above, one that each check of R166 refuses below. -/
theorem test_meets_WindowsAndRing :
    exchanging.readyFor order ∧ 4 ≤ (4 : Byte).toNat ∧ (3 : Byte).toNat = (3 : Fin 4).val ∧
    (0x800 : BitVec 64).toNat % 4096 ≠ 0 ∧ (0x1000 : BitVec 64).toNat = 2 ^ 12 ∧ (0x400000000 : BitVec 64).toNat = 2 ^ 34 ∧
    2 ^ 64 < (0xFFFFFFFFFFFFF000 : BitVec 64).toNat + (0x2000 : BitVec 64).toNat ∧
    ¬ 2 ^ 64 < (0xFFFFFFFFFFFFF000 : BitVec 64).toNat + (0x1000 : BitVec 64).toNat ∧
    ((occupied exchanging).readyFor order ∧ (occupied exchanging).xu.lane.isSome = true) ∧
    exchanging.xu.lane = none ∧ exchanging.xu.queue = [] ∧ exchanging.lpc.loop = .stopped ∧
    (16 : BitVec 32).toNat = 2 ^ 4 ∧ (65536 : BitVec 32).toNat = 2 ^ 16 ∧
    (looping .opened exchanging).readyFor order ∧ (looping .opened exchanging).lpc.loop ≠ .stopped ∧
    (let q := windowed (slotted .updating false 9 exchanging)
     let r := recordOf q 1 q.geo .discarded .stopped
     let p : Part := { q with tel := { q.tel with queue := [{ r with frame := 9 }, { r with frame := 10 }] } }
     p.readyFor order ∧ p.lpc.loop = .stopped ∧ p.tel.queue ≠ [] ∧ ¬ olderUnfinished p 9 ∧ olderUnfinished p 10) := by
  unfold olderUnfinished
  decide

/-- Values that SET_WINDOW and SET_TELEMETRY refuse: no size is 2^11, no capacity 8 or 131,072. -/
theorem test_refused_sizes :
    (∀ k, 12 ≤ k → k ≤ 34 → (0x800 : BitVec 64).toNat ≠ 2 ^ k) ∧ (∀ k, 4 ≤ k → k ≤ 16 → (8 : BitVec 32).toNat ≠ 2 ^ k) ∧
      ∀ k, 4 ≤ k → k ≤ 16 → (131072 : BitVec 32).toNat ≠ 2 ^ k := by
  refine ⟨?_, ?_, ?_⟩ <;> intro k h1 h2 <;> interval_cases k <;> decide

/-- A sweep timer running and stopped, with memory requests and without; a sweep under way and none. -/
theorem test_meets_SweepBegins :
    exchanging.xu.sweepTimer = none ∧ ({ exchanging.xu with sweepTimer := some 0 } : Xu).sweepTimer = some 0 ∧
    exchanging.xu.memRequests = true ∧ ({ exchanging.xu with memRequests := false } : Xu).memRequests = false ∧
    exchanging.xu.sweeping = false ∧ ({ exchanging.xu with sweeping := true } : Xu).sweeping = true := by decide

/-- A sweep that may take no order, and one whose slots hold no next ticket; a next ticket in two slots, the first of which wins; a
bulk order with the lane and the queue full and with a place free; a sweep that finds no POSTED slot, and one that finds a CAPTURE
with the next ticket in its last slot; and POSTED slots of unknown kinds, below, between and beyond the known codes. -/
theorem test_meets_SweepTakesOrders :
    let p : Part := { exchanging with xu := { exchanging.xu with sweeping := true } }
    let slots := List.replicate 31 (zeros 128) ++ [[1, 0, 0x13, 0, 1] ++ zeros 123]
    let capture (slot : Fin 32) : PostedSlot := ⟨slot, 0, true, .capture⟩
    let b : Bulk := ⟨⟨0, 0, 0x0024, false⟩, .copySnapshot, 0, 65600⟩
    let full : Part := { occupied exchanging with xu := { (occupied exchanging).xu with queue := [b, b, b, b] } }
    (∀ x ∈ [({ capture 3 with ticket := 1 } : PostedSlot)], x.ticket ≠ p.xu.nextTicket) ∧
    ([capture 3, capture 31] = [] ++ capture 3 :: [capture 31] ∧ (capture 31).ticket = p.xu.nextTicket) ∧
    (isBulk (.copySnapshot 0) = true ∧ full.xu.lane.isSome = true ∧ 4 ≤ full.xu.queue.length ∧
      (occupied exchanging).xu.queue.length < 4) ∧
    exchanging.xu.sweeping = false ∧ p.xu.sweeping = true ∧ postedSlots (List.replicate 32 (zeros 128)) = [] ∧
    (postedSlots slots).filter (fun y => p.inFlight.all fun o => o.slot ≠ y.slot) = [capture 31] ∧
    (capture 31).ticket = p.xu.nextTicket ∧ isBulk .capture = false ∧ p.xu.exchEn = true ∧
    p.xu.memRequests = true ∧
    (∀ code ∈ [(0 : Nat), 0x16, 0x1F, 0x25, 0xFFFF], code = 0 ∨ (0x15 < code ∧ code < 0x20) ∨ 0x24 < code) ∧
    (let bytes := [1, 0, 0x25, 0, 1] ++ zeros 123
     byteAt bytes 0 = 1 ∧ field16 bytes 2 = 0x25 ∧ (byteAt bytes 4).getLsbD 0 = true) ∧
    (⟨31, 0, true, .unknownKind 0x25⟩ : PostedSlot).order = .unknownKind 0x25 := by decide +kernel

/-- A buffer that fails each check of R166 first: alignment, a size unfit, no window, and an end beyond the window. -/
theorem test_buffer_refused :
    bufferRefused exchanging 0x1001 64 False .alignment ∧ bufferRefused exchanging 0x1000 65 True .alignment ∧
    bufferRefused (windowed exchanging) 0xFC0 64 False .badAddress ∧
    bufferRefused (windowed exchanging) 0x11000 65600 False .windowCrossing := by
  refine ⟨.inl ⟨by decide, rfl⟩, .inl ⟨by simp, rfl⟩, .inr (.inl ⟨⟨by decide, not_false⟩, by decide, rfl⟩), .inr (.inr ⟨⟨by decide,
    not_false⟩, rfl, 3, by decide, ?_, by decide⟩)⟩
  intro j hj
  have : j = 0 ∨ j = 1 ∨ j = 2 := by omega
  rcases this with rfl | rfl | rfl <;> decide

/-- Bulk orders at the bounds of their values, with a transfer running and a place free, and with the lane empty, in a window; no
place; values just out of their ranges; and a buffer refused for each reason. -/
theorem test_meets_BulkOrdersTaken :
    (let p := windowed (occupied exchanging)
     p.readyFor order ∧ p.xu.lane.isSome = true ∧ p.xu.queue.length < 4 ∧ (p.mxs.banks.get 1).state ≠ .loading) ∧
    ((windowed exchanging).readyFor order ∧ (windowed exchanging).xu.queue = []) ∧
    ([TableSource.reference, .sensors, .limits, .pairs].map sourceCode = [2, 3, 4, 5]) ∧
    (∀ x ∈ [(2, 2, 1, 0), (0, 1, 1, 0), (0, 3, 1, 0), (0, 20482, 1, 0), (0, 2, 0, 0), (0, 2, 4097, 0), (0, 2, 1, 32)],
      let q : MatrixOrderParams := ⟨BitVec.ofNat 8 x.1, BitVec.ofNat 8 x.2.2.2, BitVec.ofNat 16 x.2.1, BitVec.ofNat 16 x.2.2.1, 0, 0⟩
      1 < q.bank.toNat ∨ q.s.toNat < 2 ∨ 20480 < q.s.toNat ∨ q.s.toNat % 2 = 1 ∨ q.a.toNat < 1 ∨ 4096 < q.a.toNat ∨
        31 < q.e.toNat) ∧
    (∀ x ∈ [(20480, 1), (0, 0), (0, 20481), (20479, 2)],
      20479 < x.1 ∨ x.2 < 1 ∨ 20480 < x.2 ∨ 20480 < x.1 + x.2) ∧
    (3 < (4 : Byte).toNat ∧ 5 < (6 : Byte).toNat ∧ 1 < (2 : Byte).toNat ∧ (⟨.loading, 2, 1, 0, 0, 0⟩ : BankRecord).state = .loading ∧
      (∀ x ∈ [(0, 1), (20481, 20480), (0, 1), (5, 4), (4097, 4096), (8193, 8192)], x.1 < 1 ∨ x.2 < x.1) ∧
      exchanging.lpc.loop ≠ .opened ∧ ((64 : BitVec 32).toNat + 1) % 64 ≠ 0) ∧
    (2 ≤ (20480 : BitVec 16).toNat ∧ (20480 : BitVec 16).toNat ≤ 20480 ∧ (20480 : BitVec 16).toNat % 2 = 0 ∧
      (1 : BitVec 16).toNat ≤ 4096 ∧ (31 : Byte).toNat ≤ 31 ∧ 2 * (20480 : BitVec 16).toNat * (1 : BitVec 16).toNat ≤ 0x1FFC0) ∧
    (1 ≤ (8192 : BitVec 16).toNat ∧ (8192 : BitVec 16).toNat ≤ 8192 ∧ 6 * (8192 : BitVec 16).toNat ≤ 0x1FFC0) ∧
    ((looping .opened openable).lpc.loop = .opened ∧ (1 : BitVec 16).toNat = openable.geo.a0 + openable.geo.a1) ∧
    ((20479 : BitVec 16).toNat ≤ 20479 ∧ 20479 + (1 : BitVec 16).toNat ≤ 20480 ∧ (64 : BitVec 32).toNat % 64 = 0 ∧
      0 < (64 : BitVec 32).toNat) ∧
    (let b : Bulk := ⟨⟨0, 0, 0x0024, false⟩, .copySnapshot, 0, 65600⟩
     let p : Part := { occupied exchanging with xu := { (occupied exchanging).xu with queue := [b, b, b, b] } }
     p.readyFor order ∧ ¬ (p.xu.lane = none ∨ p.xu.queue.length < 4)) ∧
    (windowed exchanging).xu.lane = none ∧ (0x1001 : BitVec 64).toNat % 64 ≠ 0 ∧ (0xFC0 : BitVec 64).toNat % 64 = 0 ∧
    0x1000 + 0x20000 < (0x11000 : BitVec 64).toNat + 65600 := by decide

/-- A queued order with the lane empty, of each kind, with memory requests and without; a matrix load for a bank in each state and
one that a pending swap names; a PAIRS load of no pairs; a bank readback within its bank and beyond it; a table readback that fits
and one that does not, and the empty PAIRS table; an empty and a filled snapshot store. -/
theorem test_meets_TransferStarts :
    let ref : OrderRef := ⟨0, 0, 0x0020, false⟩
    (∀ op ∈ [BulkOp.loadMatrix 1 2 1 0 0, .loadReference 1, .loadSensors 1, .loadLimits 1, .loadPairs 1, .applyShape 1,
        .readBank 1 0 1, .readTable .limits true, .copySnapshot], ∀ requests ∈ [true, false],
      let b : Bulk := ⟨ref, op, 0, 4⟩
      let p : Part := { exchanging with xu := { exchanging.xu with queue := [b], memRequests := requests } }
      p.xu.lane = none ∧ p.xu.queue = b :: [] ∧ b.op = op ∧ 0 < b.length ∧ p.xu.memRequests = requests) ∧
    exchanging.xu.queue = [] ∧ (exchanging.mxs.banks.get 1).state = .empty ∧
    (∀ st ∈ [BankState.active, .ready, .loading], (⟨st, 2, 1, 0, 0, 0⟩ : BankRecord).state = st) ∧
    (⟨1, ⟨0, 0, 0x000D, false⟩⟩ : PendingSwap).target = 1 ∧ (⟨0, ⟨0, 0, 0x000D, false⟩⟩ : PendingSwap).target ≠ 1 ∧
    ((⟨ref, .loadPairs 0, 0, 0⟩ : Bulk).op = .loadPairs 0 ∧ (⟨ref, .loadPairs 0, 0, 0⟩ : Bulk).length = 0) ∧
    (looping .opened exchanging).lpc.loop = .opened ∧ exchanging.lpc.loop ≠ .opened ∧
    (0 + 1 ≤ 1 ∧ 2 * 1 * 1 ≤ 64 ∧ 0 < 2 * 1 * 1 ∧ 1 < 1 + 1 ∧ 64 < 2 * 33 * 1) ∧
    (32 ≤ 64 ∧ 64 < 40960 ∧ exchanging.lpc.pairLive = [] ∧ 6 * ([] : List ActuatorPair).length = 0) ∧
    exchanging.sns.filled = false ∧ ({ exchanging.sns with filled := true } : Sns).filled = true := by decide

/-- A part whose lane runs a load, of total bytes, with nothing moved. -/
def loadingOf (op : BulkOp) (total : Nat) : Part :=
  { exchanging with
    xu := { exchanging.xu with lane := some ⟨⟨⟨0, 0, 0x0022, true⟩, op, 0, total⟩, total, 0, [], false⟩ }
    geo := { exchanging.geo with a0 := 1, a1 := 1 } }

/-- A matrix load whose buffer has just room, and has not; one byte with and without a half coefficient before it; a load of each
other kind short of its last byte, whole, and with its first bytes and entries gathered before; entries with codes at and past their bounds, in STOPPED and in OPEN; a shape of the
geometry's count and of another. -/
theorem test_meets_HostBytesArrive :
    (let b : Bulk := ⟨⟨0, 0, 0x0022, false⟩, .loadMatrix 1 2 256 0 0, 0, 1024⟩
     let r : Running := ⟨b, 1024, 511, [], false⟩
     let l : MatrixLoad := ⟨1, 511, zeros 511, 0, 0, 0, some 0⟩
     r.confirming = false ∧ ([0] : List Byte) ≠ [] ∧ r.moved + 1 ≤ r.total ∧ l.buffer.length + 1 ≤ 512 ∧
      512 < l.buffer.length + 2 ∧ l.low = some 0 ∧ ({ l with low := none } : MatrixLoad).low = none) ∧
    (∀ x ∈ [(BulkOp.loadReference 1, 2), (.loadSensors 1, 8), (.loadLimits 1, 8), (.loadPairs 1, 6), (.applyShape 2, 4)],
      (loadingOf x.1 x.2).xu.lane = some ⟨⟨⟨0, 0, 0x0022, true⟩, x.1, 0, x.2⟩, x.2, 0, [], false⟩ ∧ 0 + 1 < x.2 ∧
        (entryBytes x.1).isSome = true ∧ (zeros x.2).length = x.2) ∧
    (∀ x ∈ [(BulkOp.loadReference 2, 4), (.loadSensors 2, 16), (.loadLimits 2, 16), (.loadPairs 2, 12), (.applyShape 2, 4)],
      let r : Running := ⟨⟨⟨0, 0, 0x0022, true⟩, x.1, 0, x.2⟩, x.2, x.2 - 1, zeros (x.2 / 2 - 1), false⟩
      r.moved + ([7] : List Byte).length = r.total ∧ (r.carry ++ ([7] : List Byte)).length = x.2 / 2) ∧
    (let l : SlopeLoad := ⟨.reference, 2, 1, [5], [], 0, none⟩
     l.kind = .reference ∧ l.bad = none ∧ l.adjusted = 0) ∧
    ((⟨.sensors, 2, 1, [], [⟨0, 0, .zero, 1⟩], 1, none⟩ : SlopeLoad).kind = .sensors ∧
      (⟨.limits, 2, 1, [.powerOn], [], 1, 0, some 0⟩ : ActuatorLoad).kind = .limits ∧
      (⟨.pairs, 2, 1, [], [⟨0, 1, 5⟩], 0, 1, none⟩ : ActuatorLoad).kind = .pairs ∧
      (⟨.pairs, 2, 1, [], [⟨0, 1, 5⟩], 0, 1, none⟩ : ActuatorLoad).bad = none) ∧
    ((byteAt (zeros 4 ++ [2, 0, 3, 0]) (8 * 0 + 4)).toNat ≤ 2 ∧ 2 < (byteAt (zeros 4 ++ [3, 0, 3, 0]) (8 * 0 + 4)).toNat) ∧
    ((byteAt (zeros 6 ++ [1, 0]) (8 * 0 + 6)).toNat ≤ 1 ∧ 1 < (byteAt (zeros 6 ++ [2, 0]) (8 * 0 + 6)).toNat) ∧
    (loadingOf (.applyShape 2) 4).lpc.shape = [] ∧ exchanging.lpc.loop = .stopped ∧
    (looping .opened exchanging).lpc.loop = .opened ∧
    (2 = (loadingOf (.applyShape 2) 4).geo.a0 + (loadingOf (.applyShape 2) 4).geo.a1 ∧ 1 ≠ 1 + 1) := by decide +kernel

/-- A readback burst that moves bytes and one that is dropped; a write request of the image's last bytes; a confirming read of a readback
and of a snapshot copy. -/
theorem test_meets_BytesToTheHost :
    (let r : Running := ⟨⟨⟨0, 0, 0x0021, false⟩, .readBank 1 0 1, 0, 64⟩, 64, 0, [], false⟩
     let p : Part := { exchanging with
       xu := { exchanging.xu with lane := some r }
       mxs := { exchanging.mxs with bursts := [.reader 0 64 false] } }
     p.xu.lane = some r ∧ p.xu.memRequests = true ∧ p.mxs.bursts = .reader 0 64 false :: [] ∧ r.moved + 64 = r.total) ∧
    ([.reader 0 64 true] : List Burst) = .reader 0 64 true :: [] ∧
    ((occupied exchanging).xu.lane.map (fun r => decide (r.bulk.op = .copySnapshot ∧ r.confirming = false ∧
      r.moved + 65600 ≤ r.total))) = some true ∧
    (let r : Running := ⟨⟨⟨0, 0, 0x0024, false⟩, .copySnapshot, 0, 65600⟩, 65600, 65600, [], true⟩
     r.confirming = true ∧ r.moved = r.total ∧ r.bulk.op = .copySnapshot) ∧
    (⟨⟨⟨0, 0, 0x0021, false⟩, .readBank 1 0 1, 0, 64⟩, 64, 64, [], true⟩ : Running).bulk.op = .readBank 1 0 1 ∧
    (let r : Running := ⟨⟨⟨0, 0, 0x0021, false⟩, .readTable .sensors false, 0, 64⟩, 32, 0, [], false⟩
     let p : Part := { exchanging with
       xu := { exchanging.xu with lane := some r }
       mxs := { exchanging.mxs with tableImage := zeros 32 } }
     p.xu.lane = some r ∧ r.bulk.op = .readTable .sensors false ∧ r.confirming = false ∧ r.moved + 32 ≤ r.total ∧
      r.total = p.mxs.tableImage.length ∧ ({ r with moved := 32, confirming := true } : Running).moved = r.total) := by decide

/-- ABORT_TRANSFER with a match flag of 2, with nothing in the lane, and with another ticket; a transfer of each kind with a read on
its way, one that has none, one that a failure ends, and one that an abort ends with and without a match; a queue with a next
order. -/
theorem test_meets_TransferEndsEarly :
    exchanging.readyFor order ∧ 2 ≤ (2 : Byte).toNat ∧ exchanging.xu.lane = none ∧
    (let r : Running := ⟨⟨⟨0, 255, 0x0020, false⟩, .loadMatrix 1 2 1 0 0, 0, 4⟩, 4, 3, [], false⟩
     let p : Part := { exchanging with xu := { exchanging.xu with lane := some r } }
     p.readyFor order ∧ p.xu.lane = some r ∧ r.moved < r.total ∧ p.xu.queue = [] ∧
      r.bulk.order.ticket ≠ 0 ∧ (255 : Byte) = r.bulk.order.ticket) ∧
    (∀ op ∈ [BulkOp.loadReference 1, .loadSensors 1, .loadLimits 1, .loadPairs 1, .applyShape 1], (entryBytes op).isSome = true) ∧
    (∀ op ∈ [BulkOp.readBank 1 0 1, .readTable .pairs true, .copySnapshot], entryBytes op = none) ∧
    (⟨⟨⟨0, 0, 0x0024, false⟩, .copySnapshot, 0, 65600⟩, 65600, 65600, [], true⟩ : Running).confirming = true ∧
    (let b : Bulk := ⟨⟨0, 0, 0x0024, false⟩, .copySnapshot, 0, 65600⟩
     ({ exchanging.xu with queue := [b] } : Xu).queue ≠ [] ∧ ({ exchanging.xu with queue := [b] } : Xu).lane = none) := by decide

/-- SET_PACER with each run flag, stopped and running, with values at their bounds; a running pacer between pulses, with and without
pending values, at a sum of 65,535 and 65,536; a pulse. -/
theorem test_meets_PacerPeriods :
    exchanging.readyFor order ∧ 2 ≤ (2 : Byte).toNat ∧ exchanging.tlu.pacer.running = false ∧
    exchanging.tlu.pacer.trigger = false ∧
    (let p : Part := { exchanging with tlu := { exchanging.tlu with pacer := { Pacer.powerOn with running := true } } }
     p.readyFor order ∧ p.tlu.pacer.running = true ∧ p.tlu.pacer.trigger = false) ∧
    (¬ 65536 ≤ 65535 + 0 ∧ 65536 ≤ 65535 + 1) ∧ ({ Pacer.powerOn with trigger := true } : Pacer).trigger = true := by decide

/-- Lines with no change due, with the sample still to come and already past; a change due; runs at the debounce count and below it;
SET_LINES with a mark of 1 and of 2, and a count of 255 and of 256. -/
theorem test_meets_LinesSampledAndSet :
    exchanging.readyFor order ∧ exchanging.tlu.interlock.due = false ∧ exchanging.tlu.snap.due = false ∧
    exchanging.tlu.mark.due = false ∧ (true ≠ exchanging.tlu.snap.level) ∧ 2 + 1 ≤ exchanging.tlu.snap.count ∧
    (exchanging.tlu.nextSample.toNat % 10 = 0 ∧ (10 : Time).toNat % 10 = 0 ∧ reached 9 10 = false ∧ reached 10 10 = true) ∧
    (⟨false, 0, 3, true⟩ : Line).due = true ∧
    exchanging.tlu.snap.count < 3 + 1 ∧ 2 ≤ (2 : Byte).toNat ∧
    ¬ (2 ≤ (1 : Byte).toNat ∨ 2 ≤ (0 : Byte).toNat ∨ 2 ≤ (1 : Byte).toNat) := by decide

/-- A change due on each line. -/
theorem test_meets_LineEdges :
    let x : Line := ⟨false, 0, 3, true⟩
    let l : Tlu := { Tlu.powerOn with interlock := x, snap := x, mark := x }
    l.interlock.due = true ∧ l.snap.due = true ∧ l.mark.due = true ∧ l.interlock.level = false ∧
      ({ x with level := true } : Line).level = true := by decide

/-! ## States at the edge of each law, which a step leaves to a next state -/

/-- A part that closes its loop with link 1 in IDLE and INTERLOCK deasserted. -/
theorem test_meets_ClosedLoopLawKept :
    (mirrored .idle (looping .closed .powerOn)).closedLaw ∧
      ∃ t, step ⟨mirrored .idle (looping .closed .powerOn), [.interlockEdge]⟩ = .next t :=
  ⟨fun _ => ⟨rfl, by decide⟩, _, rfl⟩

/-- Bank B ACTIVE, bank A READY, and another rotation order; a store with a byte written. -/
theorem test_meets_MatrixStoreLawsKept :
    let x : Mxs := { Mxs.powerOn with
      banks := ⟨⟨.ready, 2, 1, 0, 0, 0⟩, ⟨.active, 2, 1, 0, 0, 0⟩⟩
      rotation := [.reader, .stream, .loader]
      store := [(5, 7), (268435456, 0)] }
    let p : Part := { Part.powerOn with mxs := x }
    p.bankLaw ∧ p.storeLaw ∧ ∃ t, step ⟨p, [.arbiterGrant]⟩ = .next t :=
  ⟨⟨by simp [Part.activeLaw], by decide⟩, rfl, _, rfl⟩

/-- A ring that is full, across the wrap of its counts. -/
theorem test_meets_RingLawKept :
    let p : Part := { Part.powerOn with tel := { Tel.powerOn with written := 5, consumed := 0xFFFFFFF5 } }
    p.ringLaw ∧ ∃ t, step ⟨p, [.updateBegin]⟩ = .next t := ⟨Nat.le_of_ble_eq_true rfl, _, rfl⟩

/-- Slots of frames 65,535 and 0: the one in extraction, the other in substitution. -/
theorem test_meets_SlotLawKept :
    let x (f : Serial) : AsmSlot := { AsmSlot.cleared with
      state := .assembling
      sealing := true
      frame := f
      sealKind := some .complete }
    let p : Part := { Part.powerOn with
      fra := { Fra.powerOn with slots := ⟨x 0xFFFF, x 0⟩ }
      scn := { Scn.powerOn with job := some ⟨.substitution, 1, [], []⟩ }
      rca := { Rca.powerOn with extracting := some 0 } }
    p.SlotLaw ∧ ∃ t, step ⟨p, [.extractionEnd]⟩ = .next t := by
  refine ⟨⟨?_, ?_, ?_, ?_, ?_⟩, _, rfl⟩
  · decide
  · rintro i ⟨⟩; decide
  · rintro j ⟨⟩ _; decide
  · rintro i ⟨⟩
  · rintro u ⟨⟩

/-- A transfer queue at its capacity. -/
theorem test_meets_CapacitiesKept :
    let b : Bulk := ⟨⟨0, 0, 0x0024, false⟩, .copySnapshot, 0, 65600⟩
    let p : Part := { Part.powerOn with xu := { Xu.powerOn with queue := [b, b, b, b] } }
    p.Capacities ∧ ∃ t, step ⟨p, [.transferStart]⟩ = .next t :=
  ⟨⟨by decide, by decide, by decide, by decide, by decide⟩, _, rfl⟩

/-- A link with two frames outstanding, its SENT count past the wrap of its other counts. -/
theorem test_meets_MirrorBalanceKept :
    let p := mirrored .running .powerOn
    let l := { p.mlt.get 1 with
      outstanding := [⟨0, some 0⟩, ⟨1, none⟩]
      counters := { MirrorCounters.zero with sent := 1, accepted := 0xFFFFFFFF } }
    let q := { p with mlt := p.mlt.set 1 l }
    q.balanceLaw ∧ ∃ t, step ⟨q, [.packetTransmitEnd 1]⟩ = .next t := by
  refine ⟨?_, _, rfl⟩
  intro m
  have : m = 0 ∨ m = 1 := by omega
  rcases this with rfl | rfl
  · exact ⟨by unfold MirrorLink.balanced; decide, by unfold MirrorLink.twoAtMost; decide⟩
  · exact ⟨by unfold MirrorLink.balanced; decide, by unfold MirrorLink.twoAtMost; decide⟩

/-- An integrator value at its upper limit. -/
theorem test_meets_IntegratorLawKept :
    let p : Part := { Part.powerOn with lpc := { Lpc.powerOn with u := [(4095, 16776960)] } }
    p.lpc.IntegratorLaw ∧ ∃ t, step ⟨p, [.updateBegin]⟩ = .next t := by
  have h : Limits.powerOn.ordered := by unfold Limits.ordered; decide
  refine ⟨⟨?_, rfl, rfl, fun _ => h, fun _ => h, ?_, ?_⟩, _, rfl⟩
  · intro a
    simp only [Lpc.value, Lpc.limit, Sparse.get, Sparse.find, Lpc.powerOn]
    split <;> (unfold Limits.holds; decide)
  · rintro x ⟨⟩
  · rintro u ⟨⟩

end Sys2Proof.Tests
end

section
/-! SUPPORT. What each command does to the part, said once: the meaning of every command is one function of the part, and the queue
of commands is left alone. -/

namespace Sys2Proof.Machine

/-- The part after a command: an event's own operation, or the order's command (R158). -/
def Part.after (p : Part) : Instr → Part
  | .powerOn => p.powerUp
  | .partReset _ => p.partReset
  | .functionLevelReset => p.partReset
  | .exchEnStart => p.controlWrite true false
  | .exchEnStop => p.controlWrite false false
  | .exchBaseLoWrite value => p.baseLoWrite value
  | .exchBaseHiWrite value => p.baseHiWrite value
  | .eventsWrite value => p.clearEvents value
  | .eventMaskWrite value => p.writeMask value
  | .timeLoRead first count => p.timeLoRead first count
  | .registerWriteIgnored offset count value => p.registerWrite offset count value
  | .segmentArrival link early packet => p.segmentArrival link early packet
  | .quietTimerExpiry link => p.quietTimerExpiry link
  | .admitSegment => p.admitSegment
  | .deadlineExpiry slot => p.deadlineExpiry slot
  | .processEntry => p.processEntry
  | .handOnValue => p.handOnValue
  | .arbiterGrant => p.arbiterGrant
  | .columnBurstArrival => p.columnBurstArrival
  | .sealDecision => p.sealDecision
  | .substitutionEnd => p.substitutionEnd
  | .extractionEnd => p.extractionEnd
  | .frameGapExpiry => p.frameGapExpiry
  | .updateBegin => p.updateBegin
  | .sendPoint => p.sendPoint
  | .mirrorPacketArrival mirror early packet => p.mirrorPacketArrival mirror early packet
  | .packetTransmitEnd mirror => p.packetTransmitEnd mirror
  | .receiptTimerExpiry mirror => p.receiptTimerExpiry mirror
  | .sweepTimerExpiry => p.sweepTimerExpiry
  | .sweepReadCompletion consumed slots => p.sweepReadCompletion consumed slots
  | .hostAccessFailure read => p.hostAccessFailure read
  | .transferStart => p.startHead
  | .hostReadCompletion bytes => p.hostReadCompletion bytes
  | .loaderBurstComplete => p.loaderBurstComplete
  | .readerBurstComplete => p.readerBurstComplete
  | .confirmingReadCompletion => p.confirmingReadCompletion
  | .setGeometry h q => p.orderCommand h (.setGeometry q)
  | .setSensor h q => p.orderCommand h (.setSensor q)
  | .setLoop h q => p.orderCommand h (.setLoop q)
  | .setGains h q => p.orderCommand h (.setGains q)
  | .setMirror h q => p.orderCommand h (.setMirror q)
  | .loopOpen h => p.orderCommand h .loopOpen
  | .loopClose h ramp => p.orderCommand h (.loopClose ramp)
  | .loopStop h => p.orderCommand h .loopStop
  | .resume h => p.orderCommand h .resume
  | .flatten h => p.orderCommand h .flatten
  | .mirrorReset h mirror => p.orderCommand h (.mirrorReset mirror)
  | .mirrorProbe h mirror => p.orderCommand h (.mirrorProbe mirror)
  | .swapMatrix h target => p.orderCommand h (.swapMatrix target)
  | .setStore h pairMode => p.orderCommand h (.setStore pairMode)
  | .setWindow h q => p.orderCommand h (.setWindow q)
  | .setExchange h periodUs => p.orderCommand h (.setExchange periodUs)
  | .abortTransfer h matchFlag ticket => p.orderCommand h (.abortTransfer matchFlag ticket)
  | .setTelemetry h ring capacity => p.orderCommand h (.setTelemetry ring capacity)
  | .capture h => p.orderCommand h .capture
  | .setPacer h q => p.orderCommand h (.setPacer q)
  | .setLines h q => p.orderCommand h (.setLines q)
  | .loadMatrix h q => p.orderCommand h (.loadMatrix q)
  | .readBack h q => p.orderCommand h (.readBack q)
  | .loadTable h q => p.orderCommand h (.loadTable q)
  | .applyShape h q => p.orderCommand h (.applyShape q)
  | .copySnapshot h dest => p.orderCommand h (.copySnapshot dest)
  | .interlockEdge => p.interlockEdge
  | .snapEdge => p.snapEdge
  | .markEdge => p.markEdge
  | .periodStart => p.periodStart
  | .pulseEnd => p.pulseEnd
  | .lineSample interlock snap mark => p.lineSample interlock snap mark
  | .hostWriteRequest length => p.hostWriteRequest length

/-- A command replaces the part, and leaves the queue of commands alone. -/
theorem exec_eq_after (c : Instr) (s : State) : exec c s = .next { s with part := s.part.after c } := by
  cases c <;> rfl

/-- A law of the part that the passing of a microsecond and every command keep holds after every step. -/
theorem kept_of_after {law : Part → Prop} (hTick : ∀ p, law p → law p.tick) (hAfter : ∀ p c, law p → law (p.after c)) :
    kept law := by
  intro s t hs ht
  unfold step at ht
  split at ht
  · obtain rfl : _ = t := by simpa using ht
    exact hTick _ hs
  · rename_i c rest _
    rw [exec_eq_after] at ht
    obtain rfl : _ = t := by simpa using ht
    exact hAfter _ _ hs

end Sys2Proof.Machine
end

section
/-! SUPPORT. The capacities (O56): what each operation does to the length of the link FIFOs, the work queue, the stream list, the
record queue and the transfer queue. Five operations let one grow, each behind its own check of the room; every other one leaves
it or shortens it. -/

namespace Sys2Proof.Machine

/-! ## Operations that grow nothing -/

/-- A part that is no fuller than one within its capacities is within them. -/
theorem Part.Capacities.of_le {p q : Part} (h : p.Capacities)
    (hle : (∀ i, (q.links.get i).fifo.length ≤ (p.links.get i).fifo.length) ∧ q.fra.queue.length ≤ p.fra.queue.length ∧
      q.rca.stream.length ≤ p.rca.stream.length ∧ q.tel.queue.length ≤ p.tel.queue.length ∧
      q.xu.queue.length ≤ p.xu.queue.length) : q.Capacities := by
  obtain ⟨hf, hw, hs, hr, ht⟩ := hle
  exact ⟨fun i => (hf i).trans (h.fifo i), hw.trans h.work, hs.trans h.stream, hr.trans h.records, ht.trans h.transfers⟩

/-- A change of one link that leaves its FIFO within the capacity. -/
theorem Part.Capacities.modLink {p : Part} (h : p.Capacities) (i : LinkIx) (g : SensorLink → SensorLink)
    (hg : (g (p.links.get i)).fifo.length ≤ 16) : (p.modLink i g).Capacities := by
  refine ⟨fun j => ?_, by simpa using h.work, by simpa using h.stream, by simpa using h.records, by simpa using h.transfers⟩
  by_cases hj : j = i
  · subst hj; simpa using hg
  · rw [Part.modLink_get_other _ _ _ _ hj]; exact h.fifo j

/-- A counter leaves the FIFOs alone. -/
@[simp] theorem Part.countSensor_fifo (i j : LinkIx) (g : SensorCounters → SensorCounters) (p : Part) :
    ((p.countSensor i g).links.get j).fifo = (p.links.get j).fifo := by
  by_cases hj : j = i
  · subst hj; simp [Part.countSensor]
  · simp [Part.countSensor, Part.modLink_get_other _ _ _ _ hj]

theorem Part.Capacities.countSensor {p : Part} (h : p.Capacities) (i : LinkIx) (g : SensorCounters → SensorCounters) :
    (p.countSensor i g).Capacities := h.of_le (by simp)

theorem Part.Capacities.raise {p : Part} (h : p.Capacities) (e : Event) : (p.raise e).Capacities := h.of_le (by simp)

/-! ## Sensor links (R11 to R17) -/

theorem Part.Capacities.moveLink {p : Part} (h : p.Capacities) (i : LinkIx) (st : LinkState) :
    (p.moveLink i st).Capacities := (h.modLink i _ (h.fifo i)).raise _

theorem Part.Capacities.countUntracked {p : Part} (h : p.Capacities) (i : LinkIx) : (p.countUntracked i).Capacities :=
  h.countSensor i _

/-- A segment joins a FIFO only where that holds fewer than 16 (R11). -/
theorem Part.Capacities.deliver {p : Part} (h : p.Capacities) (seg : Segment) : (p.deliver seg).Capacities := by
  unfold Part.deliver
  split
  · exact h.countSensor _ _
  · split
    · exact h.countSensor _ _
    · exact (h.modLink _ _ (by simp; omega)).countSensor _ _

theorem Part.Capacities.startQuietTimer {p : Part} (h : p.Capacities) (i : LinkIx) : (p.startQuietTimer i).Capacities :=
  h.modLink i _ (h.fifo i)

theorem Part.Capacities.takeValid {p : Part} (h : p.Capacities) (seg : Segment) : (p.takeValid seg).Capacities := by
  have hq : ((p.countSensor seg.link fun c => { c with valid := c.valid + 1 }).modLink seg.link fun x =>
      { x with lastFrame := some seg.frame }).Capacities :=
    (h.countSensor _ _).modLink _ _ (by simpa using h.fifo seg.link)
  have ht := hq.startQuietTimer seg.link
  unfold Part.takeValid
  dsimp only
  split
  · exact ht.deliver seg
  · split
    · exact (ht.moveLink _ _).deliver seg
    · exact ht.countUntracked _
  · exact (ht.moveLink _ _).countUntracked _
  · exact h

theorem Part.Capacities.segmentArrival {p : Part} (h : p.Capacities) (i : LinkIx) (early : Bool) (packet : List Byte) :
    (p.segmentArrival i early packet).Capacities := by
  unfold Part.segmentArrival
  split
  · exact h
  · unfold Part.takePacket
    split
    · exact h.countSensor _ _
    · exact h.countSensor _ _
    · exact h.countSensor _ _
    · exact h.countSensor _ _
    · exact h.takeValid _

theorem Part.Capacities.advanceTo {p : Part} (h : p.Capacities) (t : Time) : (p.advanceTo t).Capacities :=
  h.of_le (by simp)

theorem Part.Capacities.quietTimerExpiry {p : Part} (h : p.Capacities) (i : LinkIx) : (p.quietTimerExpiry i).Capacities := by
  unfold Part.quietTimerExpiry
  split
  · exact h
  · rename_i t _
    have hq := (h.advanceTo t).modLink i (fun l => { l with quietTimer := none }) ((h.advanceTo t).fifo i)
    unfold Part.quietExpired
    split
    · exact hq.moveLink _ _
    · exact hq.modLink _ _ (hq.fifo i)
    · exact hq
    · exact hq

theorem Part.Capacities.restartLink {p : Part} (h : p.Capacities) (i : LinkIx) (st : LinkState) :
    (p.restartLink i st).Capacities := by
  have hq := h.modLink i (fun l => l.restarted st) (by simp [SensorLink.restarted])
  unfold Part.restartLink
  dsimp only
  split
  · exact hq
  · exact hq.raise _

theorem Part.Capacities.applyLinkSettings {p : Part} (h : p.Capacities) (i : LinkIx) (enable : Bool) (id quietMs : Nat) :
    (p.applyLinkSettings i enable id quietMs).Capacities := by
  have hq := h.modLink i (fun x => { x with enable := enable, expectedId := id, quietMs := quietMs }) (h.fifo i)
  unfold Part.applyLinkSettings
  dsimp only
  (repeat' split)
  · exact hq
  · exact hq.restartLink i _
  · exact hq.restartLink i _
  · exact hq.restartLink i _
  · exact hq

theorem Part.Capacities.setSensor {p : Part} (h : p.Capacities) (q : SensorOrderParams) : (p.setSensor q).2.Capacities := by
  unfold Part.setSensor
  split
  · rename_i i enable policy _ _ _
    split
    · exact h
    · exact (h.applyLinkSettings i enable q.expectedId.toNat (clampTo 1 255 q.quietMs.toNat)).of_le (by simp)
  · exact h

/-- LOOP_STOP's flush empties the FIFOs (R13). -/
theorem Part.Capacities.flushFifos {p : Part} (h : p.Capacities) : p.flushFifos.Capacities :=
  h.of_le (by simp [Part.flushFifos, SensorLink.flushed])

/-! ## The record queue (R180) -/

/-- A record leaves the record queue for the write point; none joins it there. -/
@[simp] theorem Part.writePoint_records (r : TelRecord) (p : Part) : (p.writePoint r).tel.queue = p.tel.queue := by
  rcases p.writePoint_cases r with ⟨_, hw⟩ | ⟨_, hw⟩ <;> simp [hw]

theorem Part.releaseRecords_records (n : Nat) (p : Part) : (Part.releaseRecords n p).tel.queue.length ≤ p.tel.queue.length := by
  induction n generalizing p with
  | zero => exact le_rfl
  | succ n ih =>
    simp only [Part.releaseRecords]
    split
    · exact le_rfl
    · rename_i r rest hq
      split
      · exact le_rfl
      · exact (ih _).trans (by simp [hq])

/-- A record joins the record queue only where that holds fewer than 4 (R180). -/
theorem Part.Capacities.submitRecord {p : Part} (h : p.Capacities) (r : TelRecord) : (p.submitRecord r).Capacities := by
  refine ⟨by simpa using h.fifo, by simpa using h.work, by simpa using h.stream, ?_, by simpa using h.transfers⟩
  have hr := h.records
  unfold Part.submitRecord
  split
  · split
    · simp; omega
    · simpa using hr
  · exact (Part.releaseRecords_records _ _).trans (by simpa using hr)

theorem Part.Capacities.placeRing {p : Part} (h : p.Capacities) (addr : BitVec 64) (capacity : Nat) :
    (p.placeRing addr capacity).Capacities := by
  refine h.of_le ⟨by simp, by simp, by simp, ?_, by simp⟩
  exact (Part.releaseRecords_records _ _).trans (by simp)

theorem Part.Capacities.setTelemetry {p : Part} (h : p.Capacities) (ring : BitVec 64) (capacity : BitVec 32) :
    (p.setTelemetry ring capacity).2.Capacities := by
  unfold Part.setTelemetry
  (repeat' split)
  · exact h
  · exact h
  · exact h
  · exact h.placeRing _ _

/-! ## The work queue and the stream list (R24, R53, R62) -/

@[simp] theorem Part.modSlot_work (i : SlotIx) (g : AsmSlot → AsmSlot) (p : Part) :
    (p.modSlot i g).fra.queue = p.fra.queue := rfl

@[simp] theorem Part.sealCause_work (i : SlotIx) (p : Part) : (p.sealCause i).fra.queue = p.fra.queue := by
  simp only [Part.sealCause, Part.markSealing]; split <;> simp

@[simp] theorem Part.judgeComplete_work (i : SlotIx) (p : Part) : (p.judgeComplete i).fra.queue = p.fra.queue := by
  simp only [Part.judgeComplete]; split <;> simp

@[simp] theorem Part.makeActive_work (b : BankIx) (p : Part) : (p.makeActive b).fra.queue = p.fra.queue := by
  simp [Part.makeActive]

@[simp] theorem Part.openCommits_work (i : SlotIx) (p : Part) : (p.openCommits i).fra.queue = p.fra.queue := by
  simp only [Part.openCommits, Part.swapAtOpen]; (repeat' split) <;> simp

@[simp] theorem Part.openFrame_work (i : SlotIx) (f : Serial) (p : Part) : (p.openFrame i f).fra.queue = p.fra.queue := by
  simp [Part.openFrame]

@[simp] theorem Part.openFrame_stream (i : SlotIx) (f : Serial) (p : Part) : (p.openFrame i f).rca.stream = p.rca.stream := by
  simp [Part.openFrame, Part.clearAccumulators]

@[simp] theorem Part.beginExtraction_stream (i : SlotIx) (p : Part) : (p.beginExtraction i).rca.stream = p.rca.stream := rfl

@[simp] theorem Part.startSubstitution_stream (i : SlotIx) (p : Part) :
    (p.startSubstitution i).rca.stream = p.rca.stream := by
  simp only [Part.startSubstitution]; split <;> simp

/-- A segment joins the work queue from a step that found fewer than 64 entries there (R24, R25). -/
theorem Part.Capacities.admitTo {p : Part} (h : p.Capacities) (i : SlotIx) (seg : Segment) (hw : p.fra.queue.length < 64) :
    (p.admitTo i seg).Capacities := by
  unfold Part.admitTo
  (repeat' split)
  · exact h.countSensor _ _
  · exact h.countSensor _ _
  · refine ⟨by simpa using h.fifo, ?_, by simpa using h.stream, by simpa using h.records, by simpa using h.transfers⟩
    simp [Part.enqueue]; omega

theorem Part.Capacities.admitNew {p : Part} (h : p.Capacities) (seg : Segment) (hw : p.fra.queue.length < 64) :
    (p.admitNew seg).Capacities := by
  unfold Part.admitNew
  (repeat' split)
  · exact Part.Capacities.admitTo (h.of_le (by simp)) _ _ (by simpa using hw)
  · exact h.countSensor _ _
  · exact h.countSensor _ _

theorem Part.Capacities.takeHead {p : Part} (h : p.Capacities) (i : LinkIx) : (p.takeHead i).Capacities :=
  (h.modLink i (fun l => { l with fifo := l.fifo.tail }) (by have := h.fifo i; simp; omega)).of_le (by simp [Part.takeHead])

theorem Part.Capacities.admitSegment {p : Part} (h : p.Capacities) : p.admitSegment.Capacities := by
  unfold Part.admitSegment
  split
  · exact h
  · split
    · exact h
    · split
      · exact h
      · rename_i hw _ i _ _ _ _ _
        have hq : (p.takeHead i).fra.queue.length < 64 := by simp [Part.takeHead]; omega
        unfold Part.placeSegment
        split
        · exact (h.takeHead i).admitTo _ _ hq
        · exact (h.takeHead i).admitNew _ hq

theorem Part.Capacities.deadlineExpiry {p : Part} (h : p.Capacities) (i : SlotIx) : (p.deadlineExpiry i).Capacities := by
  refine h.of_le ⟨by simp, ?_, by simp, by simp, by simp⟩
  unfold Part.deadlineExpiry
  split <;> simp

theorem Part.Capacities.startSubstitution {p : Part} (h : p.Capacities) (i : SlotIx) : (p.startSubstitution i).Capacities :=
  h.of_le (by simp)

/-- An entry that ends leaves the work queue (R53). -/
theorem Part.Capacities.leaveQueue {p : Part} (h : p.Capacities) : p.leaveQueue.Capacities := by
  have hq : ((p.modFra fun f => { f with queue := f.queue.tail }).modScn fun c => { c with job := none }).Capacities :=
    h.of_le (by simp)
  unfold Part.leaveQueue
  dsimp only
  split
  · exact hq
  · exact hq.startSubstitution _

theorem Part.Capacities.entryEnd {p : Part} (h : p.Capacities) : p.entryEnd.Capacities := by
  unfold Part.entryEnd
  (repeat' split)
  · exact h
  · exact h.leaveQueue
  · exact h

theorem Part.Capacities.processEntry {p : Part} (h : p.Capacities) : p.processEntry.Capacities := by
  unfold Part.processEntry
  (repeat' split)
  · exact h
  · exact Part.Capacities.entryEnd (h.of_le (by simp))
  · exact h

/-- A value enters the stream list only where that holds fewer than 8 (R62). -/
theorem Part.Capacities.streamValue {p : Part} (h : p.Capacities) (i : SlotIx) (j : Nat) (c : BitVec 16)
    (hs : p.rca.stream.length < 8) : (p.streamValue i j c).Capacities := by
  unfold Part.streamValue
  split
  · exact h
  · exact ⟨by simpa using h.fifo, by simpa using h.work, by simp; omega, by simpa using h.records, by simpa using h.transfers⟩

theorem Part.Capacities.handOnValue {p : Part} (h : p.Capacities) : p.handOnValue.Capacities := by
  unfold Part.handOnValue
  (repeat' split)
  · exact (Part.Capacities.streamValue (h.of_le (by simp)) _ _ _ (by simpa)).entryEnd
  · exact h
  · exact h
  · exact h

@[simp] theorem modStream_length (slot : SlotIx) (slope : Nat) (g : StreamEntry → StreamEntry) (l : List StreamEntry) :
    (modStream slot slope g l).length = l.length := by
  induction l with
  | nil => rfl
  | cons e rest ih => simp only [modStream]; split <;> simp [ih]

theorem Part.Capacities.arbiterGrant {p : Part} (h : p.Capacities) : p.arbiterGrant.Capacities := by
  refine h.of_le ⟨by simp, by simp, ?_, by simp, by simp⟩
  unfold Part.arbiterGrant
  split
  · exact le_rfl
  · rename_i g _
    cases hr : g.requester <;> simp [Part.grantTo]
    unfold Part.grantStream
    split <;> simp

/-- A burst's arrival leaves the stream list or retires entries of it (R63). -/
theorem Part.Capacities.columnBurstArrival {p : Part} (h : p.Capacities) : p.columnBurstArrival.Capacities := by
  unfold Part.columnBurstArrival
  split
  · dsimp only
    split
    · exact h.of_le (by simp)
    · refine Part.Capacities.entryEnd (h.of_le ⟨by simp, by simp, ?_, by simp, by simp⟩)
      exact (List.length_filter_le _ _).trans (by simp [Part.addBurst])
  · exact h
  · exact h
  · exact h

theorem Part.Capacities.substitutionEnd {p : Part} (h : p.Capacities) : p.substitutionEnd.Capacities := by
  unfold Part.substitutionEnd
  (repeat' split)
  · exact h
  · exact h.of_le (by simp)
  · exact h

theorem Part.Capacities.extractionEnd {p : Part} (h : p.Capacities) : p.extractionEnd.Capacities := by
  unfold Part.extractionEnd
  split
  · exact h
  · exact h.of_le (by simp [Part.endExtraction])

/-! ## Seals, gaps and discards (R33 to R41) -/

theorem Part.Capacities.takeHold {p : Part} (h : p.Capacities) (c : HoldCause) : (p.takeHold c).Capacities := h.of_le (by simp)

theorem Part.Capacities.frameGapExpiry {p : Part} (h : p.Capacities) : p.frameGapExpiry.Capacities := by
  unfold Part.frameGapExpiry
  split
  · exact h
  · exact Part.Capacities.takeHold (h.of_le (by simp)) _

@[simp] theorem Part.countIncomplete_fifo (i : SlotIx) (j : LinkIx) (p : Part) :
    ((p.countIncomplete i).links.get j).fifo = (p.links.get j).fifo :=
  foldl_view (fun q => (q.links.get j).fifo) _ (by intro q x; dsimp only; split <;> simp) _ _

theorem Part.Capacities.recordDecision {p : Part} (h : p.Capacities) (i : SlotIx) (kind : SealKind) :
    (p.recordDecision i kind).Capacities := h.of_le (by simp [Part.recordDecision, Part.startGapTimer])

theorem Part.Capacities.abandonFrame {p : Part} (h : p.Capacities) (i : SlotIx) : (p.abandonFrame i).Capacities := by
  have hq : ((p.clearAccumulators i).modSlot i fun x => { x with state := .free, sealing := false }).Capacities :=
    h.of_le (by simp [Part.clearAccumulators])
  have hr : (((((p.clearAccumulators i).modSlot i fun x => { x with state := .free, sealing := false }).submitRecord
      (p.abandonedRecord i)).modFra fun f => { f with abandons := min 255 (f.abandons + 1) })).Capacities :=
    (hq.submitRecord (p.abandonedRecord i)).of_le (by simp)
  unfold Part.abandonFrame
  dsimp only
  split
  · exact hr.takeHold _
  · exact hr

theorem Part.Capacities.continueSeal {p : Part} (h : p.Capacities) (i : SlotIx) : (p.continueSeal i).Capacities := by
  have hq : (p.modFra fun f => { f with abandons := 0 }).Capacities := h.of_le (by simp)
  unfold Part.continueSeal
  dsimp only
  split
  · exact hq.of_le (by simp)
  · exact hq.startSubstitution i

theorem Part.Capacities.sealDecision {p : Part} (h : p.Capacities) : p.sealDecision.Capacities := by
  unfold Part.sealDecision
  split
  · exact h
  · unfold Part.decideSeal
    split
    · exact (h.recordDecision _ _).abandonFrame _
    · exact (h.recordDecision _ _).continueSeal _
    · exact (h.recordDecision _ _).continueSeal _
    · exact h

theorem Part.Capacities.discardIfHeld {p : Part} (h : p.Capacities) (i : SlotIx) : (p.discardIfHeld i).Capacities := by
  unfold Part.discardIfHeld
  split
  · exact Part.Capacities.submitRecord
      (h.of_le (by simp [Part.discardConditioning, Part.discardReconstruction, List.length_filter_le])) _
  · exact h

theorem Part.Capacities.discardAll {p : Part} (h : p.Capacities) : p.discardAll.Capacities := by
  unfold Part.discardAll
  generalize p.frameOrder = order
  induction order generalizing p with
  | nil => exact h
  | cons i rest ih => exact ih (h.discardIfHeld i)

/-! ## The loop (R95 to R101, R110 to R120) -/

theorem Part.Capacities.endUpdate {p : Part} (h : p.Capacities) (i : SlotIx) (g : Geometry) (u : UpdateReport) (ramp : Bool) :
    (p.endUpdate i g u ramp).Capacities := by
  unfold Part.endUpdate
  dsimp only
  split
  · exact (Part.Capacities.submitRecord (h.of_le (by simp)) _).raise _
  · exact Part.Capacities.submitRecord (h.of_le (by simp)) _

theorem Part.Capacities.updateBegin {p : Part} (h : p.Capacities) : p.updateBegin.Capacities := by
  unfold Part.updateBegin Part.beginUpdate Part.reportOnly Part.fullUpdate
  dsimp only
  (repeat' split)
  · exact h
  · exact h
  · exact Part.Capacities.endUpdate (h.of_le (by simp)) _ _ _ _
  · exact h.of_le (by simp)
  · exact Part.Capacities.endUpdate (h.of_le (by simp)) _ _ _ _

theorem Part.Capacities.sendPoint {p : Part} (h : p.Capacities) : p.sendPoint.Capacities := by
  unfold Part.sendPoint Part.sendVector
  (repeat' split)
  · exact h
  · exact Part.Capacities.endUpdate (h.of_le (by simp)) _ _ _ _
  · exact h.endUpdate _ _ _ _

theorem Part.Capacities.loopOpenOrder {p : Part} (h : p.Capacities) : p.loopOpenOrder.2.Capacities := by
  have ho : p.openLoop.Capacities := h.of_le (by simp [Part.openLoop, Part.restartAssembly, Part.startGapTimer])
  unfold Part.loopOpenOrder
  (repeat' split)
  · exact h
  · exact h
  · exact ho
  · exact h
  · exact ho

theorem Part.Capacities.loopStopOrder {p : Part} (h : p.Capacities) : p.loopStopOrder.2.Capacities := by
  have hp : (p.putLoop .stopped).Capacities := h.of_le (by simp)
  unfold Part.loopStopOrder
  split
  · exact h
  · exact Part.Capacities.raise (hp.discardAll.flushFifos.of_le (by simp)) _

theorem Part.Capacities.resumeOrder {p : Part} (h : p.Capacities) : p.resumeOrder.2.Capacities := by
  unfold Part.resumeOrder
  (repeat' split)
  · exact h
  · exact h
  · exact h.of_le (by simp [Part.resumeLoop, Part.restartAssembly, Part.startGapTimer])

end Sys2Proof.Machine
end

section
/-! SUPPORT. The capacities (O56), continued: the transfer queue, the orders and the commands. -/

namespace Sys2Proof.Machine

/-! ## The transfer queue (R160, R168) -/

@[simp] theorem Part.endLane_queue (r : Running) (res : OrderResult) (p : Part) :
    (p.endLane r res).xu.queue = p.xu.queue := by simp [Part.endLane]

@[simp] theorem Part.endEarly_queue (r : Running) (reason : Reason) (p : Part) :
    (p.endEarly r reason).xu.queue = p.xu.queue := by simp [Part.endEarly]

@[simp] theorem Part.countHostFailure_queue (p : Part) : p.countHostFailure.xu.queue = p.xu.queue := by
  simp [Part.countHostFailure]

@[simp] theorem Part.failTransfer_queue (r : Running) (p : Part) : (p.failTransfer r).xu.queue = p.xu.queue := by
  simp [Part.failTransfer]

@[simp] theorem Part.laneRead_queue (r : Running) (addr : BitVec 64) (length : Nat) (p : Part) :
    (p.laneRead r addr length).xu.queue = p.xu.queue := by
  simp only [Part.laneRead]; split <;> simp

@[simp] theorem Part.completeLoad_queue (r : Running) (p : Part) : (p.completeLoad r).xu.queue = p.xu.queue := by
  simp only [Part.completeLoad, Part.conclude]
  (repeat' split) <;> simp

@[simp] theorem Part.confirm_queue (r : Running) (p : Part) : (p.confirm r).xu.queue = p.xu.queue := by
  simp [Part.confirm]

@[simp] theorem Part.runLane_queue (r : Running) (reading : Bool) (p : Part) :
    (p.runLane r reading).xu.queue = p.xu.queue := by
  simp only [Part.runLane]
  (repeat' split) <;> simp

@[simp] theorem Part.startBulk_queue (b : Bulk) (p : Part) : (p.startBulk b).xu.queue = p.xu.queue := by
  simp only [Part.startBulk]
  (repeat' split) <;> simp

/-- With an empty lane the head leaves the queue; with an occupied one nothing does (R168). -/
theorem Part.startHead_queue (p : Part) :
    p.startHead.xu.queue = if p.xu.lane.isNone then p.xu.queue.tail else p.xu.queue := by
  simp only [Part.startHead]
  split
  · rename_i hl hq; simp [hl, hq]
  · rename_i hn
    cases hl : p.xu.lane with
    | some r => simp
    | none =>
      cases hq : p.xu.queue with
      | nil => simp
      | cons b rest => exact absurd hq (hn b rest hl)

theorem Part.startHead_queue_le (p : Part) : p.startHead.xu.queue.length ≤ p.xu.queue.length := by
  rw [Part.startHead_queue]; split <;> simp

theorem Part.startHeads_queue_le (n : Nat) (p : Part) : (Part.startHeads n p).xu.queue.length ≤ p.xu.queue.length := by
  induction n generalizing p with
  | zero => exact le_rfl
  | succ n ih => exact (ih _).trans p.startHead_queue_le

theorem Part.startQueue_queue_le (p : Part) : p.startQueue.xu.queue.length ≤ p.xu.queue.length :=
  Part.startHeads_queue_le _ _

/-- With an empty lane at least the head leaves a queue that is not empty. -/
theorem Part.startQueue_queue_lt (p : Part) (hl : p.xu.lane = none) (hq : p.xu.queue ≠ []) :
    p.startQueue.xu.queue.length < p.xu.queue.length := by
  obtain ⟨n, hn⟩ : ∃ n, p.xu.queue.length = n + 1 := Nat.exists_eq_succ_of_ne_zero (by simpa using hq)
  have hs := Part.startHeads_queue_le n p.startHead
  rw [Part.startHead_queue, hl] at hs
  simp only [Part.startQueue, hn, Part.startHeads]
  simp [hn] at hs
  omega

theorem Part.Capacities.startHead {p : Part} (h : p.Capacities) : p.startHead.Capacities :=
  h.of_le ⟨by simp, by simp, by simp, by simp, p.startHead_queue_le⟩

theorem Part.Capacities.startQueue {p : Part} (h : p.Capacities) : p.startQueue.Capacities :=
  h.of_le ⟨by simp, by simp, by simp, by simp, p.startQueue_queue_le⟩

/-- A bulk order joins the transfer queue behind a lane and a queue that are not both full; behind an empty lane the head leaves in
the same step (R158, R160). -/
theorem Part.Capacities.enqueueBulk {p : Part} (h : p.Capacities) (ref : OrderRef) (t : Taken) (length : Nat)
    (hroom : p.xu.laneFull = false) : (p.enqueueBulk ref t length).Capacities := by
  refine ⟨by simpa using h.fifo, by simpa using h.work, by simpa using h.stream, by simpa using h.records, ?_⟩
  have ht := h.transfers
  unfold Part.enqueueBulk
  dsimp only
  split
  · rename_i hl
    have := Part.startQueue_queue_lt (p.modXu fun x => { x with queue := x.queue ++ [⟨ref, t.op, t.host, length⟩] })
      (by simpa using hl) (by simp)
    simp at this
    omega
  · rename_i hl
    have hlt : p.xu.queue.length < 4 := by
      have hs : p.xu.lane.isSome = true := by simpa [Option.isSome_iff_ne_none] using hl
      simpa [Xu.laneFull, hs] using hroom
    simp
    omega

theorem Part.Capacities.finish {p : Part} (h : p.Capacities) (ref : OrderRef) (r : OrderResult) :
    (p.finish ref r).Capacities := h.of_le (by simp)

theorem Part.Capacities.refuse {p : Part} (h : p.Capacities) (o : Order) (r : Reason) (ref : OrderRef) :
    (p.refuse o r ref).Capacities := h.of_le (by simp)

theorem Part.Capacities.takeBulk {p : Part} (h : p.Capacities) (o : Order) (ref : OrderRef) (x : Except Reason Taken)
    (hroom : p.xu.laneFull = false) : (p.takeBulk o ref x).Capacities := by
  unfold Part.takeBulk
  split
  · exact h.refuse _ _ _
  · exact h.enqueueBulk _ _ _ hroom

/-! ## Orders (R158 to R160) -/

theorem Part.Capacities.finishWith {x : OrderResult × Part} (h : x.2.Capacities) (ref : OrderRef) :
    (Part.finishWith ref x).Capacities := h.finish ref x.1

theorem Part.Capacities.finishIf {x : Option OrderResult × Part} (h : x.2.Capacities) (ref : OrderRef) :
    (Part.finishIf ref x).Capacities := h.of_le (by simp)

theorem Part.Capacities.swapMatrix {p : Part} (h : p.Capacities) (target : Byte) (ref : OrderRef) :
    (p.swapMatrix target ref).2.Capacities := by
  refine h.of_le ⟨by simp, ?_, by simp, by simp, by simp⟩
  unfold Part.swapMatrix
  dsimp only
  (repeat' split) <;> simp

theorem Part.Capacities.abortTransfer {p : Part} (h : p.Capacities) (matchFlag ticket : Byte) :
    (p.abortTransfer matchFlag ticket).2.Capacities := by
  unfold Part.abortTransfer
  (repeat' split)
  · exact h
  · exact h
  · exact h
  · exact Part.Capacities.startQueue (h.of_le (by simp))

/-- An order keeps the capacities when it is carried out; a bulk order needs the room that its taking has checked. -/
theorem Part.Capacities.carryOut {p : Part} (h : p.Capacities) (o : Order) (ref : OrderRef)
    (hroom : isBulk o = true → p.xu.laneFull = false) : (p.carryOut o ref).Capacities := by
  cases o with
  | setSensor q => exact (h.setSensor q).finishWith ref
  | setLoop q => exact (h.of_le (by simp [Part.setLoopOrder, Part.applySetLoop])).finishWith ref
  | loopOpen => exact h.loopOpenOrder.finishWith ref
  | loopStop => exact h.loopStopOrder.finishWith ref
  | resume => exact h.resumeOrder.finishWith ref
  | swapMatrix target => exact (h.swapMatrix target ref).finishIf ref
  | setWindow q =>
    refine (h.of_le ⟨by simp, by simp, by simp, by simp, ?_⟩).finishWith ref
    unfold Part.setWindow
    (repeat' split) <;> simp
  | setExchange periodUs => exact (h.of_le (by simp [Part.setExchange])).finishWith ref
  | abortTransfer matchFlag ticket => exact (h.abortTransfer matchFlag ticket).finishWith ref
  | setTelemetry ring capacity => exact (h.setTelemetry ring capacity).finishWith ref
  | mirrorProbe mirror => exact (h.of_le (by simp)).finishIf ref
  | loadMatrix q => exact h.takeBulk _ _ _ (hroom rfl)
  | readBack q => exact h.takeBulk _ _ _ (hroom rfl)
  | loadTable q => exact h.takeBulk _ _ _ (hroom rfl)
  | applyShape q => exact h.takeBulk _ _ _ (hroom rfl)
  | copySnapshot dest => exact h.takeBulk _ _ _ (hroom rfl)
  | unknownKind code => exact h.finish _ _
  | _ => exact (h.of_le (by simp)).finishWith ref

theorem Part.Capacities.takeOrder {p : Part} (h : p.Capacities) (o : Order) (ref : OrderRef)
    (hroom : isBulk o = true → p.xu.laneFull = false) : (p.takeOrder o ref).Capacities := by
  have ht : ((p.writeTaken ref.slot).modXu fun x => { x with nextTicket := x.nextTicket + 1 }).Capacities :=
    h.of_le (by simp)
  exact ht.carryOut o ref (by simpa [Xu.laneFull] using hroom)

theorem Part.Capacities.orderCommand {p : Part} (h : p.Capacities) (head : OrderHead) (o : Order) :
    (p.orderCommand head o).Capacities := by
  rcases p.orderCommand_cases head o with ⟨_, hc⟩ | ⟨hok, hc⟩
  · rwa [hc]
  · rw [hc]
    refine h.takeOrder _ _ fun hb => ?_
    simp only [Part.cannotTake, Bool.or_eq_false_iff, Bool.and_eq_false_imp] at hok
    exact hok.2 hb

/-- The taking of a sweep's orders, each behind its own check of the lane and the queue (R158). -/
theorem Part.Capacities.takeOrders {p : Part} (h : p.Capacities) (n : Nat) (eligible : List PostedSlot) :
    (Part.takeOrders n eligible p).Capacities := by
  induction n generalizing p eligible with
  | zero => exact h
  | succ n ih =>
    simp only [Part.takeOrders]
    split
    · exact h
    · rename_i x losers _
      have hl : (losers.foldl (fun y l => y.loseDuplicate l) p).Capacities := by
        clear * - h
        induction losers generalizing p with
        | nil => exact h
        | cons l rest ih => exact ih (h.refuse _ _ _)
      split
      · exact hl
      · rename_i hroom
        exact ih (hl.takeOrder _ _ (by simpa using hroom)) _

theorem Part.Capacities.sweepReadCompletion {p : Part} (h : p.Capacities) (consumed : BitVec 32) (slots : List (List Byte)) :
    (p.sweepReadCompletion consumed slots).Capacities := by
  unfold Part.sweepReadCompletion
  dsimp only
  split
  · have hq : (p.acceptConsumed consumed).Capacities := by
      refine h.of_le ⟨by simp, by simp, by simp, ?_, by simp⟩
      simp only [Part.acceptConsumed, Part.modTel_tel]
      split <;> simp
    exact (hq.takeOrders 32 ((p.acceptConsumed consumed).eligibleSlots slots)).of_le
      (by simp [Part.endSweep, Part.startSweepTimer])
  · exact h

/-! ## Transfers (R169 to R171) -/

theorem Part.Capacities.hostReadCompletion {p : Part} (h : p.Capacities) (bytes : List Byte) :
    (p.hostReadCompletion bytes).Capacities := by
  refine h.of_le ⟨by simp, by simp, by simp, by simp, ?_⟩
  unfold Part.hostReadCompletion Part.takeMatrixBytes Part.takeEntries
  dsimp only
  (repeat' split) <;> simp

theorem Part.Capacities.loaderBurstComplete {p : Part} (h : p.Capacities) : p.loaderBurstComplete.Capacities := by
  refine h.of_le ⟨by simp, by simp, by simp, by simp, ?_⟩
  unfold Part.loaderBurstComplete Part.loadAdvances Part.endMatrix
  dsimp only
  (repeat' split) <;> simp

@[simp] theorem Part.issueImage_queue (r : Running) (bytes : List Byte) (p : Part) :
    (p.issueImage r bytes).xu.queue = p.xu.queue := by
  simp only [Part.issueImage]; split <;> simp

theorem Part.Capacities.readerBurstComplete {p : Part} (h : p.Capacities) : p.readerBurstComplete.Capacities := by
  refine h.of_le ⟨by simp, by simp, by simp, by simp, ?_⟩
  unfold Part.readerBurstComplete
  dsimp only
  (repeat' split) <;> simp

theorem Part.Capacities.hostWriteRequest {p : Part} (h : p.Capacities) (length : Nat) :
    (p.hostWriteRequest length).Capacities := by
  refine h.of_le ⟨by simp, by simp, by simp, by simp, ?_⟩
  unfold Part.hostWriteRequest
  (repeat' split) <;> simp

theorem Part.Capacities.confirmingReadCompletion {p : Part} (h : p.Capacities) : p.confirmingReadCompletion.Capacities := by
  refine h.of_le ⟨by simp, by simp, by simp, by simp, ?_⟩
  unfold Part.confirmingReadCompletion Part.endToHost Part.endCopy
  (repeat' split) <;> simp

@[simp] theorem Part.abandonSweep_queue (p : Part) : p.abandonSweep.xu.queue = p.xu.queue := by
  simp [Part.abandonSweep, Part.startSweepTimer]

theorem Part.Capacities.sweepTimerExpiry {p : Part} (h : p.Capacities) : p.sweepTimerExpiry.Capacities := by
  refine h.of_le ⟨by simp, by simp, by simp, by simp, ?_⟩
  unfold Part.sweepTimerExpiry Part.sweepReads
  (repeat' split) <;> simp

theorem Part.Capacities.hostAccessFailure {p : Part} (h : p.Capacities) (read : FailedRead) :
    (p.hostAccessFailure read).Capacities := by
  refine h.of_le ⟨by simp, by simp, by simp, by simp, ?_⟩
  unfold Part.hostAccessFailure
  (repeat' split) <;> simp

/-! ## Resets and registers (R151 to R173) -/

@[simp] theorem Part.stopQueue_queue (p : Part) : p.stopQueue.xu.queue = [] :=
  (foldl_view (fun q => q.xu.queue) _ (by intro q x; simp) _ _).trans (by simp)

theorem Part.Capacities.stopExchange {p : Part} (h : p.Capacities) : p.stopExchange.Capacities :=
  h.of_le (by simp [Part.stopExchange])

theorem Part.Capacities.partReset (p : Part) : p.partReset.Capacities :=
  ⟨by simp [Part.partReset, Part.resetBlocks, SensorLink.reset], Nat.zero_le _, Nat.zero_le _, Nat.zero_le _, Nat.zero_le _⟩

theorem Part.Capacities.powerUp (p : Part) : p.powerUp.Capacities := by
  refine ⟨fun i => ?_, Nat.zero_le _, Nat.zero_le _, Nat.zero_le _, Nat.zero_le _⟩
  match i with
  | 0 | 1 | 2 | 3 => exact Nat.zero_le _

theorem Part.Capacities.controlWrite {p : Part} (h : p.Capacities) (exchEn reset : Bool) :
    (p.controlWrite exchEn reset).Capacities := by
  unfold Part.controlWrite
  (repeat' split)
  · exact Part.Capacities.partReset p
  · exact h.of_le (by simp [Part.startExchange, Part.startSweepTimer])
  · exact h.stopExchange
  · exact h

theorem Part.Capacities.baseLoWrite {p : Part} (h : p.Capacities) (value : BitVec 32) : (p.baseLoWrite value).Capacities := by
  unfold Part.baseLoWrite
  split
  · exact h
  · exact h.of_le (by simp)

theorem Part.Capacities.baseHiWrite {p : Part} (h : p.Capacities) (value : BitVec 32) : (p.baseHiWrite value).Capacities := by
  unfold Part.baseHiWrite
  split
  · exact h
  · exact h.of_le (by simp)

theorem Part.Capacities.registerWrite {p : Part} (h : p.Capacities) (offset : BitVec 12) (count : Nat) (value : BitVec 32) :
    (p.registerWrite offset count value).Capacities := by
  unfold Part.registerWrite Part.wholeWrite
  (repeat' split)
  · exact h
  · exact h.controlWrite _ _
  · exact h.baseLoWrite _
  · exact h.baseHiWrite _
  · exact h.of_le (by simp)
  · exact h.of_le (by simp)
  · exact h

/-! ## The commands -/

/-- Every command keeps the capacities: an order's command by what the order does, an event's by its own lemma, and the events of the
mirror links and the lines because they touch none of the five. -/
theorem Part.Capacities.after {p : Part} (h : p.Capacities) (c : Instr) : (p.after c).Capacities := by
  cases c with
  | powerOn => exact Part.Capacities.powerUp p
  | partReset | functionLevelReset => exact Part.Capacities.partReset p
  | exchEnStart | exchEnStop => exact h.controlWrite _ _
  | exchBaseLoWrite v => exact h.baseLoWrite v
  | exchBaseHiWrite v => exact h.baseHiWrite v
  | registerWriteIgnored offset count v => exact h.registerWrite offset count v
  | segmentArrival i early packet => exact h.segmentArrival i early packet
  | quietTimerExpiry i => exact h.quietTimerExpiry i
  | admitSegment => exact h.admitSegment
  | deadlineExpiry k => exact h.deadlineExpiry k
  | processEntry => exact h.processEntry
  | handOnValue => exact h.handOnValue
  | arbiterGrant => exact h.arbiterGrant
  | columnBurstArrival => exact h.columnBurstArrival
  | sealDecision => exact h.sealDecision
  | substitutionEnd => exact h.substitutionEnd
  | extractionEnd => exact h.extractionEnd
  | frameGapExpiry => exact h.frameGapExpiry
  | updateBegin => exact h.updateBegin
  | sendPoint => exact h.sendPoint
  | sweepTimerExpiry => exact h.sweepTimerExpiry
  | sweepReadCompletion consumed slots => exact h.sweepReadCompletion consumed slots
  | hostAccessFailure read => exact h.hostAccessFailure read
  | transferStart => exact h.startHead
  | hostReadCompletion bytes => exact h.hostReadCompletion bytes
  | loaderBurstComplete => exact h.loaderBurstComplete
  | readerBurstComplete => exact h.readerBurstComplete
  | confirmingReadCompletion => exact h.confirmingReadCompletion
  | hostWriteRequest length => exact h.hostWriteRequest length
  | eventsWrite | eventMaskWrite | timeLoRead | mirrorPacketArrival | packetTransmitEnd | receiptTimerExpiry
  | interlockEdge | snapEdge | markEdge | periodStart | pulseEnd | lineSample => exact h.of_le (by simp [Part.after])
  | _ => exact h.orderCommand _ _

end Sys2Proof.Machine

namespace Sys2Proof.Proofs

open Sys2Proof.Machine

/-- Settles O56: each of the five operations that let a FIFO, a queue or the stream list grow checks its room first, and no other
command lets one grow. -/
theorem capacitiesKept : Obligations.CapacitiesKept :=
  kept_of_after (fun _ h => h.of_le (by simp)) fun _ c h => h.after c

end Sys2Proof.Proofs
end

section
/-! SUPPORT. The terms of the statements: what stays unchanged, what an event and a finished order put on the bus, and how an order
that can be taken is carried out. -/

namespace Sys2Proof.Machine

/-! ## What stays unchanged -/

/-- Two parts agree but for the listed blocks: one equation for each block that is not listed. -/
theorem Part.sameBut_iff (q p : Part) (l : List Block) :
    q.sameBut p l ↔ (.geo ∈ l ∨ q.geo = p.geo) ∧ (.links ∈ l ∨ q.links = p.links) ∧ (.fra ∈ l ∨ q.fra = p.fra) ∧
      (.scn ∈ l ∨ q.scn = p.scn) ∧ (.rca ∈ l ∨ q.rca = p.rca) ∧ (.mxs ∈ l ∨ q.mxs = p.mxs) ∧
      (.lpc ∈ l ∨ q.lpc = p.lpc) ∧ (.mlt ∈ l ∨ q.mlt = p.mlt) ∧ (.xu ∈ l ∨ q.xu = p.xu) ∧
      (.tel ∈ l ∨ q.tel = p.tel) ∧ (.sns ∈ l ∨ q.sns = p.sns) ∧ (.tlu ∈ l ∨ q.tlu = p.tlu) ∧
      (.issued ∈ l ∨ q.issued = p.issued) ∧ (.frees ∈ l ∨ q.frees = p.frees) := by
  constructor
  · intro h
    have hb (b : Block) : b ∈ l ∨ q.agrees p b := or_iff_not_imp_left.mpr (h b)
    exact ⟨hb .geo, hb .links, hb .fra, hb .scn, hb .rca, hb .mxs, hb .lpc, hb .mlt, hb .xu, hb .tel, hb .sns, hb .tlu,
      hb .issued, hb .frees⟩
  · rintro ⟨h0, h1, h2, h3, h4, h5, h6, h7, h8, h9, h10, h11, h12, h13⟩ b hb
    cases b with
    | geo => exact h0.resolve_left hb
    | links => exact h1.resolve_left hb
    | fra => exact h2.resolve_left hb
    | scn => exact h3.resolve_left hb
    | rca => exact h4.resolve_left hb
    | mxs => exact h5.resolve_left hb
    | lpc => exact h6.resolve_left hb
    | mlt => exact h7.resolve_left hb
    | xu => exact h8.resolve_left hb
    | tel => exact h9.resolve_left hb
    | sns => exact h10.resolve_left hb
    | tlu => exact h11.resolve_left hb
    | issued => exact h12.resolve_left hb
    | frees => exact h13.resolve_left hb

theorem Part.sameBut.trans {t q p : Part} {l l' : List Block} (ht : t.sameBut q l) (hq : q.sameBut p l')
    (hl : ∀ b ∈ l, b ∈ l') : t.sameBut p l' := by
  intro b hb
  have h1 := ht b fun h => hb (hl b h)
  have h2 := hq b hb
  cases b <;> exact Eq.trans h1 h2

/-! ## Events (R205, R206) -/

/-- Raising an event leaves every other flag as it was. -/
theorem withFlag_getLsbD (x : BitVec 8) (e f : Event) :
    (withFlag x e).getLsbD f.bit = (x.getLsbD f.bit || decide (f = e)) := by
  unfold withFlag
  cases e <;> cases f <;> simp [Event.bit]

/-- A raised event issues the message that it sends, if it sends one. -/
theorem Part.raise_signal (e : Event) (p : Part) : (p.raise e).issued = p.issued ++ p.signal e := by
  rw [Part.raise_issued, Part.signal]; split <;> simp

/-- Whether an event sends a message rests on its flag, its mask bit and the function's configuration. -/
theorem Part.signal_congr {p q : Part} (e : Event) (hflag : q.tlu.events.getLsbD e.bit = p.tlu.events.getLsbD e.bit)
    (hmask : q.tlu.mask = p.tlu.mask) (hmem : q.xu.memRequests = p.xu.memRequests)
    (hmsi : q.xu.msiEnabled = p.xu.msiEnabled) : q.signal e = p.signal e := by
  simp [Part.signal, Part.wouldSignal, hflag, hmask, hmem, hmsi]

/-! ## Results (R163) -/

/-- A result's writes, as the statements name them. -/
theorem Part.writeResult_issued (ref : OrderRef) (r : OrderResult) (p : Part) :
    (p.writeResult ref r).issued = p.issued ++ resultWrites p (headOf ref) r := by
  cases h : p.xu.memRequests <;>
    simp [Part.writeResult, Part.hostWrite, Part.issue, resultWrites, headOf, finishedState, Part.now, h]

/-- A finished order has its result, its state and its event, and nothing else (R163). -/
theorem Part.finish_orderFinished (ref : OrderRef) (r : OrderResult) (p : Part) :
    orderFinished p (p.finish ref r) (headOf ref) r := by
  have hs : (p.writeResult ref r).signal .orderFinished = p.signal .orderFinished :=
    Part.signal_congr _ (by simp) (by simp) (by simp) (by simp)
  refine ⟨?_, ?_⟩
  · cases hn : ref.notify <;> simp [headOf, hn]
  · cases hn : ref.notify <;>
      simp [Part.finish, headOf, hn, Part.raise_signal, Part.writeResult_issued, hs]

/-- The order's place and its notify flag are all that its result needs of its reference. -/
@[simp] theorem headOf_orderRef (p : Part) (h : OrderHead) (o : Order) : headOf (p.orderRef h o) = h := rfl

/-! ## Taking a control order (R155, R158) -/

/-- TAKEN and the next ticket, as the statements name them. -/
theorem Part.writeTaken_orderTaken (h : OrderHead) (p : Part) :
    ((p.writeTaken h.slot).modXu fun x => { x with nextTicket := x.nextTicket + 1 }) = orderTaken p h := by
  cases hm : p.xu.memRequests <;> simp [Part.writeTaken, Part.hostWrite, Part.issue, orderTaken, Part.modXu, hm]

/-- A control order whose slot is ready is taken and carried out in its own step. -/
theorem Part.orderCommand_ready {p : Part} {h : OrderHead} {o : Order} (hr : p.readyFor h) (ho : isBulk o = false) :
    p.orderCommand h o = (orderTaken p h).carryOut o (p.orderRef h o) := by
  obtain ⟨hen, hslot⟩ := hr
  have hok : p.cannotTake o h.slot = false := by simp [Part.cannotTake, hen, hslot, ho]
  simp only [Part.orderCommand, hok, Part.takeOrder, Part.orderRef]
  rw [← Part.writeTaken_orderTaken]
  rfl

/-- An order that is taken touches the exchange unit's ticket and what is issued. -/
@[simp] theorem orderTaken_keeps (p : Part) (h : OrderHead) :
    (orderTaken p h).geo = p.geo ∧ (orderTaken p h).links = p.links ∧ (orderTaken p h).fra = p.fra ∧
    (orderTaken p h).scn = p.scn ∧ (orderTaken p h).rca = p.rca ∧ (orderTaken p h).mxs = p.mxs ∧
    (orderTaken p h).lpc = p.lpc ∧ (orderTaken p h).mlt = p.mlt ∧ (orderTaken p h).tel = p.tel ∧
    (orderTaken p h).sns = p.sns ∧ (orderTaken p h).tlu = p.tlu ∧ (orderTaken p h).frees = p.frees :=
  ⟨rfl, rfl, rfl, rfl, rfl, rfl, rfl, rfl, rfl, rfl, rfl, rfl⟩

@[simp] theorem orderTaken_xu (p : Part) (h : OrderHead) :
    (orderTaken p h).xu = { p.xu with nextTicket := p.xu.nextTicket + 1 } := rfl

/-- The writes of an order's result rest on the area's place, the function's configuration and the time. -/
theorem resultWrites_congr {p q : Part} (h : OrderHead) (r : OrderResult) (hbase : q.xu.base = p.xu.base)
    (hmem : q.xu.memRequests = p.xu.memRequests) (htime : q.tlu.timebase = p.tlu.timebase) :
    resultWrites q h r = resultWrites p h r := by
  simp [resultWrites, Part.slotAddr, Part.area, hbase, hmem, htime]

/-- TAKEN, the result and the notify flag's message are what an order reports that finishes in the step that takes it. -/
theorem orderTaken_report (p : Part) (h : OrderHead) (r : OrderResult) :
    (orderTaken p h).issued ++ resultWrites p h r ++ (if h.notify then p.signal .orderFinished else []) =
      p.issued ++ p.orderReport h r := by
  cases hm : p.xu.memRequests <;> simp [orderTaken, resultWrites, Part.orderReport, finishedState, Part.now, hm]

/-- An order is answered where its own effect, from the part that took it on, leaves the TLU and the exchange unit alone. -/
theorem Part.answered_of_finished {p q t : Part} {h : OrderHead} {r : OrderResult} {changed : List Block}
    (hxu : q.xu = (orderTaken p h).xu) (htlu : q.tlu = p.tlu) (hissued : q.issued = (orderTaken p h).issued)
    (hfin : orderFinished q t h r) (ht : t.sameBut q [.tlu, .issued]) (hq : q.sameBut p (.xu :: .tlu :: .issued :: changed)) :
    p.Answered h r p.xu p.tlu changed t := by
  obtain ⟨hft, hfi⟩ := hfin
  have hs : q.signal .orderFinished = p.signal .orderFinished :=
    Part.signal_congr _ (by rw [htlu]) (by rw [htlu]) (by simp [hxu]) (by simp [hxu])
  have hw : resultWrites q h r = resultWrites p h r :=
    resultWrites_congr h r (by simp [hxu]) (by simp [hxu]) (by rw [htlu])
  have hx : t.xu = q.xu := ht .xu (by decide)
  refine ⟨?_, ?_, ?_, ?_⟩
  · rw [hx, hxu, orderTaken_xu]
  · rw [hft, htlu]
  · rw [hfi, hissued, hw, hs, orderTaken_report]
  · exact ht.trans hq (by simp)

/-- An order that raised an event of its own before it finished. -/
theorem raisedOrderDone_of_finished {p q t : Part} {h : OrderHead} {r : OrderResult} {changed : List Block} {e : Event}
    (he : e ≠ .orderFinished) (hxu : q.xu = (orderTaken p h).xu)
    (htlu : q.tlu = { p.tlu with events := withFlag p.tlu.events e })
    (hissued : q.issued = (orderTaken p h).issued ++ p.signal e) (hfin : orderFinished q t h r)
    (ht : t.sameBut q [.tlu, .issued]) (hq : q.sameBut p (.xu :: .tlu :: .issued :: changed)) :
    raisedOrderDone e p t h r changed := by
  obtain ⟨hft, hfi⟩ := hfin
  have hs : q.signal .orderFinished = p.signal .orderFinished :=
    Part.signal_congr _ (by simp [htlu, withFlag_getLsbD, Ne.symm he]) (by rw [htlu]) (by simp [hxu]) (by simp [hxu])
  have hw : resultWrites q h r = resultWrites p h r :=
    resultWrites_congr h r (by simp [hxu]) (by simp [hxu]) (by rw [htlu])
  have hx : t.xu = q.xu := ht .xu (by decide)
  refine ⟨?_, ?_, ?_, ?_⟩
  · rw [hx, hxu, orderTaken_xu]
  · rw [hft, htlu]
  · rw [hfi, hissued, hw, hs]
  · exact ht.trans hq (by simp)

/-- A finish leaves every block but the TLU and what is issued. -/
theorem Part.finish_sameBut (ref : OrderRef) (r : OrderResult) (p : Part) : (p.finish ref r).sameBut p [.tlu, .issued] := by
  simp [Part.sameBut_iff]

end Sys2Proof.Machine
end

section
/-! SUPPORT. Power-on (O6) and the sensor links (O8, O9, O10): the checks of a packet, the delivery of a segment and the quiet
timer. -/

namespace Sys2Proof.Machine

/-! ## Power-on -/

@[simp] theorem Four.get_all {α : Type} (x : α) (i : Fin 4) : (Four.all x).get i = x := by
  match i with
  | 0 | 1 | 2 | 3 => rfl

@[simp] theorem Two.get_both {α : Type} (x : α) (i : Fin 2) : (Two.both x).get i = x := by
  match i with
  | 0 | 1 => rfl

theorem Two.both_t0 {α : Type} (x : α) : (Two.both x).t0 = x := rfl

theorem Two.both_t1 {α : Type} (x : α) : (Two.both x).t1 = x := rfl

theorem Four.all_eq_mk {α : Type} (x : α) : Four.all x = ⟨x, x, x, x⟩ := rfl

/-- The power-on values hold of a part in its power-on state, whatever its store's epoch, its function's configuration, and what it
has issued and drawn. -/
theorem powerOnValues_of_powerOn (epoch : Nat) (mem msi : Bool) (issued : List Output) (frees : Nat) :
    powerOnValues { Part.powerOn with
      mxs := { Mxs.powerOn with epoch := epoch }
      xu := { Xu.powerOn with memRequests := mem, msiEnabled := msi }
      issued := issued
      frees := frees } := by
  simp [powerOnValues, Part.powerOn, SensorLink.powerOn, SensorCounters.zero, Geometry.unset, Part.slot, AsmSlot.cleared,
    Fra.powerOn, Scn.powerOn, Kept.powerOn, SensorParam.powerOn, SlopeRecord.cleared, Rca.powerOn, ResidualRecord.cleared,
    Mxs.powerOn, BankRecord.powerOn, rotationPowerOn, Lpc.powerOn, Part.loopClosedPin, CauseSet.empty, Lpc.value, Lpc.limit,
    integratorPowerOn, Limits.powerOn, Gains.powerOn, MirrorLink.powerOn, MirrorCounters.zero, Xu.powerOn, Part.inFlight,
    Xu.bulkOrders, Window.powerOn, Tel.powerOn, Sns.powerOn, Tlu.powerOn, Pacer.powerOn, Line.powerOn, Two.both_t0, Two.both_t1]
  simp [Four.all_eq_mk]

/-! ## The checks of a packet (R2 to R5) -/

theorem malformed_iff (packet : List Byte) : malformed packet = true ↔ segmentMalformed packet := by
  unfold malformed segmentMalformed
  simp only [Bool.or_eq_true, decide_eq_true_eq, or_assoc]
  rfl

theorem misplaced_iff (n : Nat) (packet : List Byte) : misplaced n (segHeader packet) = true ↔ segmentMisplaced n packet := by
  unfold misplaced segmentMisplaced
  simp only [Bool.or_eq_true, decide_eq_true_eq, or_assoc]
  rfl

/-- The verdict of the four checks in their order (R1). -/
theorem checkSegment_eq (id n : Nat) (packet : List Byte) [Decidable (segmentMalformed packet)]
    [Decidable (segmentMisplaced n packet)] :
    checkSegment id n packet =
      if segmentMalformed packet then .format
      else if crcMatches packet = false then .crc
      else if (byteAt packet 1).toNat ≠ id then .foreign
      else if segmentMisplaced n packet then .geometry
      else .valid := by
  simp only [checkSegment, malformed_iff, misplaced_iff, Bool.not_eq_true']
  rfl

/-! ## A link that moves (R10, R15) -/

theorem Four.set_set {α : Type} (v : Four α) (i : Fin 4) (x y : α) : (v.set i x).set i y = v.set i y := by
  match i with
  | 0 | 1 | 2 | 3 => rfl

theorem Four.set_get_self {α : Type} (v : Four α) (i : Fin 4) : v.set i (v.get i) = v := by
  match i with
  | 0 | 1 | 2 | 3 => rfl

/-- The part q is p with the record of link i replaced by l; SENSOR_LINK is raised where that changes the link's state. -/
structure Part.LinkMoved (p q : Part) (i : LinkIx) (l : SensorLink) : Prop where
  links : q.links = p.links.set i l
  tlu : q.tlu = { p.tlu with
    events := if l.state = (p.links.get i).state then p.tlu.events else withFlag p.tlu.events .sensorLink }
  issued : q.issued = p.issued ++ (if l.state = (p.links.get i).state then [] else p.signal .sensorLink)
  rest : q.sameBut p [.links, .tlu, .issued]

/-- A part has moved none of its links. -/
theorem Part.LinkMoved.refl (p : Part) (i : LinkIx) : p.LinkMoved p i (p.links.get i) :=
  ⟨(Four.set_get_self _ _).symm, by simp, by simp, by simp [Part.sameBut_iff]⟩

/-- The moved link's record. -/
theorem Part.LinkMoved.get {p q : Part} {i : LinkIx} {l : SensorLink} (h : p.LinkMoved q i l) : q.links.get i = l := by
  rw [h.links]; simp

/-- A link that keeps its state raises no event. -/
theorem Part.LinkMoved.still {p q : Part} {i : LinkIx} {l : SensorLink} (h : p.LinkMoved q i l)
    (hl : l.state = (p.links.get i).state) : q.tlu = p.tlu ∧ q.issued = p.issued := by
  obtain ⟨-, htlu, hissued, -⟩ := h
  simpa [hl] using And.intro htlu hissued

/-- A link that changes its state raises SENSOR_LINK (R15). -/
theorem Part.LinkMoved.moved {p q : Part} {i : LinkIx} {l : SensorLink} (h : p.LinkMoved q i l)
    (hl : l.state ≠ (p.links.get i).state) :
    q.tlu = { p.tlu with events := withFlag p.tlu.events .sensorLink } ∧ q.issued = p.issued ++ p.signal .sensorLink := by
  obtain ⟨-, htlu, hissued, -⟩ := h
  simpa [hl] using And.intro htlu hissued

/-- A change of the link that leaves its state. -/
theorem Part.LinkMoved.modLink {p q : Part} {i : LinkIx} {l : SensorLink} (h : p.LinkMoved q i l)
    (g : SensorLink → SensorLink) (hg : (g l).state = l.state) : p.LinkMoved (q.modLink i g) i (g l) where
  links := by
    rw [show (q.modLink i g).links = q.links.set i (g (q.links.get i)) from rfl, h.get, h.links, Four.set_set]
  tlu := by simpa [hg] using h.tlu
  issued := by simpa [hg] using h.issued
  rest := Part.sameBut.trans (l := [.links]) (by simp [Part.sameBut_iff]) h.rest (by simp)

/-- A counter of the link. -/
theorem Part.LinkMoved.countSensor {p q : Part} {i : LinkIx} {l : SensorLink} (h : p.LinkMoved q i l)
    (g : SensorCounters → SensorCounters) : p.LinkMoved (q.countSensor i g) i { l with counters := g l.counters } :=
  h.modLink (fun l => { l with counters := g l.counters }) rfl

/-- A change of the link's state, with its event (R15). -/
theorem Part.LinkMoved.raise {p q : Part} {i : LinkIx} {l : SensorLink} (h : p.LinkMoved q i l)
    (hl : l.state = (p.links.get i).state) (g : SensorLink → SensorLink) (hg : (g l).state ≠ l.state) :
    p.LinkMoved ((q.modLink i g).raise .sensorLink) i (g l) := by
  have hne : ¬ (g l).state = (p.links.get i).state := fun e => hg (e.trans hl.symm)
  obtain ⟨htlu, hissued⟩ := h.still hl
  have hxu : q.xu = p.xu := h.rest .xu (by decide)
  have hsig : (q.modLink i g).signal .sensorLink = p.signal .sensorLink :=
    Part.signal_congr _ (by simp [htlu]) (by simp [htlu]) (by simp [hxu]) (by simp [hxu])
  refine ⟨?_, ?_, ?_, ?_⟩
  · rw [(Part.raise_keeps _ _).2.1, show (q.modLink i g).links = q.links.set i (g (q.links.get i)) from rfl, h.get, h.links,
      Four.set_set]
  · simp [hne, htlu]
  · rw [Part.raise_signal, hsig, if_neg hne]
    simp [hissued]
  · exact Part.sameBut.trans (l := [.links, .tlu, .issued]) (by simp [Part.sameBut_iff]) h.rest (by simp)

theorem Part.LinkMoved.moveLink {p q : Part} {i : LinkIx} {l : SensorLink} (h : p.LinkMoved q i l)
    (hl : l.state = (p.links.get i).state) (st : LinkState) (hst : st ≠ l.state) :
    p.LinkMoved (q.moveLink i st) i { l with state := st } :=
  h.raise hl (fun l => { l with state := st }) hst

theorem Part.LinkMoved.countUntracked {p q : Part} {i : LinkIx} {l : SensorLink} (h : p.LinkMoved q i l) :
    p.LinkMoved (q.countUntracked i) i { l with counters := { l.counters with untracked := l.counters.untracked + 1 } } :=
  h.countSensor fun c => { c with untracked := c.untracked + 1 }

/-! ## Valid segments (R6 to R11) -/

/-- The link's record after a segment that it delivers, in a stopped loop or not (R11). -/
def SensorLink.delivered (l : SensorLink) (stopped : Bool) (seg : Segment) : SensorLink :=
  if stopped then { l with counters := { l.counters with stopped := l.counters.stopped + 1 } }
  else if 16 ≤ l.fifo.length then { l with counters := { l.counters with overrun := l.counters.overrun + 1 } }
  else { l with
    fifo := l.fifo ++ [seg]
    counters := { l.counters with delivered := l.counters.delivered + 1 } }

@[simp] theorem SensorLink.delivered_state (l : SensorLink) (stopped : Bool) (seg : Segment) :
    (l.delivered stopped seg).state = l.state := by
  unfold SensorLink.delivered; (repeat' split) <;> rfl

/-- A delivery touches the FIFO and the counters, VALID apart. -/
theorem SensorLink.delivered_eq (l : SensorLink) (stopped : Bool) (seg : Segment) :
    l.delivered stopped seg = { l with
      fifo := (l.delivered stopped seg).fifo
      counters := { (l.delivered stopped seg).counters with valid := l.counters.valid } } := by
  unfold SensorLink.delivered; (repeat' split) <;> rfl

theorem Part.LinkMoved.deliver {p q : Part} {l : SensorLink} (seg : Segment) (h : p.LinkMoved q seg.link l) :
    p.LinkMoved (q.deliver seg) seg.link (l.delivered (q.lpc.loop = .stopped) seg) := by
  unfold Part.deliver SensorLink.delivered
  simp only [decide_eq_true_eq, h.get]
  split
  · exact h.countSensor _
  · split
    · exact h.countSensor _
    · exact (h.modLink (fun l => { l with fifo := l.fifo ++ [seg] }) rfl).countSensor _

/-- A link's record after a valid segment, before its state is judged: VALID, L and the quiet timer (R6). -/
def SensorLink.heard (l : SensorLink) (seg : Segment) (now : Time) : SensorLink :=
  { l with
    lastFrame := some seg.frame
    quietTimer := some (later now (1000 * l.quietMs))
    counters := { l.counters with valid := l.counters.valid + 1 } }

/-- A valid segment is admitted in TRACKING, and in ACQUIRING where it is of frame L + 1 (R6, R7). -/
def SensorLink.admits (l : SensorLink) (f : Serial) : Prop :=
  l.state = .tracking ∨ (l.state = .acquiring ∧ l.lastFrame = some (f - 1))

/-- A part whose link has heard a valid segment, before its state is judged: VALID, L and the quiet timer (R6). -/
def Part.hear (seg : Segment) (p : Part) : Part :=
  ((p.countSensor seg.link fun c => { c with valid := c.valid + 1 }).modLink seg.link fun x =>
    { x with lastFrame := some seg.frame }).startQuietTimer seg.link

theorem Part.hear_moved (seg : Segment) (p : Part) :
    p.LinkMoved (p.hear seg) seg.link ((p.links.get seg.link).heard seg p.now) :=
  (((Part.LinkMoved.refl p seg.link).countSensor fun c => { c with valid := c.valid + 1 }).modLink
    (fun x => { x with lastFrame := some seg.frame }) rfl).modLink
    (fun x => { x with quietTimer := some (later p.now (1000 * x.quietMs)) }) rfl

/-- A valid segment by the link's state (R6 to R8). -/
theorem Part.takeValid_eq (seg : Segment) (p : Part) :
    p.takeValid seg =
      match (p.links.get seg.link).state with
      | .tracking => (p.hear seg).deliver seg
      | .acquiring =>
        if (p.links.get seg.link).lastFrame = some (seg.frame - 1) then ((p.hear seg).moveLink seg.link .tracking).deliver seg
        else (p.hear seg).countUntracked seg.link
      | .quiet => ((p.hear seg).moveLink seg.link .acquiring).countUntracked seg.link
      | .off => p := rfl

/-- What a valid segment makes of a link that is not OFF (R6 to R8). -/
theorem Part.takeValid_moved (seg : Segment) (p : Part) (hoff : (p.links.get seg.link).state ≠ .off) :
    let l := (p.links.get seg.link).heard seg p.now
    ((p.links.get seg.link).admits seg.frame → p.LinkMoved (p.takeValid seg) seg.link
      (({ l with state := .tracking } : SensorLink).delivered (p.lpc.loop = .stopped) seg)) ∧
    (¬ (p.links.get seg.link).admits seg.frame → p.LinkMoved (p.takeValid seg) seg.link
      { l with state := .acquiring, counters := { l.counters with untracked := l.counters.untracked + 1 } }) := by
  intro l
  have hq : p.LinkMoved (p.hear seg) seg.link l := p.hear_moved seg
  have hl : l.state = (p.links.get seg.link).state := rfl
  have hdeliver {q : Part} {x : SensorLink} (h : p.LinkMoved q seg.link x) :
      p.LinkMoved (q.deliver seg) seg.link (x.delivered (p.lpc.loop = .stopped) seg) := by
    have hlpc : q.lpc = p.lpc := h.rest .lpc (by decide)
    simpa only [hlpc] using h.deliver seg
  rw [Part.takeValid_eq]
  unfold SensorLink.admits
  cases hs : (p.links.get seg.link).state with
  | off => exact absurd hs hoff
  | tracking =>
    have hl' : ({ l with state := .tracking } : SensorLink) = l := by rw [← hs, ← hl]
    exact ⟨fun _ => by rw [hl']; exact hdeliver hq, fun h => absurd (.inl rfl) h⟩
  | acquiring =>
    have hl' : ({ l with state := .acquiring } : SensorLink) = l := by rw [← hs, ← hl]
    by_cases hf : (p.links.get seg.link).lastFrame = some (seg.frame - 1)
    · rw [hf]
      exact ⟨fun _ => by simpa only [if_true] using hdeliver (hq.moveLink hl .tracking (by rw [hl, hs]; decide)),
        fun h => absurd (.inr ⟨rfl, rfl⟩) h⟩
    · refine ⟨fun h => absurd (h.resolve_left (by decide)).2 hf, fun _ => ?_⟩
      have hu := hq.countUntracked
      rw [← hl'] at hu
      simpa only [hf, if_false] using hu
  | quiet =>
    exact ⟨fun h => by simp at h, fun _ => (hq.moveLink hl .acquiring (by rw [hl, hs]; decide)).countUntracked⟩

/-! ## Time (R195; log entry 10) -/

/-- An event that is taken has its time reached. -/
theorem Part.reached_advanceTo (t : Time) (p : Part) : reached (p.advanceTo t).tlu.timebase t = true := by
  rw [Part.advanceTo_tlu]
  dsimp only
  split
  · assumption
  · simp [reached]

end Sys2Proof.Machine

namespace Sys2Proof.Proofs

open Sys2Proof.Machine

/-- Settles O6: the powered part is written out block by block, and its values are those of the power-on state. -/
theorem powerIsApplied : Obligations.PowerIsApplied := by
  intro s
  refine ⟨_, exec_eq_after _ _, rfl, rfl, rfl, rfl, rfl, ?_, ?_, ?_⟩
  · simp [Part.sameBut_iff, Part.after, Part.powerUp, State.reset]
  · exact powerOnValues_of_powerOn _ _ _ _ _
  · exact powerOnValues_of_powerOn 0 true true [] 0

/-- Settles O8: the four checks in their order give the verdict, and each failing verdict counts in its own counter. -/
theorem failedSegmentsCountOnce : Obligations.FailedSegmentsCountOnce := by
  classical
  intro s i packet l c counted
  have hcount (g : SensorCounters → SensorCounters) (hl : l.state ≠ .off)
      (h : s.part.takePacket i packet = s.part.countSensor i g) : counted (g c) := by
    have hafter : s.part.after (.segmentArrival i false packet) = s.part.countSensor i g := by
      simpa [Part.after, Part.segmentArrival, l, hl] using h
    refine ⟨_, exec_eq_after _ _, rfl, ?_, ?_⟩ <;> dsimp only <;> rw [hafter]
    · exact ((Part.LinkMoved.refl s.part i).countSensor g).links
    · simp [Part.sameBut_iff]
  refine ⟨?_, fun hoff => ?_, fun hl hbad => ?_, fun hl hok hcrc => ?_, fun hl hok hcrc hid => ?_,
    fun hl hok hcrc hid hgeo => ?_⟩
  · simp [exec_eq_after, Part.after, Part.segmentArrival]
  · simp [exec_eq_after, Part.after, Part.segmentArrival, hoff, l]
  · exact hcount (fun c => { c with format := c.format + 1 }) hl (by simp [Part.takePacket, checkSegment_eq, hbad])
  · exact hcount (fun c => { c with crc := c.crc + 1 }) hl (by simp [Part.takePacket, checkSegment_eq, hok, hcrc])
  · exact hcount (fun c => { c with foreign := c.foreign + 1 }) hl
      (by simp [Part.takePacket, checkSegment_eq, hok, hcrc, hid, l])
  · exact hcount (fun c => { c with geometry := c.geometry + 1 }) hl
      (by simp [Part.takePacket, checkSegment_eq, hok, hcrc, hid, hgeo, l])

/-- Settles O9: the link hears the segment, moves or not by its state, and delivers the segment or counts it. -/
theorem validSegmentMovesTheLink : Obligations.ValidSegmentMovesTheLink := by
  classical
  intro s i packet l frame admits hoff hvalid
  obtain ⟨hok, hcrc, hid, hgeo⟩ := hvalid
  set seg := segmentOf i packet with hseg
  have hexec : exec (.segmentArrival i false packet) s = .next { s with part := s.part.takeValid seg } := by
    have hs : (s.part.links.get i).state ≠ .off := hoff
    simp [exec_eq_after, Part.after, Part.segmentArrival, Part.takePacket, checkSegment_eq, hs, hok, hcrc, hid, hgeo, hseg]
  obtain ⟨hadmitted, hrefused⟩ := s.part.takeValid_moved seg hoff
  by_cases hadm : admits
  · have hm := hadmitted hadm
    set x : SensorLink := { l.heard seg s.part.now with state := .tracking } with hx
    set d := x.delivered (s.part.lpc.loop = .stopped) seg with hd
    have hstate : d.state = .tracking := SensorLink.delivered_state _ _ _
    refine ⟨_, .tracking, d.fifo, { d.counters with valid := l.counters.valid }, hexec, rfl, ?_, fun _ => rfl,
      fun h => absurd hadm h, fun h => absurd hadm h, fun _ h => ?_, fun _ h hf => ?_, fun _ h hf => ?_, ?_, ?_, hm.rest⟩
    · exact hm.links.trans (congrArg _ (SensorLink.delivered_eq x _ seg))
    · simp [hd, hx, SensorLink.delivered, SensorLink.heard, h]
    · simp [hd, hx, SensorLink.delivered, SensorLink.heard, h, hf]
    · simp [hd, hx, SensorLink.delivered, SensorLink.heard, h, Nat.not_le.mpr hf, hseg, segmentOf, segHeader, field8, frame]
    · exact hstate ▸ hm.tlu
    · exact hstate ▸ hm.issued
  · have hm := hrefused hadm
    exact ⟨_, .acquiring, l.fifo, { l.counters with untracked := l.counters.untracked + 1 }, hexec, rfl, hm.links,
      fun h => absurd h hadm, fun _ => rfl, fun _ => ⟨rfl, rfl⟩, fun h => absurd h hadm, fun h => absurd h hadm,
      fun h => absurd h hadm, hm.tlu, hm.issued, hm.rest⟩

/-- Settles O10: time moves on to the expiry, the timer stops, and the link moves by its state. -/
theorem quietTimerExpires : Obligations.QuietTimerExpires := by
  intro s i at_ hat l
  set p := s.part.advanceTo at_ with hp
  have hexec : exec (.quietTimerExpiry i) s =
      .next { s with part := (p.modLink i fun l => { l with quietTimer := none }).quietExpired i } := by
    simp [exec_eq_after, Part.after, Part.quietTimerExpiry, hat, hp]
  have hstop : p.LinkMoved (p.modLink i fun l => { l with quietTimer := none }) i { l with quietTimer := none } :=
    (Part.LinkMoved.refl p i).modLink (fun l => { l with quietTimer := none }) rfl
  have hsig : p.signal .sensorLink = s.part.signal .sensorLink :=
    Part.signal_congr _ (by simp [hp]) (by simp [hp]) (by simp [hp]) (by simp [hp])
  have hrest {q : Part} {x : SensorLink} (hm : p.LinkMoved q i x) :
      q.tlu = { s.part.tlu with timebase := q.tlu.timebase, events := q.tlu.events } ∧ reached q.tlu.timebase at_ = true ∧
        q.sameBut s.part [.links, .tlu, .issued] := by
    refine ⟨by simp [hm.tlu, hp], ?_, hm.rest.trans (l' := [.links, .tlu, .issued]) ?_ (by simp)⟩
    · rw [hm.tlu]; exact Part.reached_advanceTo at_ s.part
    · simp [Part.sameBut_iff, hp]
  have hstate : (p.links.get i).state = l.state := rfl
  have hevents : p.tlu.events = s.part.tlu.events := by simp [hp]
  have hissued : p.issued = s.part.issued := by simp [hp]
  refine ⟨_, hexec, rfl, ?_⟩
  unfold Part.quietExpired
  simp only [Part.modLink_get]
  cases hp' : (p.links.get i).state with
  | tracking =>
    have hs : l.state = .tracking := hp'
    have hm := hstop.moveLink rfl .quiet (by rw [hs]; decide)
    exact ⟨fun _ => ⟨hm.links, by simp [hm.tlu, hstate, hs, hevents], by simp [hm.issued, hstate, hs, hsig, hissued]⟩,
      by simp [hs], by simp [hs], hrest hm⟩
  | acquiring =>
    have hs : l.state = .acquiring := hp'
    have hm := hstop.modLink (fun l => { l with lastFrame := none }) rfl
    exact ⟨by simp [hs], fun _ => ⟨hm.links, by simp [hevents], by simp [hissued]⟩,
      by simp [hs], hrest hm⟩
  | off | quiet =>
    have hs : l.state ≠ .tracking ∧ l.state ≠ .acquiring := by rw [show l.state = _ from hp']; decide
    exact ⟨fun h => absurd h hs.1, fun h => absurd h hs.2, fun _ =>
      ⟨hstop.links, by simp [hevents], by simp [hissued]⟩, hrest hstop⟩

end Sys2Proof.Proofs
end

section
/-! SUPPORT. SET_SENSOR (O11): the judgement of its operands, the link's new record, and the sensor-parameter shadow. -/

namespace Sys2Proof.Machine

/-! ## The operands (R164) -/

/-- The ADJUSTED note is set exactly where clamping changes a value. -/
theorem outside_eq (lo hi v : Nat) (h : lo ≤ hi) : outside lo hi v = decide (v ≠ max lo (min hi v)) := by
  simp only [outside, ← Bool.decide_or, decide_eq_decide]
  omega

theorem indexOf_eq_some {n : Nat} {code : Byte} {i : Fin n} (h : code.toNat = i.val) : indexOf n code = some i := by
  simp [indexOf, h]

theorem indexOf_eq_none {n : Nat} {code : Byte} (h : n ≤ code.toNat) : indexOf n code = none := by
  simp [indexOf, h]

/-- A flag byte within its range. -/
theorem flagOf_eq_some {code : Byte} (h : code.toNat ≤ 1) : flagOf code = some (decide (code = 1)) := by
  have hc : code = 0 ∨ code = 1 := by bv_omega
  rcases hc with rfl | rfl <;> rfl

theorem flagOf_eq_none {code : Byte} (h : 1 < code.toNat) : flagOf code = none := by
  have h0 : code ≠ 0 := by rintro rfl; simp at h
  have h1 : code ≠ 1 := by rintro rfl; simp at h
  simp only [flagOf, if_neg h0, if_neg h1]

/-- A policy byte within its range. -/
theorem policyOf_eq_some {code : Byte} (h : code.toNat ≤ 2) :
    policyOf code = some (if code = 0 then .keep else if code = 1 then .zero else .require) := by
  have hc : code = 0 ∨ code = 1 ∨ code = 2 := by bv_omega
  rcases hc with rfl | rfl | rfl <;> rfl

theorem policyOf_eq_none {code : Byte} (h : 2 < code.toNat) : policyOf code = none := by
  have h0 : code ≠ 0 := by rintro rfl; simp at h
  have h1 : code ≠ 1 := by rintro rfl; simp at h
  have h2 : code ≠ 2 := by rintro rfl; simp at h
  simp only [policyOf, if_neg h0, if_neg h1, if_neg h2]

/-- A SET_SENSOR with a structural value out of range is refused (R16, R164). -/
theorem Part.setSensor_refused (q : SensorOrderParams) (p : Part)
    (hbad : 3 < q.link.toNat ∨ 1 < q.enable.toNat ∨ 15 < q.expectedId.toNat ∨ 2 < q.policy.toNat) :
    p.setSensor q = (.failed .badParameter, p) := by
  unfold Part.setSensor
  split
  · rename_i i enable policy hi he hp
    split
    · rfl
    · rename_i hid
      rcases hbad with h | h | h | h
      · simp [indexOf_eq_none h] at hi
      · simp [flagOf_eq_none h] at he
      · exact absurd h hid
      · simp [policyOf_eq_none h] at hp
  · rfl

/-- A SET_SENSOR in range changes the link's settings and writes the conditioning values (R16, R18, R45). -/
theorem Part.setSensor_accepted (q : SensorOrderParams) (p : Part) (i : LinkIx) (hi : q.link.toNat = i.val)
    (hok : ¬ (3 < q.link.toNat ∨ 1 < q.enable.toNat ∨ 15 < q.expectedId.toNat ∨ 2 < q.policy.toNat)) :
    p.setSensor q =
      (.adjustedDone (decide (q.quietMs.toNat ≠ max 1 (min 255 q.quietMs.toNat) ∨
          q.keepLimit.toNat ≠ max 1 (min 255 q.keepLimit.toNat))),
        (p.applyLinkSettings i (decide (q.enable = 1)) q.expectedId.toNat (max 1 (min 255 q.quietMs.toNat))).writeParameter i
          ⟨q.fluxFloor, q.weight, if q.policy = 0 then .keep else if q.policy = 1 then .zero else .require,
            max 1 (min 255 q.keepLimit.toNat)⟩) := by
  obtain ⟨-, he, hid, hp⟩ : _ ∧ q.enable.toNat ≤ 1 ∧ q.expectedId.toNat ≤ 15 ∧ q.policy.toNat ≤ 2 := by
    simpa [not_or] using hok
  simp [Part.setSensor, indexOf_eq_some hi, flagOf_eq_some he, policyOf_eq_some hp, Nat.not_lt.mpr hid, outside_eq, clampTo]

/-! ## The link's settings (R15 to R18) -/

/-- The link's record with its new settings. -/
def SensorLink.withSettings (l : SensorLink) (enable : Bool) (id quietMs : Nat) : SensorLink :=
  { l with enable := enable, expectedId := id, quietMs := quietMs }

/-- The link's record after SET_SENSOR: its admission restarts where it is enabled or disabled, or changes its id (R16, R17). -/
def SensorLink.settled (l : SensorLink) (enable : Bool) (id quietMs : Nat) : SensorLink :=
  let x := l.withSettings enable id quietMs
  if enable = false then (if l.state = .off then x else x.restarted .off)
  else if l.state = .off ∨ l.expectedId ≠ id then x.restarted .acquiring
  else x

/-- A link that is set anew raises SENSOR_LINK where its state changes (R15). -/
theorem Part.LinkMoved.restartLink {p q : Part} {i : LinkIx} {l : SensorLink} (h : p.LinkMoved q i l)
    (hl : l.state = (p.links.get i).state) (st : LinkState) : p.LinkMoved (q.restartLink i st) i (l.restarted st) := by
  unfold Part.restartLink
  dsimp only
  rw [h.get]
  split
  · rename_i hst
    exact h.modLink (fun l => l.restarted st) hst.symm
  · rename_i hst
    exact h.raise hl (fun l => l.restarted st) fun e => hst e.symm

theorem Part.applyLinkSettings_moved (i : LinkIx) (enable : Bool) (id quietMs : Nat) (p : Part) :
    p.LinkMoved (p.applyLinkSettings i enable id quietMs) i ((p.links.get i).settled enable id quietMs) := by
  have hq : p.LinkMoved (p.modLink i fun x => { x with enable := enable, expectedId := id, quietMs := quietMs }) i
      ((p.links.get i).withSettings enable id quietMs) :=
    (Part.LinkMoved.refl p i).modLink (fun x => x.withSettings enable id quietMs) rfl
  have hr (st : LinkState) := hq.restartLink rfl st
  unfold Part.applyLinkSettings SensorLink.settled
  cases enable with
  | false =>
    by_cases hoff : (p.links.get i).state = .off
    · simpa [hoff] using hq
    · simpa [hoff] using hr .off
  | true =>
    by_cases hoff : (p.links.get i).state = .off
    · simpa [hoff] using hr .acquiring
    · by_cases hid : (p.links.get i).expectedId = id
      · simpa [hoff, hid] using hq
      · simpa [hoff, hid] using hr .acquiring

/-! ## The sensor-parameter shadow (R44, R45) -/

/-- The sensor-parameter shadow with one sensor's values written, a copy of the live ones unless it waits (R45). -/
def Scn.writtenParameters (c : Scn) (i : LinkIx) (x : SensorParam) : Four SensorParam := c.writableParameters.set i x

theorem Part.writeParameter_scn (i : LinkIx) (x : SensorParam) (p : Part) :
    (p.writeParameter i x).scn =
      if p.lpc.loop = .stopped then
        { p.scn with
          parShadow := p.scn.writtenParameters i x
          parLive := p.scn.writtenParameters i x
          parWaiting := false }
      else { p.scn with parShadow := p.scn.writtenParameters i x, parWaiting := true } := by
  unfold Part.writeParameter Part.parametersWait
  by_cases hl : p.lpc.loop = .stopped <;> simp only [Part.modScn_lpc, hl, if_true, if_false] <;> rfl

end Sys2Proof.Machine

namespace Sys2Proof.Proofs

open Sys2Proof.Machine

/-- Settles O11: the operands are judged, the link's settings move the link, and the shadow takes the conditioning values; the
result is written after the link's event. -/
theorem setSensorEffects : Obligations.SetSensorEffects := by
  intro s h q hready bad
  have hexec : exec (.setSensor h q) s =
      .next { s with part := Part.finishWith (s.part.orderRef h (.setSensor q)) ((orderTaken s.part h).setSensor q) } := by
    rw [exec_eq_after]
    exact congrArg (fun p => Host.Outcome.next { s with part := p }) (Part.orderCommand_ready (o := .setSensor q) hready rfl)
  constructor
  · intro hbad
    rw [Part.setSensor_refused q _ hbad] at hexec
    exact ⟨_, hexec, rfl, Part.answered_of_finished (q := orderTaken s.part h) rfl rfl rfl (Part.finish_orderFinished _ _ _)
      (Part.finish_sameBut _ _ _) (by simp [Part.sameBut_iff])⟩
  · intro i hi hok l quiet keep stored restart
    rw [Part.setSensor_accepted q _ i hi hok] at hexec
    set p := orderTaken s.part h with hp
    set m := p.applyLinkSettings i (decide (q.enable = 1)) q.expectedId.toNat quiet with hm
    set x : SensorParam := ⟨q.fluxFloor, q.weight, if q.policy = 0 then .keep else if q.policy = 1 then .zero else .require,
      keep⟩ with hx
    have hmoved : p.LinkMoved m i (l.settled (decide (q.enable = 1)) q.expectedId.toNat quiet) :=
      Part.applyLinkSettings_moved i _ _ _ p
    have hsig : p.signal .sensorLink = s.part.signal .sensorLink := Part.signal_congr _ rfl rfl rfl rfl
    have hfin := Part.finish_orderFinished (s.part.orderRef h (.setSensor q))
      (.adjustedDone (decide (q.quietMs.toNat ≠ quiet ∨ q.keepLimit.toNat ≠ keep))) (m.writeParameter i x)
    have hkeep := Part.finish_sameBut (s.part.orderRef h (.setSensor q))
      (.adjustedDone (decide (q.quietMs.toNat ≠ quiet ∨ q.keepLimit.toNat ≠ keep))) (m.writeParameter i x)
    have hsame : (m.writeParameter i x).sameBut s.part [.xu, .tlu, .issued, .links, .scn] := by
      simp [Part.sameBut_iff, hm, hp]
    refine ⟨_, l.settled (decide (q.enable = 1)) q.expectedId.toNat quiet, s.part.scn.writtenParameters i x, hexec, rfl,
      ?_, ?_, ?_, ?_, ?_, ?_, ?_, ?_, ?_, ?_, ?_, ?_⟩
    · simpa [linkBecomes, hp] using hmoved.links
    · intro ho he; simp [SensorLink.settled, SensorLink.withSettings, ho, he, stored]
    · intro ho he; simp [SensorLink.settled, SensorLink.withSettings, SensorLink.restarted, ho, he, stored, restart]
    · intro ho he; simp [SensorLink.settled, SensorLink.withSettings, SensorLink.restarted, ho, he, stored, restart]
    · intro ho he hid
      simp [SensorLink.settled, SensorLink.withSettings, SensorLink.restarted, ho, he, Ne.symm hid, stored, restart]
    · intro ho he hid
      simp [SensorLink.settled, SensorLink.withSettings, ho, he, hid, stored]
    · exact Four.get_set_self _ _ _
    · intro j hj
      rw [Scn.writtenParameters, Four.get_set_other _ _ _ _ hj, Scn.writableParameters]
      split <;> rfl
    · simp [Part.writeParameter_scn, hm, hp]
    · simp [hm, hp]
    · intro hst
      obtain ⟨htlu, hissued⟩ := hmoved.still hst
      exact Part.answered_of_finished (by simp [hm, hp]) (by simpa [hp] using htlu) (by simpa using hissued) hfin hkeep hsame
    · intro hst
      obtain ⟨htlu, hissued⟩ := hmoved.moved hst
      exact raisedOrderDone_of_finished (by decide) (by simp [hm, hp]) (by simpa [hp] using htlu)
        (by simpa [hsig] using hissued) hfin hkeep hsame

end Sys2Proof.Proofs
end

section
/-! SUPPORT. Admission (O13): the link that is searched, the slot that collects a frame, and what a joining segment and a seal cause
do to the slots. -/

namespace Sys2Proof.Machine

/-! ## Slots -/

@[simp] theorem Part.modSlot_slot (i : SlotIx) (g : AsmSlot → AsmSlot) (p : Part) : (p.modSlot i g).slot i = g (p.slot i) :=
  Part.modSlot_get i g p

theorem Part.modSlot_slot_other (i j : SlotIx) (g : AsmSlot → AsmSlot) (p : Part) (h : j ≠ i) :
    (p.modSlot i g).slot j = p.slot j := Part.modSlot_get_other i j g p h

theorem other_ne (k : SlotIx) : other k ≠ k := by
  match k with
  | 0 | 1 => decide

/-- Two slots: every slot is the one or the other. -/
theorem eq_or_eq_other (k j : SlotIx) : j = k ∨ j = other k := by
  match k, j with
  | 0, 0 | 1, 1 => exact .inl rfl
  | 0, 1 | 1, 0 => exact .inr rfl

/-- A search of the slots in index order finds the slot that fits, where no slot before it does. -/
theorem find_slot {f : SlotIx → Bool} (k : SlotIx) (hk : f k = true) (h : k = 1 → f 0 = false) :
    ([0, 1] : List SlotIx).find? f = some k := by
  match k with
  | 0 => simp [hk]
  | 1 => simp [hk, h rfl]

/-! ## The search of the links (R24) -/

/-- Admission takes the head of the link that its search finds (R24). -/
theorem Part.nextLink_eq {p : Part} {i : LinkIx} (h : admissionTakes p i) : p.nextLink = some i := by
  obtain ⟨d, h1, h4, hi, hne, hbefore⟩ := h
  have hfull : (!(p.links.get i).fifo.isEmpty) = true := by simpa using hne
  have hempty (e : Nat) (he1 : 1 ≤ e) (hed : e < d) (j : LinkIx) (hj : j.val = (p.fra.rr.val + e) % 4) :
      (!(p.links.get j).fifo.isEmpty) = false := by simpa using hbefore e j he1 hed hj
  have hplace (e : Fin 4) : (p.fra.rr + e).val = (p.fra.rr.val + e.val) % 4 := rfl
  have hd : d = 1 ∨ d = 2 ∨ d = 3 ∨ d = 4 := by omega
  unfold Part.nextLink searchOrder
  rcases hd with rfl | rfl | rfl | rfl
  · obtain rfl : i = p.fra.rr + 1 := Fin.ext hi
    simp [hfull]
  · obtain rfl : i = p.fra.rr + 2 := Fin.ext hi
    simp [hfull, hempty 1 (by omega) (by omega) _ (hplace 1)]
  · obtain rfl : i = p.fra.rr + 3 := Fin.ext hi
    simp [hfull, hempty 1 (by omega) (by omega) _ (hplace 1), hempty 2 (by omega) (by omega) _ (hplace 2)]
  · obtain rfl : i = p.fra.rr := Fin.ext (by omega)
    simp [hfull, hempty 1 (by omega) (by omega) _ (hplace 1), hempty 2 (by omega) (by omega) _ (hplace 2),
      hempty 3 (by omega) (by omega) _ (hplace 3)]

/-- With room in the work queue the head that the search finds is placed (R24). -/
theorem Part.admitSegment_eq {p : Part} {i : LinkIx} {seg : Segment} {rest : List Segment} (hroom : p.fra.queue.length < 64)
    (htakes : admissionTakes p i) (hhead : (p.links.get i).fifo = seg :: rest) :
    p.admitSegment = (p.takeHead i).placeSegment seg := by
  simp [Part.admitSegment, Nat.not_le.mpr hroom, Part.nextLink_eq htakes, hhead]

/-! ## A head that is taken (R12, R24) -/

theorem Part.takeHead_links (i : LinkIx) (p : Part) : (p.takeHead i).links = headTaken p i := rfl

theorem Part.takeHead_fra (i : LinkIx) (p : Part) : (p.takeHead i).fra = { p.fra with rr := i } := rfl

@[simp] theorem Part.takeHead_slot (i : LinkIx) (k : SlotIx) (p : Part) : (p.takeHead i).slot k = p.slot k := rfl

/-- A segment that is discarded at admission counts in one counter of its link, whose head is gone (R25, R27). -/
theorem Part.takeHead_countSensor_links (i : LinkIx) (g : SensorCounters → SensorCounters) (p : Part) :
    ((p.takeHead i).countSensor i g).links = p.links.set i { p.links.get i with
      fifo := (p.links.get i).fifo.tail
      counters := g (p.links.get i).counters } := by
  rw [show ((p.takeHead i).countSensor i g).links = (p.takeHead i).links.set i
    { (p.takeHead i).links.get i with counters := g ((p.takeHead i).links.get i).counters } from rfl]
  simp [Part.takeHead_links, headTaken, Four.set_set]

/-! ## The slot of a frame (R25, R26) -/

theorem Part.collectingSlot_eq {p : Part} {k : SlotIx} {f : Serial} (hk : (p.slot k).collecting = true)
    (hf : (p.slot k).frame = f) (ho : (p.slot (other k)).collecting = true → (p.slot (other k)).frame ≠ f) :
    p.collectingSlot f = some k := by
  refine find_slot k (by simp [hk, hf]) ?_
  rintro rfl
  have h0 : other 1 = 0 := rfl
  rw [h0] at ho
  simpa using ho

theorem Part.collectingSlot_eq_none {p : Part} {f : Serial}
    (h : ∀ k, (p.slot k).collecting = true → (p.slot k).frame ≠ f) : p.collectingSlot f = none := by
  simpa [Part.collectingSlot] using And.intro (h 0) (h 1)

/-- The frame and link conditions under which a segment opens a frame (R26). -/
def Part.mayOpen (p : Part) (seg : Segment) : Prop :=
  (∀ h, p.fra.highest = some h → newer seg.frame h = true) ∧
    (∀ k, (p.slot k).state ≠ .free → newer seg.frame (p.slot k).frame = true) ∧ (p.links.get seg.link).state = .tracking

theorem Part.mayOpen_iff (p : Part) (seg : Segment) :
    p.mayOpen seg ↔
      (p.newerThanHighest seg.frame && p.newerThanSlots seg.frame && p.tracking seg.link) = true := by
  have hh : p.newerThanHighest seg.frame = true ↔ ∀ h, p.fra.highest = some h → newer seg.frame h = true := by
    unfold Part.newerThanHighest; split <;> simp_all
  simp [Part.mayOpen, hh, Part.newerThanSlots, Part.tracking, AsmSlot.inUse, Fin.forall_fin_two, and_assoc]
  tauto

/-! ## A seal cause (R30, R32) -/

@[simp] theorem Part.markSealing_slot (k : SlotIx) (p : Part) :
    (p.markSealing k).slot k = { p.slot k with sealing := true } := Part.modSlot_slot _ _ _

theorem Part.markSealing_slot_other (k j : SlotIx) (p : Part) (h : j ≠ k) : (p.markSealing k).slot j = p.slot j :=
  Part.modSlot_slot_other _ _ _ _ h

/-- A seal cause sets the slot's mark (R32). -/
@[simp] theorem Part.sealCause_slot (k : SlotIx) (p : Part) :
    (p.sealCause k).slot k = { p.slot k with sealing := true } := by
  unfold Part.sealCause
  split
  · rw [Part.markSealing_slot, Part.markSealing_slot_other _ _ _ (other_ne k).symm]
  · rw [Part.markSealing_slot]

/-- A seal cause first marks the other slot, where that is older and still collects (R32). -/
theorem Part.sealCause_slot_other (k : SlotIx) (p : Part) :
    (p.sealCause k).slot (other k) = { p.slot (other k) with
      sealing := (p.slot (other k)).sealing ||
        ((p.slot (other k)).collecting && newer (p.slot k).frame (p.slot (other k)).frame) } := by
  unfold Part.sealCause Part.isNewer
  split
  · rename_i h
    rw [Part.markSealing_slot_other _ _ _ (other_ne k), Part.markSealing_slot, h, Bool.or_true]
  · rename_i h
    rw [Part.markSealing_slot_other _ _ _ (other_ne k), (Bool.not_eq_true _).mp h, Bool.or_false]

/-- A seal cause touches nothing of the frame assembler but the slots. -/
theorem Part.sealCause_fra (k : SlotIx) (p : Part) : (p.sealCause k).fra = { p.fra with slots := (p.sealCause k).fra.slots } := by
  unfold Part.sealCause; split <;> rfl

/-- Completeness rests on the present set, the received set and the geometry (R30). -/
theorem Part.slotComplete_congr {p q : Part} {k : SlotIx} (hg : q.geo = p.geo) (hp : (q.slot k).present = (p.slot k).present)
    (hr : (q.slot k).received = (p.slot k).received) : q.slotComplete k = p.slotComplete k := by
  simp [Part.slotComplete, AsmSlot.sensorWhole, hg, hp, hr]

/-! ## A segment that joins (R25, R30) -/

@[simp] theorem Part.enqueue_slot (k : SlotIx) (seg : Segment) (p : Part) :
    (p.enqueue k seg).slot k = { p.slot k with
      received := (p.slot k).received.set seg.link ((p.slot k).received.get seg.link ++ [seg.index]) } :=
  Part.modSlot_slot k (fun x => { x with received := x.received.set seg.link (x.received.get seg.link ++ [seg.index]) }) p

@[simp] theorem Part.enqueue_slot_other (k : SlotIx) (seg : Segment) (p : Part) :
    (p.enqueue k seg).slot (other k) = p.slot (other k) :=
  Part.modSlot_slot_other k (other k)
    (fun x => { x with received := x.received.set seg.link (x.received.get seg.link ++ [seg.index]) }) p (other_ne k)

/-- What a joined segment leaves of the frame assembler, by the completeness of its slot. -/
theorem Part.join_fra (k : SlotIx) (seg : Segment) (p : Part) :
    let x := { p.slot k with received := (p.slot k).received.set seg.link ((p.slot k).received.get seg.link ++ [seg.index]) }
    let t := (p.enqueue k seg).judgeComplete k
    t.fra = { p.fra with queue := p.fra.queue ++ [⟨k, seg⟩], slots := t.fra.slots } ∧
    (t.slotComplete k = false → t.fra.slots = p.fra.slots.set k x) ∧
    t.slot k = { x with sealing := x.sealing || t.slotComplete k } ∧
    t.slot (other k) = { p.slot (other k) with
      sealing := (p.slot (other k)).sealing || (t.slotComplete k && (p.slot (other k)).collecting &&
        newer (p.slot k).frame (p.slot (other k)).frame) } := by
  intro x t
  by_cases hc : (p.enqueue k seg).slotComplete k = true
  · have ht : t = (p.enqueue k seg).sealCause k := if_pos hc
    have htc : t.slotComplete k = true := (Part.slotComplete_congr (by simp [ht]) (by simp [ht]) (by simp [ht])).trans hc
    refine ⟨?_, by simp [htc], ?_, ?_⟩
    · rw [ht, Part.sealCause_fra]; rfl
    · rw [htc, ht, Part.sealCause_slot]; simp [x]
    · rw [htc, ht, Part.sealCause_slot_other]; simp
  · have ht : t = p.enqueue k seg := if_neg hc
    have htc : t.slotComplete k = false := by rw [ht]; simpa using hc
    refine ⟨by rw [ht]; rfl, fun _ => by rw [ht]; rfl, ?_, ?_⟩
    · rw [htc, ht]; simp [x]
    · rw [htc, ht]; simp

end Sys2Proof.Machine

namespace Sys2Proof.Proofs

open Sys2Proof.Machine

/-- A collecting slot's segment, by what the slot has of its sensor (O13's first part). -/
theorem admittedToASlot_holds : admittedToASlot := by
  intro s i k seg rest hroom htakes hhead hlink hcollects hframe hother x o l c
  obtain rfl : seg.link = i := hlink
  have hexec : exec .admitSegment s = .next { s with part := (s.part.takeHead seg.link).admitTo k seg } := by
    have hc : (s.part.takeHead seg.link).collectingSlot seg.frame = some k := Part.collectingSlot_eq hcollects hframe hother
    simp [exec_eq_after, Part.after, Part.admitSegment_eq hroom htakes hhead, Part.placeSegment, hc]
  refine ⟨_, hexec, rfl, fun hp => ?_, fun hp hr => ?_, fun hp hr => ?_⟩
  · have ha : (s.part.takeHead seg.link).admitTo k seg = (s.part.takeHead seg.link).countLate seg.link := by
      simp [Part.admitTo, show (s.part.slot k).present.get seg.link = false from hp]
    simp only [ha]
    refine ⟨?_, by simp [Part.takeHead_fra], by simp [Part.sameBut_iff]⟩
    simp [Part.countLate, Part.takeHead_countSensor_links, l, c, hhead]
  · have ha : (s.part.takeHead seg.link).admitTo k seg = (s.part.takeHead seg.link).countDuplicate seg.link := by
      simp [Part.admitTo, show (s.part.slot k).present.get seg.link = true from hp,
        show seg.index ∈ (s.part.slot k).received.get seg.link from hr]
    simp only [ha]
    refine ⟨?_, by simp [Part.takeHead_fra], by simp [Part.sameBut_iff]⟩
    simp [Part.countDuplicate, Part.takeHead_countSensor_links, l, c, hhead]
  · have ha : (s.part.takeHead seg.link).admitTo k seg = ((s.part.takeHead seg.link).enqueue k seg).judgeComplete k := by
      simp [Part.admitTo, show (s.part.slot k).present.get seg.link = true from hp,
        show seg.index ∉ (s.part.slot k).received.get seg.link from hr]
    obtain ⟨hfra, hslots, hk, ho⟩ := Part.join_fra k seg (s.part.takeHead seg.link)
    rw [ha] at *
    set t := ((s.part.takeHead seg.link).enqueue k seg).judgeComplete k with ht
    refine ⟨by simp [ht, Part.takeHead_links], by simp [Part.sameBut_iff, ht], ?_, ?_, ?_, fun hc => ?_, fun hc => ?_⟩
    · rw [hfra]; rfl
    · rw [hfra]; rfl
    · rw [hk]; rfl
    · rw [hfra, hslots hc]; rfl
    · have hother' : t.slot (other k) = { o with
          sealing := o.sealing || (o.collecting && newer x.frame o.frame) } := by
        rw [ho, hc, Bool.true_and]; rfl
      refine ⟨by rw [hfra]; rfl, by rw [hk, hc]; simp [x], fun h => ?_, fun h => ?_⟩
      · rw [hother', h.1, h.2, Bool.and_true, Bool.or_true]
      · rw [hother', show (o.collecting && newer x.frame o.frame) = false by simpa using h, Bool.or_false]

/-- A segment that opens no frame, by the condition that fails (O13's second part). -/
theorem opensNoFrame_holds : opensNoFrame := by
  intro s i seg rest hroom htakes hhead hlink hnone opens l c
  obtain rfl : seg.link = i := hlink
  have hexec : exec .admitSegment s = .next { s with part := (s.part.takeHead seg.link).admitNew seg } := by
    have hc : (s.part.takeHead seg.link).collectingSlot seg.frame = none := Part.collectingSlot_eq_none hnone
    simp [exec_eq_after, Part.after, Part.admitSegment_eq hroom htakes hhead, Part.placeSegment, hc]
  have hopens : (s.part.takeHead seg.link).mayOpen seg ↔ opens := by
    simp [Part.mayOpen, Part.takeHead_fra, Part.takeHead_links, headTaken, opens]
  rw [Part.mayOpen_iff] at hopens
  constructor
  · intro hno
    have ha : (s.part.takeHead seg.link).admitNew seg = (s.part.takeHead seg.link).countLate seg.link := by
      unfold Part.admitNew
      rw [if_neg fun h => hno (hopens.mp h)]
    refine ⟨_, hexec, rfl, ?_⟩
    simp only [ha]
    refine ⟨?_, by simp [Part.takeHead_fra], by simp [Part.sameBut_iff]⟩
    simp [Part.countLate, Part.takeHead_countSensor_links, l, c, hhead]
  · intro hyes hfull
    have ha : (s.part.takeHead seg.link).admitNew seg = (s.part.takeHead seg.link).countNoSlot seg.link := by
      have hf : (s.part.takeHead seg.link).freeSlot = none := by simp [Part.freeSlot, AsmSlot.inUse, hfull]
      unfold Part.admitNew
      rw [if_pos (hopens.mpr hyes), hf]
    refine ⟨_, hexec, rfl, ?_⟩
    simp only [ha]
    refine ⟨?_, by simp [Part.takeHead_fra], by simp [Part.sameBut_iff]⟩
    simp [Part.countNoSlot, Part.takeHead_countSensor_links, l, c, hhead]

/-- Settles O13: a segment of a collecting slot's frame, and one that opens no frame. -/
theorem admissionWithoutANewFrame : Obligations.AdmissionWithoutANewFrame := ⟨admittedToASlot_holds, opensNoFrame_holds⟩

end Sys2Proof.Proofs
end

section
/-! SUPPORT. Frame opens (O14): the commits and the swap that an opening makes, and the slot that opens. -/

namespace Sys2Proof.Machine

theorem Part.sameBut.mono {q p : Part} {l l' : List Block} (h : q.sameBut p l) (hl : ∀ b ∈ l, b ∈ l') : q.sameBut p l' :=
  fun b hb => h b fun hm => hb (hl b hm)

/-! ## Commits and swaps at an opening (R28, R29, R44, R83) -/

/-- Marks that are clear may be cleared. -/
theorem Scn.eq_clear_marks {c : Scn} (hr : c.refWaiting = false) (hp : c.parWaiting = false) :
    c = { c with refWaiting := false, parWaiting := false } := by
  cases c; simp_all

/-- Every waiting slope-side shadow becomes live (R28, R44). -/
theorem Part.commitSlopeSide_scn (p : Part) :
    p.commitSlopeSide.scn = { p.scn with
      refLive := if p.scn.refWaiting then p.scn.refShadow else p.scn.refLive
      refWaiting := false
      parLive := if p.scn.parWaiting then p.scn.parShadow else p.scn.parLive
      parWaiting := false } := by
  cases hr : p.scn.refWaiting <;> cases hp : p.scn.parWaiting <;>
    simp [Part.commitSlopeSide, Part.commitReference, Part.commitParameters, hr, hp]
  exact Scn.eq_clear_marks hr hp

theorem Part.makeActive_mxs (b : BankIx) (p : Part) :
    (p.makeActive b).mxs = { p.mxs with banks := (p.makeActive b).mxs.banks } := rfl

@[simp] theorem Part.makeActive_fra (b : BankIx) (p : Part) :
    (p.makeActive b).fra = { p.fra with freshBank := true } := rfl

/-- A swap makes its target ACTIVE, and an ACTIVE other bank READY (R82, R83). -/
theorem Part.makeActive_banks (b : BankIx) (p : Part) :
    (p.makeActive b).mxs.banks.get b = { p.mxs.banks.get b with state := .active } ∧
      (p.makeActive b).mxs.banks.get (other b) = { p.mxs.banks.get (other b) with
        state := if (p.mxs.banks.get (other b)).state = .active then .ready else (p.mxs.banks.get (other b)).state } := by
  have hb : (p.makeActive b).mxs.banks = (p.mxs.banks.set (other b) (p.mxs.banks.get (other b)).retired).set b
      { (p.mxs.banks.set (other b) (p.mxs.banks.get (other b)).retired).get b with state := .active } := rfl
  constructor
  · rw [hb, Two.get_set_self, Two.get_set_other _ _ _ _ (other_ne b).symm]
  · rw [hb, Two.get_set_other _ _ _ _ (other_ne b), Two.get_set_self, BankRecord.retired]
    split <;> rfl

/-- After a swap its target is the ACTIVE bank. -/
theorem Part.makeActive_activeBank (b : BankIx) (p : Part) : (p.makeActive b).mxs.activeBank = some b := by
  obtain ⟨hb, ho⟩ := p.makeActive_banks b
  match b with
  | 0 =>
    have h0 : (p.makeActive 0).mxs.banks.t0.state = .active := congrArg BankRecord.state hb
    simp [Mxs.activeBank, h0]
  | 1 =>
    have h1 : (p.makeActive 1).mxs.banks.t1.state = .active := congrArg BankRecord.state hb
    have h0 : (p.makeActive 1).mxs.banks.t0.state ≠ .active := by
      rw [show (p.makeActive 1).mxs.banks.t0.state = _ from congrArg BankRecord.state ho]
      dsimp only
      split <;> simp_all
    simp [Mxs.activeBank, h0, h1]

/-- A swap that takes effect finishes its order, with nothing else in the TLU and in what is issued (R83). -/
theorem Part.swapAtOpen_some {p : Part} {w : PendingSwap} (hw : p.mxs.pendingSwap = some w) :
    p.swapAtOpen = (p.dropSwap.makeActive w.target).finish w.order .done := by
  simp [Part.swapAtOpen, hw]

theorem Part.swapAtOpen_none {p : Part} (hw : p.mxs.pendingSwap = none) : p.swapAtOpen = p := by
  simp [Part.swapAtOpen, hw]

/-- The swap that an opening of slot k brings into effect: beside an ASSEMBLING slot none (R28, R29). -/
def Part.swapOf (p : Part) (k : SlotIx) : Option PendingSwap :=
  if (p.slot (other k)).state ≠ .assembling then p.mxs.pendingSwap else none

/-- A finished order is the same from a part that agrees in the TLU, in what is issued and in the exchange unit. -/
theorem orderFinished_congr {p q t : Part} {h : OrderHead} {r : OrderResult} (htlu : q.tlu = p.tlu)
    (hissued : q.issued = p.issued) (hxu : q.xu = p.xu) (hf : orderFinished q t h r) : orderFinished p t h r := by
  obtain ⟨h1, h2⟩ := hf
  have hs : q.signal .orderFinished = p.signal .orderFinished :=
    Part.signal_congr _ (by rw [htlu]) (by rw [htlu]) (by rw [hxu]) (by rw [hxu])
  have hw : resultWrites q h r = resultWrites p h r := resultWrites_congr h r (by rw [hxu]) (by rw [hxu]) (by rw [htlu])
  exact ⟨by rw [h1, htlu], by rw [h2, hissued, hs, hw]⟩

/-- The commits of an opening, in the conditioner. -/
theorem Part.openCommits_scn (k : SlotIx) (p : Part) :
    (p.openCommits k).scn = { p.scn with
      refLive := if (p.slot (other k)).state ≠ .assembling ∧ p.scn.refWaiting = true then p.scn.refShadow else p.scn.refLive
      refWaiting := decide (p.scn.refWaiting = true ∧ ¬ (p.slot (other k)).state ≠ .assembling)
      parLive := if (p.slot (other k)).state ≠ .assembling ∧ p.scn.parWaiting = true then p.scn.parShadow else p.scn.parLive
      parWaiting := decide (p.scn.parWaiting = true ∧ ¬ (p.slot (other k)).state ≠ .assembling) } := by
  unfold Part.openCommits
  by_cases ha : (p.slot (other k)).state = .assembling
  · simp [ha]
  · simp [ha, Part.commitSlopeSide_scn]

/-- An opening without a swap touches the conditioner's tables alone. -/
theorem Part.openCommits_of_no_swap {k : SlotIx} {p : Part} (hw : p.swapOf k = none) :
    (p.openCommits k).sameBut p [.scn] := by
  unfold Part.openCommits
  split
  · simp [Part.sameBut_iff]
  · rename_i ha
    have hn : p.commitSlopeSide.mxs.pendingSwap = none := by simpa [Part.swapOf, ha] using hw
    rw [Part.swapAtOpen_none hn]
    simp [Part.sameBut_iff]

/-- An opening with a swap commits, and then finishes the swap. -/
theorem Part.openCommits_of_swap {k : SlotIx} {p : Part} {w : PendingSwap} (hw : p.swapOf k = some w) :
    p.openCommits k = (p.commitSlopeSide.dropSwap.makeActive w.target).finish w.order .done := by
  have ha : (p.slot (other k)).state ≠ .assembling := by intro h; simp [Part.swapOf, h] at hw
  have hs : p.commitSlopeSide.mxs.pendingSwap = some w := by simpa [Part.swapOf, ha] using hw
  rw [Part.openCommits, if_neg ha, Part.swapAtOpen_some hs]

/-- What an opening with a swap does outside the conditioner (R29, R83). -/
theorem Part.openCommits_swapped {k : SlotIx} {p : Part} {w : PendingSwap} (hw : p.swapOf k = some w) :
    let q := p.openCommits k
    q.fra = { p.fra with freshBank := true } ∧ q.mxs.activeBank = some w.target ∧
    q.mxs.banks.get w.target = { p.mxs.banks.get w.target with state := .active } ∧
    q.mxs.banks.get (other w.target) = { p.mxs.banks.get (other w.target) with
      state := if (p.mxs.banks.get (other w.target)).state = .active then .ready
        else (p.mxs.banks.get (other w.target)).state } ∧
    q.mxs = { p.mxs with pendingSwap := none, banks := q.mxs.banks } ∧
    orderFinished p q (headOf w.order) .done ∧ q.sameBut p [.fra, .scn, .mxs, .tlu, .issued] := by
  intro q
  have hq : q = (p.commitSlopeSide.dropSwap.makeActive w.target).finish w.order .done := Part.openCommits_of_swap hw
  have hmxs : q.mxs = (p.commitSlopeSide.dropSwap.makeActive w.target).mxs := by rw [hq]; simp
  have hdrop : p.commitSlopeSide.dropSwap.mxs = { p.mxs with pendingSwap := none } := by simp [Part.dropSwap]
  obtain ⟨hb, ho⟩ := p.commitSlopeSide.dropSwap.makeActive_banks w.target
  rw [hdrop] at hb ho
  refine ⟨by rw [hq]; simp, ?_, ?_, ?_, ?_, ?_, ?_⟩
  · rw [hmxs, Part.makeActive_activeBank]
  · rw [hmxs, hb]
  · rw [hmxs, ho]
  · rw [hmxs, Part.makeActive_mxs, hdrop]
  · rw [hq]
    exact orderFinished_congr (by simp) (by simp) (by simp) (Part.finish_orderFinished _ _ _)
  · rw [hq]; simp [Part.sameBut_iff]

/-! ## The slot that opens (R26) -/

/-- The swap of an opening sets the fresh-bank mark; nothing else of the frame assembler changes before the slot opens (R29). -/
theorem Part.openCommits_fra (k : SlotIx) (p : Part) :
    (p.openCommits k).fra = { p.fra with freshBank := p.fra.freshBank || (p.swapOf k).isSome } := by
  cases hw : p.swapOf k with
  | none => rw [show (p.openCommits k).fra = p.fra from Part.openCommits_of_no_swap hw .fra (by decide)]; simp
  | some w => rw [(Part.openCommits_swapped hw).1]; simp

@[simp] theorem Part.openCommits_slot (k j : SlotIx) (p : Part) : (p.openCommits k).slot j = p.slot j := by
  rw [Part.slot, Part.openCommits_fra]; rfl

/-- An opening takes no time. -/
@[simp] theorem Part.openCommits_now (k : SlotIx) (p : Part) : (p.openCommits k).now = p.now := by
  cases hw : p.swapOf k with
  | none => rw [Part.now, show (p.openCommits k).tlu = p.tlu from Part.openCommits_of_no_swap hw .tlu (by decide)]; rfl
  | some w =>
    obtain ⟨-, -, -, -, -, ⟨htlu, -⟩, -⟩ := Part.openCommits_swapped hw
    rw [Part.now, htlu]; rfl

/-- The bank that is ACTIVE after a swap, if there is one, where bank b was before it (R83). -/
def bankAfter (b : BankIx) : Option PendingSwap → BankIx
  | some w => w.target
  | none => b

/-- The slot records the bank that is ACTIVE after the swap (R26, R29). -/
theorem Part.openCommits_openingBank {k : SlotIx} {p : Part} {b : BankIx} (hb : p.mxs.activeBank = some b) :
    (p.openCommits k).openingBank = bankAfter b (p.swapOf k) := by
  cases hw : p.swapOf k with
  | none =>
    rw [Part.openingBank, show (p.openCommits k).mxs = p.mxs from Part.openCommits_of_no_swap hw .mxs (by decide), hb]
    rfl
  | some w => rw [Part.openingBank, (Part.openCommits_swapped hw).2.1]; rfl

/-- The frame assembler after an opening. -/
theorem Part.openFrame_fra (k : SlotIx) (f : Serial) (p : Part) :
    (p.openFrame k f).fra = { (p.openCommits k).fra with
      slots := (p.openCommits k).fra.slots.set k ((p.openCommits k).openedSlot f)
      highest := some f
      freshBank := false } := rfl

/-- The slot's record, accumulators and residual record are reset at an opening (R50, R61). -/
theorem Part.openFrame_resets (k : SlotIx) (f : Serial) (p : Part) :
    (p.openFrame k f).scn = { (p.openCommits k).scn with records := (p.openCommits k).scn.records.set k .cleared } ∧
      (p.openFrame k f).rca = { p.rca with
        acc := p.rca.acc.set k []
        residual := p.rca.residual.set k { p.rca.residual.get k with valid := false } } := by
  simp [Part.openFrame, Part.clearAccumulators, Part.modRca, Part.modRecord, Part.modScn, Part.modFra, Part.modSlot]

/-- Beside these an opening is its commits. -/
theorem Part.openFrame_sameBut (k : SlotIx) (f : Serial) (p : Part) :
    (p.openFrame k f).sameBut (p.openCommits k) [.fra, .scn, .rca] := by
  simp [Part.sameBut_iff, Part.openFrame]

@[simp] theorem Part.openFrame_slot (k : SlotIx) (f : Serial) (p : Part) :
    (p.openFrame k f).slot k = (p.openCommits k).openedSlot f := by
  rw [Part.slot, Part.openFrame_fra, Two.get_set_self]

@[simp] theorem Part.openFrame_slot_other (k : SlotIx) (f : Serial) (p : Part) :
    (p.openFrame k f).slot (other k) = p.slot (other k) := by
  rw [Part.slot, Part.openFrame_fra, Two.get_set_other _ _ _ _ (other_ne k)]
  exact Part.openCommits_slot k (other k) p

theorem Four.get_make {α : Type} (f : Fin 4 → α) (i : Fin 4) : (Four.make f).get i = f i := by
  match i with
  | 0 | 1 | 2 | 3 => rfl

/-- What the slot of an opening records (R26, R29). -/
theorem Part.openCommits_openedSlot {k : SlotIx} {f : Serial} {b : BankIx} {p : Part} (hb : p.mxs.activeBank = some b) :
    (p.openCommits k).openedSlot f = { AsmSlot.cleared with
      state := .assembling
      frame := f
      openTime := p.tlu.timebase
      deadline := p.tlu.timebase + BitVec.ofNat 64 p.fra.windowUs
      bank := bankAfter b (p.swapOf k)
      swapFrame := decide (p.fra.freshBank = true ∨ (p.swapOf k).isSome = true)
      present := p.presentNow } := by
  have hnow : p.now = p.tlu.timebase := rfl
  simp [Part.openedSlot, Part.openCommits_openingBank hb, Part.openCommits_fra, Part.presentNow, Part.tracking, later, hnow,
    Bool.decide_or]

/-- The head's going moves no link, so that the same sensors are present (R14). -/
theorem Part.takeHead_presentNow (i : LinkIx) (p : Part) : (p.takeHead i).presentNow = p.presentNow := by
  have hstate (j : LinkIx) : ((p.takeHead i).links.get j).state = (p.links.get j).state := by
    rw [Part.takeHead_links, headTaken]
    by_cases hj : j = i
    · rw [hj, Four.get_set_self]
    · rw [Four.get_set_other _ _ _ _ hj]
  simp [Part.presentNow, Part.tracking, hstate]

/-- The sensors that are present: the TRACKING links with subapertures (R14). -/
theorem Part.presentNow_eq (p : Part) :
    p.presentNow = Four.make fun j => decide ((p.links.get j).state = .tracking ∧ 0 < p.geo.n.get j) := by
  simp [Part.presentNow, Part.tracking, Bool.decide_and]

/-- The mark of a slot x beside one that opens for a newer frame f: a frame complete at once seals it where it still collects (R32). -/
theorem AsmSlot.sealing_beside (x : AsmSlot) {f : Serial} (complete : Bool)
    (hnewer : x.state = .assembling → newer f x.frame = true) :
    (x.sealing || (complete && x.collecting && newer f x.frame)) =
      decide (x.sealing = true ∨ (complete = true ∧ x.state = .assembling)) := by
  by_cases ha : x.state = .assembling
  · simp only [AsmSlot.collecting, ha, hnewer ha]
    cases x.sealing <;> simp
  · simp [AsmSlot.collecting, ha]

/-- A segment that meets the conditions of R26 is admitted to the slot that it opens (R25, R26). -/
theorem Part.admitNew_opens {k : SlotIx} {seg : Segment} {p : Part} (hopen : p.mayOpen seg) (hfirst : p.freeSlot = some k)
    (hsub : 0 < p.geo.n.get seg.link) :
    p.admitNew seg = ((p.openFrame k seg.frame).enqueue k seg).judgeComplete k := by
  have hpresent : ((p.openFrame k seg.frame).slot k).present.get seg.link = true := by
    simp [Part.openedSlot, Part.presentNow, Part.tracking, Four.get_make, hopen.2.2, hsub]
  have hreceived : ((p.openFrame k seg.frame).slot k).received.get seg.link = [] := by
    simp [Part.openedSlot, AsmSlot.cleared]
  rw [Part.admitNew, if_pos ((Part.mayOpen_iff _ _).mp hopen), hfirst]
  dsimp only
  rw [Part.admitTo, hpresent, hreceived]
  rfl

end Sys2Proof.Machine

namespace Sys2Proof.Proofs

open Sys2Proof.Machine

/-- Settles O14: the opening's commits and swap come first, then the slot opens, and the segment joins it. -/
theorem admissionOpensAFrame : Obligations.AdmissionOpensAFrame := by
  intro s i k b seg rest hroom htakes hhead hlink hnone hhigh hslots htrack hsub hfree hlow hbank p x commits swap
  obtain rfl : seg.link = i := hlink
  set m := p.takeHead seg.link with hm
  have hmslot (j : SlotIx) : m.slot j = p.slot j := rfl
  have hswap : m.swapOf k = swap := by simp [Part.swapOf, hm, swap, commits, x, p]
  have hopen : m.mayOpen seg := ⟨hhigh, hslots, by simpa [hm, Part.takeHead_links, headTaken] using htrack⟩
  have hfirst : m.freeSlot = some k := find_slot k (by simp [AsmSlot.inUse, hmslot, p, hfree]) fun h => by
    simpa [AsmSlot.inUse, hmslot] using hlow h
  set q := m.openFrame k seg.frame with hq
  have hexec : exec .admitSegment s = .next { s with part := (q.enqueue k seg).judgeComplete k } := by
    have hc : m.collectingSlot seg.frame = none := Part.collectingSlot_eq_none hnone
    have hplace : m.placeSegment seg = m.admitNew seg := by rw [Part.placeSegment, hc]
    rw [exec_eq_after, Part.after, Part.admitSegment_eq hroom htakes hhead, hplace, Part.admitNew_opens hopen hfirst hsub]
  obtain ⟨hfra, -, hk, ho⟩ := Part.join_fra k seg q
  obtain ⟨hscn, hrca⟩ := Part.openFrame_resets k seg.frame m
  have hsame : q.sameBut (m.openCommits k) [.fra, .scn, .rca] := Part.openFrame_sameBut k seg.frame m
  set t := (q.enqueue k seg).judgeComplete k with ht
  have hopened : q.slot k = { AsmSlot.cleared with
      state := .assembling
      frame := seg.frame
      openTime := p.tlu.timebase
      deadline := p.tlu.timebase + BitVec.ofNat 64 p.fra.windowUs
      bank := bankAfter b swap
      swapFrame := decide (p.fra.freshBank = true ∨ swap.isSome = true)
      present := m.presentNow } := by
    rw [Part.openFrame_slot, Part.openCommits_openedSlot (b := b) (by simpa [hm] using hbank), hswap]
    simp [hm, Part.takeHead_fra]
  have hpresent : m.presentNow = Four.make fun j => decide ((p.links.get j).state = .tracking ∧ 0 < p.geo.n.get j) := by
    rw [hm, Part.takeHead_presentNow, Part.presentNow_eq]
  have htm : t.sameBut (m.openCommits k) [.fra, .scn, .rca] :=
    Part.sameBut.trans (l := [.fra]) (by simp [Part.sameBut_iff, ht]) hsame (by simp)
  have hmp : m.sameBut p [.links, .fra] := by simp [Part.sameBut_iff, hm]
  have htscn : t.scn = q.scn := by simp [ht]
  have htrca : t.rca = q.rca := by simp [ht]
  have hscn' : m.scn = p.scn := by simp [hm]
  refine ⟨_, hexec, rfl, ?_, ?_, ?_, ?_, ?_, ?_, ?_, ?_⟩
  · simp [ht, hq, hm, Part.takeHead_links, p]
  · show t.slot k = _
    rw [hk, hopened, hpresent]
    simp [AsmSlot.cleared]
    rfl
  · show t.slot (other k) = _
    have hnewer (ha : x.state = .assembling) : newer seg.frame x.frame = true :=
      hslots (other k) (by rw [show (s.part.slot (other k)).state = .assembling from ha]; decide)
    rw [ho, hopened, Part.openFrame_slot_other, show m.slot (other k) = x from rfl]
    exact congrArg (fun b => { x with sealing := b }) (AsmSlot.sealing_beside x _ hnewer)
  · show t.fra = _
    rw [hfra, Part.openFrame_fra, Part.openCommits_fra]
    rfl
  · show t.scn = _
    rw [htscn, hscn, Part.openCommits_scn, hscn']
    rfl
  · show t.rca = _
    rw [htrca, hrca]
    simp [hm, p]
  · intro hno
    have hcommits := Part.openCommits_of_no_swap (hswap.trans hno)
    exact htm.trans (hcommits.trans (hmp.mono (l' := [.links, .fra, .scn, .rca]) (by simp)) (by simp)) (by simp)
  · intro w hw
    obtain ⟨-, -, hactive, hretired, hmxs, hfin, hsameq⟩ := Part.openCommits_swapped (hswap.trans hw)
    have htmxs : t.mxs = (m.openCommits k).mxs := htm .mxs (by decide)
    have hmmxs : m.mxs = p.mxs := by simp [hm]
    rw [hmmxs] at hactive hretired hmxs
    refine ⟨?_, ?_, ?_, ?_, ?_⟩
    · show t.mxs.banks.get w.target = _
      rw [htmxs, hactive]
    · show t.mxs.banks.get (other w.target) = _
      rw [htmxs, hretired]
    · show t.mxs = { p.mxs with pendingSwap := none, banks := t.mxs.banks }
      rw [htmxs, hmxs]
    · obtain ⟨htlu, hissued⟩ := orderFinished_congr (p := p) (by simp [hm]) (by simp [hm]) (by simp [hm]) hfin
      exact ⟨(htm .tlu (by decide)).trans htlu, (htm .issued (by decide)).trans hissued⟩
    · exact (htm.mono (l' := [.fra, .scn, .rca, .mxs, .tlu, .issued]) (by simp)).trans
        ((hsameq.mono (l' := [.links, .fra, .scn, .rca, .mxs, .tlu, .issued]) (by simp)).trans
          (hmp.mono (by simp)) (by simp)) (by simp)

end Sys2Proof.Proofs
end

section
/-! SUPPORT. LOOP_STOP (O29): what the discard of slots does to the blocks, and how the discarded frames' records are handled. -/

namespace Sys2Proof.Machine

/-! ## The discard of slots (R41, R57, R71) -/

/-- A burst after the discard of the slots of D: its data is not added when it arrives (R71). -/
def Burst.dropSlots (D : SlotIx → Bool) : Burst → Burst
  | .stream slot slope value bank first count dropped => .stream slot slope value bank first count (dropped || D slot)
  | .loader offset data live => .loader offset data live
  | .reader offset count dropped => .reader offset count dropped

/-- A slot, FREE where it is discarded (R41). -/
def AsmSlot.freed (x : AsmSlot) (gone : Bool) : AsmSlot :=
  if gone then { x with state := .free, sealing := false } else x

/-- The part t is p after the discard of the slots of D, in all blocks that do not handle records. -/
structure Part.Discards (D : SlotIx → Bool) (p t : Part) : Prop where
  slot : ∀ k, t.slot k = (p.slot k).freed (D k)
  fra : t.fra = { p.fra with slots := t.fra.slots, queue := p.fra.queue.filter fun e => !D e.slot }
  acc : ∀ k, t.rca.acc.get k = if D k then [] else p.rca.acc.get k
  residual : ∀ k, t.rca.residual.get k = if D k then { p.rca.residual.get k with valid := false } else p.rca.residual.get k
  stream : t.rca.stream = p.rca.stream.filter fun e => !D e.slot
  extracting : t.rca.extracting = p.rca.extracting.filter fun k => !D k
  scn : t.scn = { p.scn with
    job := p.scn.job.filter fun j => !D j.slot
    substDue := p.scn.substDue.filter fun k => !D k }
  mxs : t.mxs = { p.mxs with bursts := p.mxs.bursts.map (Burst.dropSlots D) }
  rest : t.sameBut p [.fra, .rca, .scn, .mxs, .tel, .tlu, .issued]

/-- A discard of no slot. -/
theorem Part.Discards.refl (p : Part) : p.Discards (fun _ => false) p := by
  have hdrop : Burst.dropSlots (fun _ => false) = id := by
    funext b; cases b <;> simp [Burst.dropSlots]
  have hall {α : Type} (o : Option α) : o.filter (fun _ => true) = o := by cases o <;> rfl
  constructor <;> simp [AsmSlot.freed, hdrop, hall, Part.sameBut_iff]

/-- A discard of some slots and then of others is a discard of both. -/
theorem Part.Discards.trans {D E : SlotIx → Bool} {p q t : Part} (h : p.Discards D q) (g : q.Discards E t) :
    p.Discards (fun k => D k || E k) t where
  slot k := by rw [g.slot, h.slot]; cases D k <;> cases E k <;> rfl
  fra := by rw [g.fra, h.fra]; simp [List.filter_filter, Bool.and_comm]
  acc k := by rw [g.acc, h.acc]; cases D k <;> cases E k <;> rfl
  residual k := by rw [g.residual, h.residual]; cases D k <;> cases E k <;> rfl
  stream := by rw [g.stream, h.stream]; simp [List.filter_filter, Bool.and_comm]
  extracting := by rw [g.extracting, h.extracting]; simp
  scn := by rw [g.scn, h.scn]; simp
  mxs := by
    have hdrop : Burst.dropSlots E ∘ Burst.dropSlots D = Burst.dropSlots fun k => D k || E k := by
      funext b; cases b <;> simp [Burst.dropSlots, Bool.or_assoc]
    rw [g.mxs, h.mxs]; simp [hdrop]
  rest := g.rest.trans h.rest (by simp)

theorem Two.get_set {α : Type} (v : Two α) (i k : Fin 2) (x : α) : (v.set i x).get k = if k = i then x else v.get k := by
  split
  · next h => rw [h, Two.get_set_self]
  · next h => exact Two.get_set_other _ _ _ _ h

/-- A discarded slot is FREE, and its entries are gone from the work queue (R41). -/
theorem Part.discardSlot_fra (i : SlotIx) (p : Part) :
    (p.discardSlot i).fra = { p.fra with
      slots := p.fra.slots.set i { p.slot i with state := .free, sealing := false }
      queue := p.fra.queue.filter fun e => e.slot ≠ i } := by
  simp [Part.discardSlot, Part.modSlot, Part.slot]

/-- A discarded slot's reconstruction stops (R71). -/
theorem Part.discardSlot_rca (i : SlotIx) (p : Part) :
    (p.discardSlot i).rca = {
      stream := p.rca.stream.filter fun e => e.slot ≠ i
      acc := p.rca.acc.set i []
      residual := p.rca.residual.set i { p.rca.residual.get i with valid := false }
      extracting := if p.rca.extracting = some i then none else p.rca.extracting } := by
  simp [Part.discardSlot, Part.discardReconstruction]

/-- One slot's discard. -/
theorem Part.discardSlot_discards (i : SlotIx) (p : Part) : p.Discards (fun k => decide (k = i)) (p.discardSlot i) where
  slot k := by
    rw [Part.slot, Part.discardSlot_fra, Two.get_set]
    by_cases hk : k = i <;> simp [hk, AsmSlot.freed, Part.slot]
  fra := by rw [Part.discardSlot_fra]; simp
  acc k := by rw [Part.discardSlot_rca, Two.get_set]; simp
  residual k := by
    rw [Part.discardSlot_rca, Two.get_set]
    by_cases hk : k = i <;> simp [hk]
  stream := by rw [Part.discardSlot_rca]; simp
  extracting := by
    rw [Part.discardSlot_rca]
    cases h : p.rca.extracting <;> simp [Option.filter]
  scn := by simp [Part.discardSlot, Part.discardConditioning]
  mxs := by
    have hdrop : Burst.dropFor i = Burst.dropSlots fun k => decide (k = i) := by
      funext b; cases b <;> rfl
    simp [Part.discardSlot, Part.discardReconstruction, hdrop]
  rest := by simp [Part.sameBut_iff]

/-- A slot is discarded where it is ASSEMBLING or SEALED (R41). -/
theorem Part.discardIfHeld_discards (i : SlotIx) (p : Part) :
    p.Discards (fun k => decide (k = i) && (p.slot k).discardable) (p.discardIfHeld i) := by
  unfold Part.discardIfHeld
  split
  · next h =>
    have hD : (fun k => decide (k = i) && (p.slot k).discardable) = fun k => decide (k = i) := by
      funext k; by_cases hk : k = i <;> simp [hk, h]
    rw [hD]
    exact p.discardSlot_discards i
  · next h =>
    have hD : (fun k => decide (k = i) && (p.slot k).discardable) = fun _ => false := by
      funext k; by_cases hk : k = i <;> simp [hk, h]
    rw [hD]
    exact Part.Discards.refl p

/-- Both slots are discarded, the older first (R41). -/
theorem Part.discardAll_eq (p : Part) :
    let first : SlotIx := if newer (p.slot 0).frame (p.slot 1).frame then 1 else 0
    p.discardAll = (p.discardIfHeld first).discardIfHeld (other first) := by
  unfold Part.discardAll Part.frameOrder Part.isNewer
  cases h : newer (p.slot 0).frame (p.slot 1).frame <;> simp [other, h]

/-- Every ASSEMBLING and every SEALED slot is discarded (R41). -/
theorem Part.discardAll_discards (p : Part) : p.Discards (fun k => (p.slot k).discardable) p.discardAll := by
  rw [Part.discardAll_eq]
  set first : SlotIx := if newer (p.slot 0).frame (p.slot 1).frame then 1 else 0
  have h := p.discardIfHeld_discards first
  have hboth := h.trans ((p.discardIfHeld first).discardIfHeld_discards (other first))
  have hD : (fun k => decide (k = first) && (p.slot k).discardable ||
      decide (k = other first) && ((p.discardIfHeld first).slot k).discardable) = fun k => (p.slot k).discardable := by
    funext k
    rcases eq_or_eq_other first k with rfl | rfl
    · simp [(other_ne first).symm]
    · simp [h.slot, other_ne first, AsmSlot.freed]
  rwa [hD] at hboth

/-! ## The records of the discarded frames (R178, R180) -/

/-- The parts q and p handle records alike: they agree in the ring and its queue, in the slots, and in what a record reads. -/
structure Part.RecordsAlike (q p : Part) : Prop where
  tel : q.tel = p.tel
  tlu : q.tlu = p.tlu
  xu : q.xu = p.xu
  issued : q.issued = p.issued
  geo : q.geo = p.geo
  slots : q.fra.slots = p.fra.slots
  records : q.scn.records = p.scn.records

namespace Part.RecordsAlike

variable {q p : Part}

theorem raise (h : q.RecordsAlike p) (e : Event) : (q.raise e).RecordsAlike (p.raise e) where
  tel := by simp [h.tel]
  tlu := by simp [h.tlu]
  xu := by simp [h.xu]
  issued := by
    rw [Part.raise_signal, Part.raise_signal, h.issued, Part.signal_congr e] <;> simp [h.tlu, h.xu]
  geo := by simp [h.geo]
  slots := by simp [h.slots]
  records := by simp [h.records]

theorem modTel (h : q.RecordsAlike p) (g : Tel → Tel) : (q.modTel g).RecordsAlike (p.modTel g) :=
  { h with tel := congrArg g h.tel }

theorem modTlu (h : q.RecordsAlike p) (g : Tlu → Tlu) : (q.modTlu g).RecordsAlike (p.modTlu g) :=
  { h with tlu := congrArg g h.tlu }

theorem hostWrite (h : q.RecordsAlike p) (addr : BitVec 64) (data : List Byte) :
    (q.hostWrite addr data).RecordsAlike (p.hostWrite addr data) := by
  unfold Part.hostWrite
  rw [h.xu]
  split
  · exact { h with issued := congrArg (· ++ [_]) h.issued }
  · exact h

theorem writePoint (h : q.RecordsAlike p) (r : TelRecord) : (q.writePoint r).RecordsAlike (p.writePoint r) := by
  have hc : q.canWrite = p.canWrite := by simp [Part.canWrite, h.xu, h.tel]
  unfold Part.writePoint
  rw [hc]
  split
  · unfold Part.writeRecord
    rw [h.tel, h.tlu]
    exact ((h.hostWrite _ _).modTlu _).modTel _
  · exact (h.modTel _).raise _

theorem releaseRecords (h : q.RecordsAlike p) (n : Nat) : (q.releaseRecords n).RecordsAlike (p.releaseRecords n) := by
  induction n generalizing q p with
  | zero => exact h
  | succ n ih =>
    unfold Part.releaseRecords
    rw [h.tel]
    cases p.tel.queue with
    | nil => exact h
    | cons r rest =>
      have hb : q.heldBack r.frame = p.heldBack r.frame := by simp [Part.heldBack, h.slots]
      dsimp only
      rw [hb]
      split
      · exact h
      · exact ih ((h.modTel _).writePoint r)

theorem submitRecord (h : q.RecordsAlike p) (r : TelRecord) : (q.submitRecord r).RecordsAlike (p.submitRecord r) := by
  have hb : q.heldBack r.frame = p.heldBack r.frame := by simp [Part.heldBack, h.slots]
  unfold Part.submitRecord
  rw [hb]
  split
  · rw [h.tel]
    split
    · exact h.modTel _
    · exact (h.modTel _).raise _
  · have hw := h.writePoint r
    simp only [hw.tel]
    exact hw.releaseRecords _

end Part.RecordsAlike

/-- Every segment index of a present sensor is received (R30). -/
theorem AsmSlot.sensorWhole_eq (x : AsmSlot) (g : Geometry) (i : LinkIx) :
    x.sensorWhole g i = decide (segmentsWhole g x i) := by
  rw [Bool.eq_iff_iff]
  simp [AsmSlot.sensorWhole, wholeSensor, segmentCount, segmentsWhole]

/-- The record of a discarded frame, as the statements name it (R178). -/
theorem Part.discardedRecord_eq (k : SlotIx) (p : Part) : p.discardedRecord k = recordOf p k p.geo .discarded .stopped := by
  have hc : Four.make ((p.slot k).sensorWhole p.geo) = Four.make fun i => decide (segmentsWhole p.geo (p.slot k) i) :=
    congrArg Four.make (funext fun i => AsmSlot.sensorWhole_eq _ _ i)
  exact congrArg (fun c => { recordOf p k p.geo .discarded .stopped with complete := c }) hc

theorem discardable_iff (p : Part) (k : SlotIx) : (p.slot k).discardable = true ↔ discarded p k := by
  simp [AsmSlot.discardable, discarded]

/-- A slot's discard handles its record as the statement says. -/
theorem Part.RecordsAlike.discardIfHeld {q m : Part} (h : q.RecordsAlike m) (k : SlotIx) :
    (q.discardIfHeld k).RecordsAlike (slotDiscarded m k) := by
  have hslot (j : SlotIx) : q.slot j = m.slot j := by rw [Part.slot, h.slots]; rfl
  unfold Part.discardIfHeld slotDiscarded
  by_cases hd : discarded m k
  · rw [if_pos ((discardable_iff q k).mpr (by rwa [discarded, hslot])), if_pos hd]
    have hr : q.discardedRecord k = recordOf m k m.geo .discarded .stopped := by
      rw [Part.discardedRecord_eq]
      simp only [recordOf, hslot, h.geo, h.records]
    rw [Part.discardSlot, hr]
    refine Part.RecordsAlike.submitRecord ?_ _
    constructor <;>
      simp [Part.discardReconstruction, Part.discardConditioning, Part.modSlot, h.tel, h.tlu, h.xu, h.issued, h.geo, h.slots,
        h.records, Part.slot]
  · rw [if_neg (fun hq => hd (by simpa [discarded, hslot] using (discardable_iff q k).mp hq)), if_neg hd]
    exact h

/-- Both discards handle the records as the statement says, the older slot's first (R41, R180). -/
theorem Part.RecordsAlike.discardAll {q m : Part} (h : q.RecordsAlike m) :
    let first : SlotIx := if newer (m.slot 0).frame (m.slot 1).frame then 1 else 0
    q.discardAll.RecordsAlike (slotDiscarded (slotDiscarded m first) (other first)) := by
  have hslot (j : SlotIx) : q.slot j = m.slot j := by rw [Part.slot, h.slots]; rfl
  intro first
  rw [Part.discardAll_eq, hslot, hslot]
  exact (h.discardIfHeld first).discardIfHeld (other first)

/-! ## LOOP_STOP (R98) -/

/-- A burst after the discards, as the statement names it. -/
theorem streamsDropped_eq (p : Part) : streamsDropped p = Burst.dropSlots fun k => decide (discarded p k) := by
  funext b; cases b <;> rfl

/-- LOOP_STOP outside STOPPED: beside the discards it flushes the FIFOs, stops the gap timer, clears the hold causes and raises
LOOP_STATE (R13, R98). -/
theorem Part.stopLoop_after_discards (p : Part) :
    let a := (p.putLoop .stopped).discardAll
    p.stopLoop.fra = { a.fra with gapTimer := none } ∧ p.stopLoop.links = p.links.map SensorLink.flushed ∧
    p.stopLoop.lpc = { loopMoved p.lpc .stopped with causes := .empty, firstCause := none, divCount := 0 } ∧
    p.stopLoop.tlu = { a.tlu with events := withFlag a.tlu.events .loopState } ∧
    p.stopLoop.issued = a.issued ++ a.signal .loopState ∧ p.stopLoop.sameBut a [.fra, .links, .lpc, .tlu, .issued] := by
  intro a
  refine ⟨by simp [Part.stopLoop, a], by simp [Part.stopLoop, Part.flushFifos], ?_, by simp [Part.stopLoop, a], ?_, ?_⟩
  · simp [Part.stopLoop, Part.putLoop, loopMoved]
  · rw [Part.stopLoop, Part.raise_signal, Part.signal_congr (p := a)] <;> simp [a]
  · simp [Part.sameBut_iff, Part.stopLoop, a]

end Sys2Proof.Machine

namespace Sys2Proof.Proofs

open Sys2Proof.Machine

/-- Settles O29: the discards' effect on each block, their records, and what LOOP_STOP does beside them. -/
theorem loopStops : Obligations.LoopStops := by
  intro s h hready p first
  have hexec : exec (.loopStop h) s = .next { s with
      part := Part.finishWith (p.orderRef h .loopStop) (orderTaken p h).loopStopOrder } := by
    rw [exec_eq_after]
    exact congrArg (fun p => Host.Outcome.next { s with part := p }) (Part.orderCommand_ready (o := .loopStop) hready rfl)
  constructor
  · intro hstopped
    refine ⟨_, hexec, rfl, ?_⟩
    have ho : (orderTaken p h).loopStopOrder = (.done, orderTaken p h) := if_pos hstopped
    simp only [ho, Part.finishWith]
    refine Part.answered_of_finished (q := orderTaken p h) rfl (by simp) rfl (Part.finish_orderFinished _ _ _)
      (Part.finish_sameBut _ _ _) ?_
    simp [Part.sameBut_iff]
  · intro hrunning
    have ho : (orderTaken p h).loopStopOrder = (.done, (orderTaken p h).stopLoop) := if_neg hrunning
    rw [ho, Part.finishWith] at hexec
    set d := (orderTaken p h).putLoop .stopped with hd
    set u := (orderTaken p h).stopLoop with hu
    set t := u.finish (p.orderRef h .loopStop) .done with ht
    have hdis : d.Discards (fun k => decide (discarded p k)) d.discardAll := by
      have hD : (fun k => (d.slot k).discardable) = fun k => decide (discarded p k) := by
        funext k
        rw [Bool.eq_iff_iff, discardable_iff, decide_eq_true_iff, discarded, show d.slot k = p.slot k by simp [hd, Part.slot]]
      exact hD ▸ d.discardAll_discards
    have halike : d.discardAll.RecordsAlike (slotDiscarded (slotDiscarded (orderTaken p h) first) (other first)) :=
      Part.RecordsAlike.discardAll (m := orderTaken p h) (by constructor <;> simp [hd])
    have hdfra : d.fra = p.fra := by simp [hd]
    have hdrca : d.rca = p.rca := by simp [hd]
    have hdscn : d.scn = p.scn := by simp [hd]
    have hdmxs : d.mxs = p.mxs := by simp [hd]
    have hdqueue : d.discardAll.fra.queue = p.fra.queue.filter fun e => !decide (discarded p e.slot) := by
      rw [hdis.fra, hdfra]
    set m := slotDiscarded (slotDiscarded (orderTaken p h) first) (other first)
    obtain ⟨hfra, hlinks, hlpc, htlu, hissued, hrest⟩ := (orderTaken p h).stopLoop_after_discards
    have htu : t.sameBut u [.tlu, .issued] := Part.finish_sameBut _ _ _
    have htfra : t.fra = { d.discardAll.fra with gapTimer := none } := (htu .fra (by decide)).trans hfra
    have htrca : t.rca = d.discardAll.rca := (htu .rca (by decide)).trans (hrest .rca (by decide))
    have htscn : t.scn = d.discardAll.scn := (htu .scn (by decide)).trans (hrest .scn (by decide))
    have htmxs : t.mxs = d.discardAll.mxs := (htu .mxs (by decide)).trans (hrest .mxs (by decide))
    have htlinks := (htu .links (by decide)).trans hlinks
    have htlpc := (htu .lpc (by decide)).trans hlpc
    have htslot (k : SlotIx) : t.slot k = (p.slot k).freed (decide (discarded p k)) := by
      rw [Part.slot, htfra]
      exact (hdis.slot k).trans (by simp [hd, Part.slot])
    refine ⟨_, hexec, rfl, htlpc, ?_, fun k hk => ⟨?_, ?_, ?_⟩, fun k hk => ⟨?_, ?_, ?_⟩, ?_, ?_, ?_, fun k => ?_, fun i => ?_,
      ?_, fun k => ?_, fun k => ?_, ?_, ?_, ⟨?_, ?_⟩, ?_⟩
    · simp [Part.loopClosedPin, htlpc, loopMoved]
    · simp [htslot, hk, AsmSlot.freed]
    · simp [htrca, hdis.acc, hk]
    · simp [htrca, hdis.residual, hk, hdrca]
    · simp [htslot, hk, AsmSlot.freed]
    · simp [htrca, hdis.acc, hk, hdrca]
    · simp [htrca, hdis.residual, hk, hdrca]
    · simp only [htfra]
      rw [hdis.fra, hdfra]
    · simp [htfra, hdqueue]
    · simp [htrca, hdis.stream, hdrca]
    · simp [htrca, hdis.extracting, hdrca]
    · simp [htlinks, SensorLink.flushed]
    · simp [htscn, hdis.scn, hdscn]
    · simp [htscn, hdis.scn, hdscn]
    · simp [htscn, hdis.scn, hdscn]
    · simp [htmxs, hdis.mxs, streamsDropped_eq, hdmxs]
    · simp [ht, hu]
    · have htel : t.tel = d.discardAll.tel := (htu .tel (by decide)).trans (hrest .tel (by decide))
      exact htel.trans halike.tel
    · refine orderFinished_congr (q := u) ?_ ?_ ?_ (Part.finish_orderFinished _ _ _)
      · rw [htlu, halike.tlu]
      · have hsignal : d.discardAll.signal .loopState = m.signal .loopState :=
          Part.signal_congr _ (by rw [halike.tlu]) (by rw [halike.tlu]) (by rw [halike.xu]) (by rw [halike.xu])
        rw [hissued, halike.issued, hsignal]
      · simp [← halike.xu, hu, hd]
    · have hdp : d.sameBut p [.lpc, .xu, .issued] := by simp [Part.sameBut_iff, hd]
      have hdt : t.sameBut d [.fra, .links, .rca, .scn, .mxs, .tel, .lpc, .tlu, .issued] :=
        (htu.trans hrest (by simp)).trans (hdis.rest.mono (by simp)) (by simp)
      exact hdt.trans (hdp.mono (by simp)) (by simp)

end Sys2Proof.Proofs
end

section
/-! SUPPORT. Part reset (O7): what is settled before the blocks are reset, and the two tables that a part reset writes anew. -/

namespace Sys2Proof.Machine

/-! ## Sparse tables that are mapped -/

theorem Sparse.find_of_above {α : Type} {t : Sparse α} {a : Nat} (h : Sparse.above a t) : Sparse.find t a = none := by
  induction t with
  | nil => rfl
  | cons e rest ih =>
    have he : a < e.1 := h e (List.mem_cons_self ..)
    have hrest : Sparse.above a rest := fun x hx => h x (List.mem_cons_of_mem _ hx)
    rw [Sparse.find, if_neg (by omega), ih hrest]

theorem Sparse.above_mapTo {α β : Type} [DecidableEq β] {d : β} {f : α → β} {k : Nat} {t : Sparse α} (h : Sparse.above k t) :
    Sparse.above k (Sparse.mapTo d f t) := by
  intro e he
  obtain ⟨x, hx, rfl⟩ := List.mem_map.mp (List.mem_of_mem_filter he)
  exact h x hx

/-- A table in the canonical form, mapped by a function that maps its default to the result's, reads as the map of what it read. -/
theorem Sparse.get_mapTo {α β : Type} [DecidableEq α] [DecidableEq β] {d : α} {d' : β} {f : α → β} (hf : f d = d')
    {t : Sparse α} (ht : Sparse.wf d t = true) (a : Nat) : Sparse.get d' (Sparse.mapTo d' f t) a = f (Sparse.get d t a) := by
  induction t with
  | nil => exact hf.symm
  | cons e rest ih =>
    obtain ⟨k, v⟩ := e
    obtain ⟨-, habove, hrest⟩ := (Sparse.wf_cons d k v rest).mp ht
    have ih := ih hrest
    by_cases hv : f v = d'
    · have hm : Sparse.mapTo d' f ((k, v) :: rest) = Sparse.mapTo d' f rest := by simp [Sparse.mapTo, hv]
      rw [hm]
      by_cases hk : k = a
      · subst hk
        simp [Sparse.get, Sparse.find, Sparse.find_of_above (Sparse.above_mapTo habove), hv]
      · simpa [Sparse.get, Sparse.find, hk] using ih
    · have hm : Sparse.mapTo d' f ((k, v) :: rest) = (k, f v) :: Sparse.mapTo d' f rest := by simp [Sparse.mapTo, hv]
      rw [hm]
      by_cases hk : k = a
      · simp [Sparse.get, Sparse.find, hk]
      · simpa [Sparse.get, Sparse.find, hk] using ih

/-- An index that no entry lists reads as the default. -/
theorem Sparse.get_of_not_listed {α : Type} {d : α} {t : Sparse α} {a : Nat} (h : a ∉ t.map Prod.fst) :
    Sparse.get d t a = d := by
  have hnone : Sparse.find t a = none := by
    induction t with
    | nil => rfl
    | cons e rest ih =>
      obtain ⟨hne, hrest⟩ := not_or.mp (fun hor => h (List.mem_cons.mpr hor))
      rw [Sparse.find, if_neg (fun he => hne he.symm), ih hrest]
  simp [Sparse.get, hnone]

/-- The kept slopes after a part reset: the values as they were, every age 255 (R59). -/
theorem Scn.reset_kept (c : Scn) (j : Nat) :
    Sparse.get .powerOn c.reset.kept j = ⟨(Sparse.get .powerOn c.kept j).value, 255⟩ := by
  have hk : c.reset.kept = Sparse.setAll .powerOn c.kept (c.kept.map Prod.fst) fun j =>
    { Sparse.get .powerOn c.kept j with age := 255 } := rfl
  rw [hk, Sparse.get_setAll]
  split
  · rfl
  · next h => rw [Sparse.get_of_not_listed h]; rfl

/-- The integrator lies at flat after a part reset (R121, R126). -/
theorem Lpc.reset_value {l : Lpc} (h : Sparse.wf Limits.powerOn l.limLive = true) (a : Nat) :
    l.reset.value a = 256 * (l.limit a).flat.toNat :=
  Sparse.get_mapTo (f := Limits.flatFine) (by decide) h a

/-! ## What is settled before the reset (R93, R149, R208) -/

/-- A byte of the store after a run was written from an offset on. -/
theorem Memory.read_writeAll (m : List Host.Cell) (offset : Nat) (data : List Byte) (a : Nat) :
    Memory.read (Memory.writeAll m offset data) a =
      if offset ≤ a ∧ a < offset + data.length then some (data.getD (a - offset) 0) else Memory.read m a := by
  induction data generalizing m offset with
  | nil => simp [Memory.writeAll]
  | cons b rest ih =>
    rw [Memory.writeAll, ih, Memory.read_write]
    by_cases ha : a = offset
    · simp [ha]
    · have hrange : (offset + 1 ≤ a ∧ a < offset + 1 + rest.length) ↔ (offset ≤ a ∧ a < offset + (b :: rest).length) := by
        rw [List.length_cons]; omega
      rw [if_neg ha]
      by_cases h : offset + 1 ≤ a ∧ a < offset + 1 + rest.length
      · rw [if_pos h, if_pos (hrange.mp h), show a - offset = a - (offset + 1) + 1 by omega, List.getD_cons_succ]
      · rw [if_neg h, if_neg (mt hrange.mpr h)]

/-- The store byte is the settled burst's, or as it was. -/
theorem Part.settleBurst_storeByte (b : Burst) (p : Part) (a : Nat) :
    (p.settleBurst b).storeByte a = p.storeByte a ∨ ∃ offset data live n, b = .loader offset data live ∧
      n < data.length ∧ a = offset + n ∧ (p.settleBurst b).storeByte a = data.getD n 0 := by
  cases b with
  | stream | reader => exact .inl rfl
  | loader offset data live =>
    unfold Part.settleBurst
    dsimp only
    split
    · by_cases hr : offset ≤ a ∧ a < offset + data.length
      · refine .inr ⟨offset, data, live, a - offset, rfl, by omega, by omega, ?_⟩
        simp [Part.storeByte, Memory.read_writeAll, hr]
      · left
        simp [Part.storeByte, Memory.read_writeAll, hr]
    · exact .inl (by simp [Part.storeByte])

/-- Of the store only the bytes of granted loader bursts can change (R93). -/
theorem Part.settleBursts_storeByte (l : List Burst) (p : Part) (a : Nat) :
    (l.foldl Part.settleBurst p).storeByte a = p.storeByte a ∨ ∃ offset data live n, Burst.loader offset data live ∈ l ∧
      n < data.length ∧ a = offset + n ∧ (l.foldl Part.settleBurst p).storeByte a = data.getD n 0 := by
  induction l generalizing p with
  | nil => exact .inl rfl
  | cons b rest ih =>
    rw [List.foldl_cons]
    rcases ih (p.settleBurst b) with hkept | ⟨offset, data, live, n, hmem, hn, ha, hbyte⟩
    · rcases p.settleBurst_storeByte b a with hkept' | ⟨offset, data, live, n, rfl, hn, ha, hbyte⟩
      · exact .inl (hkept.trans hkept')
      · exact .inr ⟨offset, data, live, n, List.mem_cons_self .., hn, ha, hkept.trans hbyte⟩
    · exact .inr ⟨offset, data, live, n, List.mem_cons_of_mem _ hmem, hn, ha, hbyte⟩

/-- A granted burst that settles changes the store and the free-value counter alone (R93). -/
theorem Part.settleBurst_sameBut (b : Burst) (p : Part) :
    (p.settleBurst b).sameBut p [.mxs, .frees] ∧
      (p.settleBurst b).mxs = { p.mxs with store := (p.settleBurst b).mxs.store } := by
  refine ⟨by simp [Part.sameBut_iff], ?_⟩
  unfold Part.settleBurst
  cases b with
  | stream | reader => rfl
  | loader offset data live =>
    dsimp only
    split <;> simp

/-- The granted bursts together (R93). -/
theorem Part.settleBursts_sameBut (l : List Burst) (p : Part) :
    (l.foldl Part.settleBurst p).sameBut p [.mxs, .frees] ∧
      (l.foldl Part.settleBurst p).mxs = { p.mxs with store := (l.foldl Part.settleBurst p).mxs.store } := by
  induction l generalizing p with
  | nil => exact ⟨by simp [Part.sameBut_iff], rfl⟩
  | cons b rest ih =>
    obtain ⟨hrest, hmxs⟩ := ih (p.settleBurst b)
    obtain ⟨hb, hmxs'⟩ := p.settleBurst_sameBut b
    rw [List.foldl_cons]
    exact ⟨hrest.trans hb (by simp), by rw [hmxs, hmxs']⟩

/-- A link that is cut off has nothing more to send, and the other stays (R149). -/
theorem Part.cutOff_mlt (m k : MirrorIx) (p : Part) :
    (p.cutOff m).mlt.get k = if k = m then { p.mlt.get k with tx := [] } else p.mlt.get k := by
  have hq : (p.cutOff m).mlt = (p.modMirror m fun l => { l with tx := [] }).mlt := by
    unfold Part.cutOff; dsimp only; split <;> simp
  rw [hq]
  split
  · next h => rw [h, Part.modMirror_get]
  · next h => exact Part.modMirror_get_other _ _ _ _ h

/-- A link that was sending is cut off (R149). -/
theorem Part.cutOff_issued (m : MirrorIx) (p : Part) :
    (p.cutOff m).issued = p.issued ++ (if (p.mlt.get m).tx = [] then [] else [.cutOff m]) := by
  unfold Part.cutOff
  dsimp only
  split <;> simp [Part.issue]

/-- Both links are cut off, each where it was sending (R149). -/
theorem Part.cutLinks_issued (p : Part) : p.cutLinks.issued = p.issued ++
    (if (p.mlt.get 0).tx = [] then [] else [.cutOff 0]) ++ (if (p.mlt.get 1).tx = [] then [] else [.cutOff 1]) := by
  rw [Part.cutLinks, Part.cutOff_issued, Part.cutOff_issued, Part.cutOff_mlt, if_neg (show (1 : MirrorIx) ≠ 0 by decide)]

/-- After the links are cut off neither has anything more to send (R149). -/
theorem Part.cutLinks_mlt (m : MirrorIx) (p : Part) : p.cutLinks.mlt.get m = { p.mlt.get m with tx := [] } := by
  rw [Part.cutLinks, Part.cutOff_mlt, Part.cutOff_mlt]
  match m with
  | 0 | 1 => rfl

/-- The cancelled swap's result (R93). -/
theorem Part.reportSwap_issued (p : Part) : p.reportSwap.issued = p.issued ++
    (match p.mxs.pendingSwap with
      | some w => resultWrites p (headOf w.order) (.failed .aborted)
      | none => []) := by
  unfold Part.reportSwap
  cases p.mxs.pendingSwap with
  | none => simp
  | some w => exact Part.writeResult_issued _ _ _

/-- What is settled before the blocks are reset, in the mirror links: the packets not yet sent are dropped (R149). -/
theorem Part.settle_mlt (m : MirrorIx) (p : Part) : p.settle.mlt.get m = { p.mlt.get m with tx := [] } := by
  have h : p.settle.mlt = p.reportSwap.cutLinks.mlt := (Part.settleBursts_sameBut _ _).1 .mlt (by decide)
  rw [h, Part.cutLinks_mlt]
  simp

/-- What is settled before the blocks are reset, in what is issued: the cancelled swap's result, then the cuts (R93, R149). -/
theorem Part.settle_issued (p : Part) : p.settle.issued = p.issued ++
    (match p.mxs.pendingSwap with
      | some w => resultWrites p (headOf w.order) (.failed .aborted)
      | none => []) ++
    (if (p.mlt.get 0).tx = [] then [] else [.cutOff 0]) ++ (if (p.mlt.get 1).tx = [] then [] else [.cutOff 1]) := by
  have h : p.settle.issued = p.reportSwap.cutLinks.issued := (Part.settleBursts_sameBut _ _).1 .issued (by decide)
  rw [h, Part.cutLinks_issued, Part.reportSwap_issued]
  simp

/-- What is settled before the blocks are reset, in the matrix store (R93). -/
theorem Part.settle_mxs (p : Part) : p.settle.mxs = { p.mxs with store := p.settle.mxs.store } := by
  have h := (Part.settleBursts_sameBut p.mxs.bursts p.reportSwap.cutLinks).2
  rw [Part.settle, h]
  simp

/-- What is settled before the blocks are reset leaves the other blocks (R93, R149, R208). -/
theorem Part.settle_sameBut (p : Part) : p.settle.sameBut p [.mxs, .mlt, .issued, .frees] := by
  have hbefore : p.reportSwap.cutLinks.sameBut p [.mxs, .mlt, .issued, .frees] := by simp [Part.sameBut_iff]
  exact (Part.settleBursts_sameBut _ _).1.trans hbefore (by simp)

/-- The store after the granted bursts have settled (R93). -/
theorem Part.settle_storeByte (p : Part) (a : Nat) :
    p.settle.storeByte a = p.storeByte a ∨ ∃ offset data live n, Burst.loader offset data live ∈ p.mxs.bursts ∧
      n < data.length ∧ a = offset + n ∧ p.settle.storeByte a = data.getD n 0 := by
  have h := Part.settleBursts_storeByte p.mxs.bursts p.reportSwap.cutLinks a
  rwa [show p.reportSwap.cutLinks.storeByte a = p.storeByte a by simp [Part.storeByte]] at h

/-- A bank record after a part reset (R93). -/
theorem BankRecord.reset_eq (b : BankRecord) :
    b.reset = { b with state := if b.state = .loading then .empty else b.state } := by
  unfold BankRecord.reset
  split <;> simp_all

end Sys2Proof.Machine

namespace Sys2Proof.Proofs

open Sys2Proof.Machine

/-- Settles O7: what is settled first, and then each block's reset. -/
theorem partReset : Obligations.PartReset := by
  intro s c hc
  have hexec : exec c s = .next { s with part := s.part.settle.resetBlocks } := by
    rcases hc with rfl | ⟨b, rfl⟩ <;> exact exec_eq_after _ _
  set p := s.part with hp
  set q := p.settle with hq
  have hsame : q.sameBut p [.mxs, .mlt, .issued, .frees] := p.settle_sameBut
  have hlinks : q.links = p.links := hsame .links (by decide)
  have hfra : q.fra = p.fra := hsame .fra (by decide)
  have hscn : q.scn = p.scn := hsame .scn (by decide)
  have hlpc : q.lpc = p.lpc := hsame .lpc (by decide)
  have hxu : q.xu = p.xu := hsame .xu (by decide)
  have hsns : q.sns = p.sns := hsame .sns (by decide)
  have htel : q.tel = p.tel := hsame .tel (by decide)
  have htlu : q.tlu = p.tlu := hsame .tlu (by decide)
  have hmxs : q.mxs = { p.mxs with store := q.mxs.store } := p.settle_mxs
  refine ⟨_, hexec, rfl, hsame .geo (by decide), ?_, ?_, ?_, ?_, ?_, rfl, rfl, ?_, ?_, ?_, ?_, ?_, ?_, ?_, ?_, ?_, ?_, ?_, ?_⟩
  · intro i
    simp only [Part.resetBlocks, Four.get_map, hlinks]
    rfl
  · simp only [Part.resetBlocks, hfra]
    rfl
  · simp only [Part.resetBlocks, hscn]
    rfl
  · simp only [Part.resetBlocks, hscn]
    exact p.scn.reset_kept
  · intro k
    match k with
    | 0 | 1 => exact ⟨rfl, rfl⟩
  · intro b
    simp only [Part.resetBlocks, Mxs.reset, Two.get_map, BankRecord.reset_eq]
    rw [hmxs]
  · simp only [Part.resetBlocks]
    rw [hmxs]
    rfl
  · intro a
    exact p.settle_storeByte a
  · simp only [Part.resetBlocks, hlpc]
    rfl
  · rfl
  · intro h a
    simp only [Part.resetBlocks, hlpc]
    exact Lpc.reset_value h a
  · intro m
    simp only [Part.resetBlocks, Two.get_map]
    rw [p.settle_mlt]
    rfl
  · simp only [Part.resetBlocks, hxu]
    rfl
  · simp only [Part.resetBlocks, hsns]
    rfl
  · simp only [Part.resetBlocks, htel]
    rfl
  · simp only [Part.resetBlocks, htlu]
    rfl
  · exact p.settle_issued

end Sys2Proof.Proofs
end

section
/-! SUPPORT. The law of the slots (O55), seen from the few facts that it speaks of: each slot's state, seal and frame, and the slots
that extraction, substitution, a waiting substitution and a running update stand for. -/

namespace Sys2Proof.Machine

/-! ## The standing of the slots -/

/-- What the law says of a slot: its state, whether its seal is decided, and its frame. -/
structure SlotFacts where
  state : SlotState
  decided : Bool
  frame : Serial

/-- The facts of a slot's record. -/
def AsmSlot.facts (x : AsmSlot) : SlotFacts := ⟨x.state, x.sealKind.isSome, x.frame⟩

/-- The facts that the law of the slots speaks of: those of each slot, and the slots that are claimed, by extraction, by substitution,
by a substitution that waits, and by a running update. -/
structure Standing where
  slot : SlotIx → SlotFacts
  extracting : Option SlotIx
  substituting : Option SlotIx
  waiting : Option SlotIx
  updating : Option SlotIx

/-- The slot whose seal's substitution occupies the conditioner (R54). -/
def Scn.substituting (c : Scn) : Option SlotIx := (c.job.filter fun j => j.kind = .substitution).map ScnJob.slot

/-- The slot of the running update (R110). -/
def Lpc.updating (l : Lpc) : Option SlotIx := l.update.map Update.slot

/-- The standing of the slots of a part. -/
def Part.standing (p : Part) : Standing where
  slot k := (p.slot k).facts
  extracting := p.rca.extracting
  substituting := p.scn.substituting
  waiting := p.scn.substDue
  updating := p.lpc.updating

namespace Standing

/-- The slot is still ASSEMBLING, and its seal is decided. -/
def sealing (v : Standing) (i : SlotIx) : Prop := (v.slot i).state = .assembling ∧ (v.slot i).decided = true

/-- Nothing stands for the slot. -/
structure Unclaimed (v : Standing) (i : SlotIx) : Prop where
  extracting : v.extracting ≠ some i
  substituting : v.substituting ≠ some i
  waiting : v.waiting ≠ some i
  updating : v.updating ≠ some i

/-- The law of the slots, of their standing. -/
structure Law (v : Standing) : Prop where
  distinct : (v.slot 0).state ≠ .free → (v.slot 1).state ≠ .free → (v.slot 0).frame ≠ (v.slot 1).frame
  extracting : ∀ i, v.extracting = some i → v.sealing i
  substituting : ∀ i, v.substituting = some i → v.sealing i ∧ v.extracting ≠ some i
  waiting : ∀ i, v.waiting = some i → v.sealing i ∧ v.extracting ≠ some i ∧ v.substituting ≠ some i
  updating : ∀ i, v.updating = some i → (v.slot i).state = .updating

/-- The standing with the facts of one slot replaced. -/
def put (v : Standing) (i : SlotIx) (x : SlotFacts) : Standing := { v with slot := fun k => if k = i then x else v.slot k }

/-- Putting back what a slot's facts are changes nothing. -/
@[simp] theorem put_self (v : Standing) (i : SlotIx) : v.put i (v.slot i) = v := by
  have h : (fun k => if k = i then v.slot i else v.slot k) = v.slot := by
    funext k; split <;> simp_all
  simp [put, h]

/-! ## What keeps the law -/

variable {v : Standing}

/-- A slot whose state is no longer ASSEMBLING, or whose seal is not decided, is claimed by an update at most. -/
theorem Law.unclaimed (h : v.Law) {i : SlotIx} (hs : ¬ v.sealing i) (hu : (v.slot i).state ≠ .updating) : v.Unclaimed i where
  extracting he := hs (h.extracting i he)
  substituting he := hs (h.substituting i he).1
  waiting he := hs (h.waiting i he).1
  updating he := hu (h.updating i he)

/-- The facts of a slot that nothing claims may change, where its frame stays apart from the other slot's. -/
theorem Law.put (h : v.Law) {i : SlotIx} (hi : v.Unclaimed i) (x : SlotFacts)
    (hx : x.state ≠ .free → (v.slot (other i)).state ≠ .free → x.frame ≠ (v.slot (other i)).frame) : (v.put i x).Law := by
  obtain ⟨hd, he, hs, hw, hu⟩ := h
  obtain ⟨ne, ns, nw, nu⟩ := hi
  have hslot (k : SlotIx) (hk : k ≠ i) : (v.put i x).slot k = v.slot k := if_neg hk
  have hsame (k : SlotIx) (hk : k ≠ i) : (v.put i x).sealing k ↔ v.sealing k := by simp only [sealing, hslot k hk]
  refine ⟨?_, fun k hk => (hsame k ?_).mpr (he k hk), fun k hk => ⟨(hsame k ?_).mpr (hs k hk).1, (hs k hk).2⟩,
    fun k hk => ⟨(hsame k ?_).mpr (hw k hk).1, (hw k hk).2⟩, fun k hk => ?_⟩
  · match i with
    | 0 => exact hx
    | 1 => exact fun h0 h1 => (hx h1 h0).symm
  · rintro rfl; exact ne hk
  · rintro rfl; exact ns hk
  · rintro rfl; exact nw hk
  · rw [hslot k (by rintro rfl; exact nu hk)]; exact hu k hk

/-- The state of a slot in use that nothing claims may change. -/
theorem Law.putState (h : v.Law) {i : SlotIx} (hi : v.Unclaimed i) (hfree : (v.slot i).state ≠ .free) (st : SlotState) :
    (v.put i { v.slot i with state := st }).Law := by
  refine h.put hi _ fun _ ho => ?_
  match i with
  | 0 => exact h.distinct hfree ho
  | 1 => exact (h.distinct ho hfree).symm

/-- The decision of a seal claims nothing, and what claims a slot asks for a decided seal. -/
theorem Law.decide (h : v.Law) (i : SlotIx) : (v.put i { v.slot i with decided := true }).Law := by
  obtain ⟨hd, he, hs, hw, hu⟩ := h
  have hslot (k : SlotIx) : ((v.put i { v.slot i with decided := true }).slot k).state = (v.slot k).state ∧
      ((v.put i { v.slot i with decided := true }).slot k).frame = (v.slot k).frame := by
    by_cases hk : k = i <;> simp [Standing.put, hk]
  have hseal (k : SlotIx) (hk : v.sealing k) : (v.put i { v.slot i with decided := true }).sealing k := by
    refine ⟨(hslot k).1.trans hk.1, ?_⟩
    by_cases hki : k = i
    · simp [Standing.put, hki]
    · simpa [Standing.put, hki] using hk.2
  refine ⟨?_, fun k hk => hseal k (he k hk), fun k hk => ⟨hseal k (hs k hk).1, (hs k hk).2⟩,
    fun k hk => ⟨hseal k (hw k hk).1, (hw k hk).2⟩, fun k hk => (hslot k).1.trans (hu k hk)⟩
  rw [(hslot 0).1, (hslot 0).2, (hslot 1).1, (hslot 1).2]
  exact hd

/-- Fewer slots may be claimed. -/
theorem Law.claimLess (h : v.Law) {e s w u : Option SlotIx} (he : ∀ i, e = some i → v.extracting = some i)
    (hs : ∀ i, s = some i → v.substituting = some i) (hw : ∀ i, w = some i → v.waiting = some i)
    (hu : ∀ i, u = some i → v.updating = some i) :
    Law { v with extracting := e, substituting := s, waiting := w, updating := u } where
  distinct := h.distinct
  extracting i hi := h.extracting i (he i hi)
  substituting i hi := ⟨(h.substituting i (hs i hi)).1, fun x => (h.substituting i (hs i hi)).2 (he i x)⟩
  waiting i hi :=
    ⟨(h.waiting i (hw i hi)).1, fun x => (h.waiting i (hw i hi)).2.1 (he i x), fun x => (h.waiting i (hw i hi)).2.2 (hs i x)⟩
  updating i hi := h.updating i (hu i hi)

/-- A seal that nothing has claimed yet waits for its substitution. -/
theorem Law.await (h : v.Law) {i : SlotIx} (hi : v.sealing i) (he : v.extracting ≠ some i) (hs : v.substituting ≠ some i) :
    Law { v with waiting := some i } where
  distinct := h.distinct
  extracting := h.extracting
  substituting := h.substituting
  waiting k hk := by obtain rfl := Option.some.inj hk; exact ⟨hi, he, hs⟩
  updating := h.updating

/-- A decided seal that is not extracted and does not wait takes the conditioner. -/
theorem Law.substitute (h : v.Law) {i : SlotIx} (hi : v.sealing i) (he : v.extracting ≠ some i) (hw : v.waiting ≠ some i) :
    Law { v with substituting := some i } where
  distinct := h.distinct
  extracting := h.extracting
  substituting k hk := by obtain rfl := Option.some.inj hk; exact ⟨hi, he⟩
  waiting k hk := ⟨(h.waiting k hk).1, (h.waiting k hk).2.1, fun hs => hw (hk.trans hs.symm)⟩
  updating := h.updating

/-- Extraction begins on a decided seal that nothing else claims. -/
theorem Law.extract (h : v.Law) {i : SlotIx} (hi : v.sealing i) (hs : v.substituting ≠ some i) (hw : v.waiting ≠ some i) :
    Law { v with extracting := some i } where
  distinct := h.distinct
  extracting k hk := by obtain rfl := Option.some.inj hk; exact hi
  substituting k hk := ⟨(h.substituting k hk).1, fun he => hs (hk.trans he.symm)⟩
  waiting k hk := ⟨(h.waiting k hk).1, fun he => hw (hk.trans he.symm), (h.waiting k hk).2.2⟩
  updating := h.updating

/-- An update runs on a slot that is UPDATING. -/
theorem Law.update (h : v.Law) {i : SlotIx} (hi : (v.slot i).state = .updating) : Law { v with updating := some i } where
  distinct := h.distinct
  extracting := h.extracting
  substituting := h.substituting
  waiting := h.waiting
  updating k hk := by obtain rfl := Option.some.inj hk; exact hi

end Standing

theorem AsmSlot.inUse_iff (x : AsmSlot) : x.inUse = true ↔ x.state ≠ .free := by simp [AsmSlot.inUse]

theorem Scn.substituting_eq_some (c : Scn) (i : SlotIx) :
    c.substituting = some i ↔ ∃ j, c.job = some j ∧ j.kind = .substitution ∧ j.slot = i := by
  simp [Scn.substituting, Option.filter_eq_some_iff, and_assoc]

theorem Lpc.updating_eq_some (l : Lpc) (i : SlotIx) : l.updating = some i ↔ ∃ u, l.update = some u ∧ u.slot = i := by
  simp [Lpc.updating]

/-- The law of the slots rests on their standing alone. -/
theorem Part.slotLaw_iff (p : Part) : p.SlotLaw ↔ p.standing.Law := by
  constructor
  · rintro ⟨hd, he, hs, hw, hu⟩
    refine ⟨fun h0 h1 => hd ((p.slot 0).inUse_iff.mpr h0) ((p.slot 1).inUse_iff.mpr h1), he, fun i hi => ?_,
      fun i hi => ?_, fun i hi => ?_⟩
    · obtain ⟨j, hj, hk, rfl⟩ := (p.scn.substituting_eq_some i).mp hi
      obtain ⟨h1, h2, h3⟩ := hs j hj hk
      exact ⟨⟨h1, h2⟩, h3⟩
    · obtain ⟨h1, h2, h3, h4⟩ := hw i hi
      refine ⟨⟨h1, h2⟩, h3, fun hc => ?_⟩
      obtain ⟨j, hj, hk, hji⟩ := (p.scn.substituting_eq_some i).mp hc
      exact h4 j hj hk hji
    · obtain ⟨u, hlu, rfl⟩ := (p.lpc.updating_eq_some i).mp hi
      exact hu u hlu
  · rintro ⟨hd, he, hs, hw, hu⟩
    refine ⟨fun h0 h1 => hd ((p.slot 0).inUse_iff.mp h0) ((p.slot 1).inUse_iff.mp h1), he, fun j hj hk => ?_,
      fun i hi => ?_, fun u hlu => hu u.slot ((p.lpc.updating_eq_some _).mpr ⟨u, hlu, rfl⟩)⟩
    · obtain ⟨⟨h1, h2⟩, h3⟩ := hs j.slot ((p.scn.substituting_eq_some _).mpr ⟨j, hj, hk, rfl⟩)
      exact ⟨h1, h2, h3⟩
    · obtain ⟨⟨h1, h2⟩, h3, h4⟩ := hw i hi
      exact ⟨h1, h2, h3, fun j hj hk hji => h4 ((p.scn.substituting_eq_some i).mpr ⟨j, hj, hk, hji⟩)⟩

/-- A part whose slots stand as before keeps the law. -/
theorem Part.SlotLaw.of_standing {p q : Part} (h : p.SlotLaw) (hq : q.standing = p.standing) : q.SlotLaw := by
  rw [Part.slotLaw_iff, hq, ← Part.slotLaw_iff]; exact h

end Sys2Proof.Machine
end

section
/-! SUPPORT. The law of the slots (O55), continued: the operations that leave the standing of the slots alone. -/

namespace Sys2Proof.Machine

/-- A part in which the slots, the extraction, the conditioner's work and the update stand as before keeps the law. -/
theorem Part.SlotLaw.of_same {p q : Part} (h : p.SlotLaw)
    (hq : q.fra.slots = p.fra.slots ∧ q.rca.extracting = p.rca.extracting ∧ q.scn.substituting = p.scn.substituting ∧
      q.scn.substDue = p.scn.substDue ∧ q.lpc.updating = p.lpc.updating) : q.SlotLaw := by
  obtain ⟨hslots, hex, hsub, hdue, hup⟩ := hq
  exact h.of_standing (by simp only [Part.standing, Part.slot, hslots, hex, hsub, hdue, hup])

/-! ## The loop controller (R94 to R123) -/

/-- A change of the loop state clears the update's closed-throughout mark, and leaves its slot (R94, R110). -/
@[simp] theorem Part.putLoop_updating (st : LoopState) (p : Part) : (p.putLoop st).lpc.updating = p.lpc.updating := by
  simp [Part.putLoop, Lpc.updating, Function.comp_def]

@[simp] theorem Part.setLoop_updating (st : LoopState) (p : Part) : (p.setLoop st).lpc.updating = p.lpc.updating := by
  rcases p.setLoop_cases st with ⟨-, h⟩ | ⟨-, h⟩ <;> simp [h]

@[simp] theorem Part.takeHold_updating (c : HoldCause) (p : Part) : (p.takeHold c).lpc.updating = p.lpc.updating := by
  unfold Part.takeHold
  split
  · rfl
  · rfl
  all_goals exact Part.setLoop_updating _ _

@[simp] theorem Part.loopCloseOrder_updating (ramp : BitVec 16) (p : Part) :
    (p.loopCloseOrder ramp).2.lpc.updating = p.lpc.updating := by
  unfold Part.loopCloseOrder Part.closeLoop
  (repeat' split) <;> simp
  rfl

@[simp] theorem Part.limitsWait_updating (p : Part) : p.limitsWait.lpc.updating = p.lpc.updating := by
  simp only [Part.limitsWait]; split <;> rfl

@[simp] theorem Part.pairsWait_updating (p : Part) : p.pairsWait.lpc.updating = p.lpc.updating := by
  simp only [Part.pairsWait]; split <;> rfl

@[simp] theorem Part.gainsWait_updating (p : Part) : p.gainsWait.lpc.updating = p.lpc.updating := by
  simp only [Part.gainsWait]; split <;> rfl

@[simp] theorem Part.commitActuatorSide_updating (p : Part) : p.commitActuatorSide.lpc.updating = p.lpc.updating := by
  simp only [Part.commitActuatorSide]; (repeat' split) <;> rfl

@[simp] theorem Part.setGains_updating (q : GainsOrderParams) (p : Part) :
    (p.setGains q).2.lpc.updating = p.lpc.updating := by
  unfold Part.setGains
  split
  · rfl
  · exact Part.gainsWait_updating _

@[simp] theorem Part.driveShape_updating (w : List Nat) (p : Part) : (p.driveShape w).lpc.updating = p.lpc.updating := by
  simp only [Part.driveShape, Part.handShape_keeps]; rfl

@[simp] theorem Part.flattenOrder_updating (p : Part) : p.flattenOrder.2.lpc.updating = p.lpc.updating := by
  unfold Part.flattenOrder
  (repeat' split) <;> simp
  rfl

@[simp] theorem Part.judgeShape_updating (codes : List (BitVec 16)) (p : Part) :
    (p.judgeShape codes).2.lpc.updating = p.lpc.updating := by
  unfold Part.judgeShape
  (repeat' split) <;> simp

@[simp] theorem Part.interlockEdge_updating (p : Part) : p.interlockEdge.lpc.updating = p.lpc.updating := by
  simp only [Part.interlockEdge]
  (repeat' split) <;> simp

/-! ## The mirror links (R130 to R146) -/

@[simp] theorem Part.enterFault_updating (m : MirrorIx) (p : Part) : (p.enterFault m).lpc.updating = p.lpc.updating := by
  simp [Part.enterFault]

@[simp] theorem Part.takeReceipt_updating (m : MirrorIx) (x : Serial) (st : ReceiptStatus) (fault : Bool) (p : Part) :
    (p.takeReceipt m x st fault).lpc.updating = p.lpc.updating := by
  simp only [Part.takeReceipt, Part.judgeReceipt]
  (repeat' split) <;> simp

@[simp] theorem Part.takeReply_updating (m : MirrorIx) (ready fault : Bool) (y : Serial) (p : Part) :
    (p.takeReply m ready fault y).lpc.updating = p.lpc.updating := by
  simp only [Part.takeReply, Part.replyInChecking, Part.replyInBlocked, Part.replyToProbe]
  (repeat' split) <;> simp

@[simp] theorem Part.mirrorPacketArrival_updating (m : MirrorIx) (early : Bool) (packet : List Byte) (p : Part) :
    (p.mirrorPacketArrival m early packet).lpc.updating = p.lpc.updating := by
  unfold Part.mirrorPacketArrival Part.takeMirrorPacket
  (repeat' split) <;> simp

@[simp] theorem Part.receiptTimerExpiry_updating (m : MirrorIx) (p : Part) :
    (p.receiptTimerExpiry m).lpc.updating = p.lpc.updating := by
  simp only [Part.receiptTimerExpiry, Part.expiryInChecking, Part.expiryInBlocked]
  (repeat' split) <;> simp

/-! ## The slope conditioner's tables (R44, R45) -/

@[simp] theorem Part.referenceWaits_work (p : Part) :
    p.referenceWaits.scn.substituting = p.scn.substituting ∧ p.referenceWaits.scn.substDue = p.scn.substDue := by
  simp only [Part.referenceWaits]; split <;> exact ⟨rfl, rfl⟩

@[simp] theorem Part.parametersWait_work (p : Part) :
    p.parametersWait.scn.substituting = p.scn.substituting ∧ p.parametersWait.scn.substDue = p.scn.substDue := by
  simp only [Part.parametersWait]; split <;> exact ⟨rfl, rfl⟩

@[simp] theorem Part.setSensor_work (q : SensorOrderParams) (p : Part) :
    (p.setSensor q).2.scn.substituting = p.scn.substituting ∧ (p.setSensor q).2.scn.substDue = p.scn.substDue := by
  unfold Part.setSensor Part.writeParameter
  (repeat' split) <;> simp
  rfl

/-! ## The matrix store and the reconstruction array (R62, R63) -/

@[simp] theorem Part.arbiterGrant_extracting (p : Part) : p.arbiterGrant.rca.extracting = p.rca.extracting := by
  unfold Part.arbiterGrant
  split
  · rfl
  · rename_i g _
    cases hr : g.requester <;> simp [Part.grantTo]
    unfold Part.grantStream
    split <;> simp

@[simp] theorem Part.swapMatrix_slots (target : Byte) (ref : OrderRef) (p : Part) :
    (p.swapMatrix target ref).2.fra.slots = p.fra.slots := by
  simp only [Part.swapMatrix]
  (repeat' split) <;> simp

/-! ## The transfer lane (R168 to R172) -/

@[simp] theorem Part.dropWork_claims (op : BulkOp) (p : Part) :
    (p.dropWork op).scn.substituting = p.scn.substituting ∧ (p.dropWork op).scn.substDue = p.scn.substDue ∧
    (p.dropWork op).lpc.updating = p.lpc.updating := by
  cases op <;> exact ⟨rfl, rfl, rfl⟩

@[simp] theorem Part.beginWork_claims (op : BulkOp) (p : Part) :
    (p.beginWork op).scn.substituting = p.scn.substituting ∧ (p.beginWork op).scn.substDue = p.scn.substDue ∧
    (p.beginWork op).lpc.updating = p.lpc.updating := by
  cases op <;> exact ⟨rfl, rfl, rfl⟩

@[simp] theorem Part.placeEntries_claims (op : BulkOp) (entries : List (List Byte)) (p : Part) :
    (p.placeEntries op entries).scn.substituting = p.scn.substituting ∧
    (p.placeEntries op entries).scn.substDue = p.scn.substDue ∧
    (p.placeEntries op entries).lpc.updating = p.lpc.updating := by
  cases op <;> exact ⟨rfl, rfl, rfl⟩

@[simp] theorem Part.endEarly_claims (r : Running) (reason : Reason) (p : Part) :
    (p.endEarly r reason).scn.substituting = p.scn.substituting ∧ (p.endEarly r reason).scn.substDue = p.scn.substDue ∧
    (p.endEarly r reason).lpc.updating = p.lpc.updating := by
  simp [Part.endEarly]

@[simp] theorem Part.laneRead_claims (r : Running) (a : BitVec 64) (n : Nat) (p : Part) :
    (p.laneRead r a n).scn.substituting = p.scn.substituting ∧ (p.laneRead r a n).scn.substDue = p.scn.substDue ∧
    (p.laneRead r a n).lpc.updating = p.lpc.updating := by
  unfold Part.laneRead Part.failTransfer
  split <;> simp

@[simp] theorem Part.completeSlopeLoad_work (l : SlopeLoad) (p : Part) :
    (p.completeSlopeLoad l).2.scn.substituting = p.scn.substituting ∧
    (p.completeSlopeLoad l).2.scn.substDue = p.scn.substDue := by
  simp only [Part.completeSlopeLoad]
  (repeat' split) <;> simp <;> rfl

@[simp] theorem Part.completeActuatorLoad_updating (l : ActuatorLoad) (p : Part) :
    (p.completeActuatorLoad l).2.lpc.updating = p.lpc.updating := by
  simp only [Part.completeActuatorLoad]
  (repeat' split) <;> simp <;> rfl

@[simp] theorem Part.completeLoad_claims (r : Running) (p : Part) :
    (p.completeLoad r).scn.substituting = p.scn.substituting ∧ (p.completeLoad r).scn.substDue = p.scn.substDue ∧
    (p.completeLoad r).lpc.updating = p.lpc.updating := by
  unfold Part.completeLoad Part.conclude Part.completeShape
  (repeat' split) <;> simp
  rfl

@[simp] theorem Part.confirm_claims (r : Running) (p : Part) :
    (p.confirm r).scn.substituting = p.scn.substituting ∧ (p.confirm r).scn.substDue = p.scn.substDue ∧
    (p.confirm r).lpc.updating = p.lpc.updating := by
  simp [Part.confirm]

@[simp] theorem Part.startBulk_claims (b : Bulk) (p : Part) :
    (p.startBulk b).scn.substituting = p.scn.substituting ∧ (p.startBulk b).scn.substDue = p.scn.substDue ∧
    (p.startBulk b).lpc.updating = p.lpc.updating := by
  unfold Part.startBulk Part.runLane
  dsimp only
  (repeat' split) <;> simp

@[simp] theorem Part.startHead_claims (p : Part) :
    p.startHead.scn.substituting = p.scn.substituting ∧ p.startHead.scn.substDue = p.scn.substDue ∧
    p.startHead.lpc.updating = p.lpc.updating := by
  unfold Part.startHead
  split <;> simp

@[simp] theorem Part.startHeads_claims (n : Nat) (p : Part) :
    (Part.startHeads n p).scn.substituting = p.scn.substituting ∧ (Part.startHeads n p).scn.substDue = p.scn.substDue ∧
    (Part.startHeads n p).lpc.updating = p.lpc.updating := by
  induction n generalizing p with
  | zero => exact ⟨rfl, rfl, rfl⟩
  | succ n ih => simp [Part.startHeads, ih]

@[simp] theorem Part.takeBulk_claims (o : Order) (ref : OrderRef) (x : Except Reason Taken) (p : Part) :
    (p.takeBulk o ref x).scn.substituting = p.scn.substituting ∧ (p.takeBulk o ref x).scn.substDue = p.scn.substDue ∧
    (p.takeBulk o ref x).lpc.updating = p.lpc.updating := by
  simp only [Part.takeBulk, Part.enqueueBulk, Part.startQueue]
  (repeat' split) <;> simp

@[simp] theorem Part.hostReadCompletion_claims (bytes : List Byte) (p : Part) :
    (p.hostReadCompletion bytes).scn.substituting = p.scn.substituting ∧
    (p.hostReadCompletion bytes).scn.substDue = p.scn.substDue ∧
    (p.hostReadCompletion bytes).lpc.updating = p.lpc.updating := by
  simp only [Part.hostReadCompletion, Part.takeEntries]
  (repeat' split) <;> simp

@[simp] theorem Part.issueImage_claims (r : Running) (bytes : List Byte) (p : Part) :
    (p.issueImage r bytes).scn.substituting = p.scn.substituting ∧ (p.issueImage r bytes).scn.substDue = p.scn.substDue ∧
    (p.issueImage r bytes).lpc.updating = p.lpc.updating := by
  simp only [Part.issueImage]
  split <;> simp

@[simp] theorem Part.readerBurstComplete_claims (p : Part) :
    p.readerBurstComplete.scn.substituting = p.scn.substituting ∧ p.readerBurstComplete.scn.substDue = p.scn.substDue ∧
    p.readerBurstComplete.lpc.updating = p.lpc.updating := by
  simp only [Part.readerBurstComplete]
  (repeat' split) <;> simp

@[simp] theorem Part.hostWriteRequest_claims (length : Nat) (p : Part) :
    (p.hostWriteRequest length).scn.substituting = p.scn.substituting ∧
    (p.hostWriteRequest length).scn.substDue = p.scn.substDue ∧
    (p.hostWriteRequest length).lpc.updating = p.lpc.updating := by
  unfold Part.hostWriteRequest
  (repeat' split) <;> simp

@[simp] theorem Part.abortTransfer_claims (matchFlag ticket : Byte) (p : Part) :
    (p.abortTransfer matchFlag ticket).2.scn.substituting = p.scn.substituting ∧
    (p.abortTransfer matchFlag ticket).2.scn.substDue = p.scn.substDue ∧
    (p.abortTransfer matchFlag ticket).2.lpc.updating = p.lpc.updating := by
  unfold Part.abortTransfer Part.startQueue
  (repeat' split) <;> simp

@[simp] theorem Part.hostAccessFailure_claims (read : FailedRead) (p : Part) :
    (p.hostAccessFailure read).scn.substituting = p.scn.substituting ∧
    (p.hostAccessFailure read).scn.substDue = p.scn.substDue ∧
    (p.hostAccessFailure read).lpc.updating = p.lpc.updating := by
  unfold Part.hostAccessFailure Part.failTransfer
  (repeat' split) <;> simp

@[simp] theorem Part.stopExchange_claims (p : Part) :
    p.stopExchange.scn.substituting = p.scn.substituting ∧ p.stopExchange.scn.substDue = p.scn.substDue ∧
    p.stopExchange.lpc.updating = p.lpc.updating := by
  simp only [Part.stopExchange, Part.stopLane]
  split <;> simp

end Sys2Proof.Machine
end

section
/-! SUPPORT. The law of the slots (O55), continued: admission, seals, updates and discards, which move slots and what claims them. -/

namespace Sys2Proof.Machine

/-! ## One slot -/

/-- A slot's record is replaced. -/
theorem Part.modSlot_standing (i : SlotIx) (g : AsmSlot → AsmSlot) (p : Part) :
    (p.modSlot i g).standing = p.standing.put i (g (p.slot i)).facts := by
  have h : (fun k => ((p.modSlot i g).slot k).facts) = fun k => if k = i then (g (p.slot i)).facts else (p.slot k).facts := by
    funext k
    split
    · next hk => rw [hk, Part.modSlot_slot]
    · next hk => rw [Part.modSlot_slot_other _ _ _ _ hk]
  exact congrArg (fun f => { p.standing with slot := f }) h

/-- A change of a slot's record beside its state, its seal kind and its frame. -/
theorem Part.SlotLaw.modSlot {p : Part} (h : p.SlotLaw) (i : SlotIx) (g : AsmSlot → AsmSlot)
    (hg : (g (p.slot i)).facts = (p.slot i).facts) : (p.modSlot i g).SlotLaw :=
  h.of_standing (by rw [Part.modSlot_standing, hg]; exact p.standing.put_self i)

/-! ## Admission (R24 to R30) -/

theorem Part.SlotLaw.sealCause {p : Part} (h : p.SlotLaw) (i : SlotIx) : (p.sealCause i).SlotLaw := by
  unfold Part.sealCause
  split
  · exact (h.modSlot _ _ rfl).modSlot _ _ rfl
  · exact h.modSlot _ _ rfl

theorem Part.SlotLaw.admitTo {p : Part} (h : p.SlotLaw) (i : SlotIx) (seg : Segment) : (p.admitTo i seg).SlotLaw := by
  have hjoin : (p.enqueue i seg).SlotLaw := Part.SlotLaw.of_same (h.modSlot i (fun x =>
    { x with received := x.received.set seg.link (x.received.get seg.link ++ [seg.index]) }) rfl) ⟨rfl, rfl, rfl, rfl, rfl⟩
  unfold Part.admitTo Part.judgeComplete
  (repeat' split)
  · exact h.of_same (by simp)
  · exact h.of_same (by simp)
  · exact hjoin.sealCause i
  · exact hjoin

/-- What an opening leaves of the standing: the slot's facts are new, and nothing claims it. -/
theorem Part.openFrame_standing (i : SlotIx) (f : Serial) (p : Part) :
    (p.openFrame i f).standing = p.standing.put i ⟨.assembling, false, f⟩ := by
  obtain ⟨hscn, hrca⟩ := Part.openFrame_resets i f p
  have hslot : (fun k => ((p.openFrame i f).slot k).facts) =
      fun k => if k = i then ⟨.assembling, false, f⟩ else (p.slot k).facts := by
    funext k
    rcases eq_or_eq_other i k with rfl | rfl
    · simp [Part.openedSlot, AsmSlot.cleared, AsmSlot.facts]
    · simp [other_ne]
  simp only [Part.standing, hslot, hscn, hrca, Part.openCommits_scn, Part.openFrame_keeps]
  rfl

/-- A frame opens in a slot that was FREE, and is newer than that of the other slot in use, hence another (R26). -/
theorem Part.SlotLaw.openFrame {p : Part} (h : p.SlotLaw) {i : SlotIx} {f : Serial} (hfree : (p.slot i).state = .free)
    (hnew : (p.slot (other i)).state ≠ .free → f ≠ (p.slot (other i)).frame) : (p.openFrame i f).SlotLaw := by
  have hlaw := p.slotLaw_iff.mp h
  have hstate : (p.standing.slot i).state = .free := hfree
  have hun : p.standing.Unclaimed i := hlaw.unclaimed (fun hs => by simp [hs.1] at hstate) (by simp [hstate])
  rw [Part.slotLaw_iff, Part.openFrame_standing]
  exact hlaw.put hun _ fun _ => hnew

/-- A frame is not newer than itself. -/
theorem newer_ne {x y : Serial} (h : newer x y = true) : x ≠ y := by
  rintro rfl; simp [newer] at h

theorem Part.SlotLaw.admitNew {p : Part} (h : p.SlotLaw) (seg : Segment) : (p.admitNew seg).SlotLaw := by
  unfold Part.admitNew
  split
  · next hopen =>
    obtain ⟨-, hslots, -⟩ := (p.mayOpen_iff seg).mpr hopen
    split
    · next i hi =>
      have hfree : (p.slot i).state = .free := by simpa [AsmSlot.inUse] using List.find?_some hi
      exact (h.openFrame hfree fun ho => newer_ne (hslots _ ho)).admitTo i seg
    · exact h.of_same (by simp)
  · exact h.of_same (by simp)

theorem Part.SlotLaw.admitSegment {p : Part} (h : p.SlotLaw) : p.admitSegment.SlotLaw := by
  have htake (i : LinkIx) : (p.takeHead i).SlotLaw := h.of_same ⟨rfl, rfl, rfl, rfl, rfl⟩
  unfold Part.admitSegment Part.placeSegment
  (repeat' split)
  · exact h
  · exact h
  · exact h
  · exact (htake _).admitTo _ _
  · exact (htake _).admitNew _

theorem Part.SlotLaw.deadlineExpiry {p : Part} (h : p.SlotLaw) (i : SlotIx) : (p.deadlineExpiry i).SlotLaw := by
  unfold Part.deadlineExpiry
  split
  · exact Part.SlotLaw.sealCause (h.of_same (by simp)) i
  · exact h

/-! ## The conditioner's work (R51 to R57, R65) -/

theorem Scn.substituting_of_job {c : Scn} {j : ScnJob} (hj : c.job = some j) :
    c.substituting = if j.kind = .substitution then some j.slot else none := by
  simp [Scn.substituting, hj, Option.filter, apply_ite (Option.map ScnJob.slot)]

theorem Scn.substituting_of_none {c : Scn} (hj : c.job = none) : c.substituting = none := by simp [Scn.substituting, hj]

/-- Visits change neither the slot that the conditioner works for nor the one that waits. -/
@[simp] theorem Scn.goOn_work (c : Scn) : c.goOn.substituting = c.substituting ∧ c.goOn.substDue = c.substDue := by
  rcases c.goOn_cases with h | ⟨j, n, hj, -, -, h⟩
  · rw [h]; exact ⟨rfl, rfl⟩
  · rw [h, Scn.substituting_of_job hj, Scn.substituting_of_job rfl]; exact ⟨rfl, rfl⟩

@[simp] theorem Scn.takeUp_work (kind : JobKind) (i : SlotIx) (visits : List Visit) (c : Scn) :
    (c.takeUp kind i visits).substituting = (if kind = .substitution then some i else none) ∧
    (c.takeUp kind i visits).substDue = c.substDue := by
  simp [Scn.takeUp, Scn.substituting_of_job (j := ⟨kind, i, visits, []⟩)]

/-- Substitution takes the conditioner for a slot, or ends at once and is followed by extraction (R54, R65). -/
theorem Part.startSubstitution_standing (i : SlotIx) (p : Part) :
    (p.startSubstitution i).standing = { p.standing with waiting := none, substituting := some i } ∨
    (p.startSubstitution i).standing = { p.standing with waiting := none, substituting := none, extracting := some i } := by
  unfold Part.startSubstitution
  dsimp only
  split
  · exact .inr (by simp [Part.standing, Part.slot, Scn.substituting, Part.beginExtraction])
  · exact .inl (by simp [Part.standing, Part.slot])

/-- A decided seal that is not extracted goes on to its substitution. -/
theorem Part.SlotLaw.startSubstitution {p : Part} (h : p.SlotLaw) {i : SlotIx} (hs : p.standing.sealing i)
    (he : p.standing.extracting ≠ some i) : (p.startSubstitution i).SlotLaw := by
  have hless : Standing.Law { p.standing with waiting := none, substituting := none } :=
    (p.slotLaw_iff.mp h).claimLess (fun _ hi => hi) (by simp) (by simp) (fun _ hi => hi)
  rw [Part.slotLaw_iff]
  rcases p.startSubstitution_standing i with hq | hq
  · rw [hq]; exact hless.substitute hs he (by simp)
  · rw [hq]; exact hless.extract hs (by simp) (by simp)

/-- The conditioner is let go. -/
theorem Part.SlotLaw.dropJob {p : Part} (h : p.SlotLaw) : (p.modScn fun c => { c with job := none }).SlotLaw :=
  (Part.slotLaw_iff _).mpr ((p.slotLaw_iff.mp h).claimLess (fun _ hi => hi) (fun _ hi => by simp [Scn.substituting] at hi)
    (fun _ hi => hi) fun _ hi => hi)

theorem Part.SlotLaw.leaveQueue {p : Part} (h : p.SlotLaw) : p.leaveQueue.SlotLaw := by
  have hq : ((p.modFra fun f => { f with queue := f.queue.tail }).modScn fun c => { c with job := none }).SlotLaw :=
    Part.SlotLaw.dropJob (h.of_same ⟨rfl, rfl, rfl, rfl, rfl⟩)
  unfold Part.leaveQueue
  dsimp only
  split
  · exact hq
  · next i hi =>
    obtain ⟨hs, he, -⟩ := ((Part.slotLaw_iff _).mp hq).waiting i hi
    exact hq.startSubstitution hs he

theorem Part.SlotLaw.entryEnd {p : Part} (h : p.SlotLaw) : p.entryEnd.SlotLaw := by
  unfold Part.entryEnd
  (repeat' split)
  · exact h
  · exact h.leaveQueue
  · exact h

theorem Part.SlotLaw.processEntry {p : Part} (h : p.SlotLaw) : p.processEntry.SlotLaw := by
  unfold Part.processEntry
  (repeat' split)
  · exact h
  · next hfree =>
    have hjob : p.scn.job = none := by simp [Scn.free] at hfree; exact hfree.1
    exact Part.SlotLaw.entryEnd (h.of_same (by simp [Scn.substituting_of_none hjob]))
  · exact h

theorem Part.SlotLaw.handOnValue {p : Part} (h : p.SlotLaw) : p.handOnValue.SlotLaw := by
  unfold Part.handOnValue
  split
  · next kind i rest j c todo hjob =>
    split
    · have hgo : (p.modScn fun x => Scn.goOn { x with job := some ⟨kind, i, rest, todo⟩ }).SlotLaw :=
        h.of_same (by simp [Scn.substituting_of_job hjob, Scn.substituting_of_job (j := ⟨kind, i, rest, todo⟩)])
      refine Part.SlotLaw.entryEnd (hgo.of_same ?_)
      unfold Part.streamValue
      split <;> simp
    · exact h
  · exact h
  · exact h

theorem Part.SlotLaw.columnBurstArrival {p : Part} (h : p.SlotLaw) : p.columnBurstArrival.SlotLaw := by
  unfold Part.columnBurstArrival
  split
  · dsimp only
    split
    · exact h.of_same (by simp)
    · exact Part.SlotLaw.entryEnd (h.of_same ⟨rfl, rfl, rfl, rfl, rfl⟩)
  · exact h
  · exact h
  · exact h

theorem Part.SlotLaw.substitutionEnd {p : Part} (h : p.SlotLaw) : p.substitutionEnd.SlotLaw := by
  unfold Part.substitutionEnd
  split
  · exact h
  · next j hj =>
    split
    · next hend =>
      have hlaw := p.slotLaw_iff.mp h
      have hkind : j.kind = .substitution := by simp at hend; exact hend.1
      have hsub : p.standing.substituting = some j.slot := (p.scn.substituting_eq_some _).mpr ⟨j, hj, hkind, rfl⟩
      obtain ⟨hs, -⟩ := hlaw.substituting _ hsub
      have hfree := (Part.slotLaw_iff _).mp h.dropJob
      exact (Part.slotLaw_iff _).mpr
        (hfree.extract hs (by simp [Part.standing, Scn.substituting]) fun hw => (hlaw.waiting _ hw).2.2 hsub)
    · exact h

theorem Part.SlotLaw.extractionEnd {p : Part} (h : p.SlotLaw) : p.extractionEnd.SlotLaw := by
  unfold Part.extractionEnd
  split
  · exact h
  · next i hi =>
    have hlaw := p.slotLaw_iff.mp h
    obtain ⟨hs, -⟩ := hlaw.extracting i hi
    have hless : Standing.Law { p.standing with extracting := none } :=
      hlaw.claimLess (by simp) (fun _ hk => hk) (fun _ hk => hk) fun _ hk => hk
    have hun : Standing.Unclaimed { p.standing with extracting := none } i :=
      ⟨by simp, fun hc => (hlaw.substituting i hc).2 hi, fun hc => (hlaw.waiting i hc).2.1 hi,
        fun hc => by simp [hlaw.updating i hc] at hs⟩
    rw [Part.slotLaw_iff, Part.endExtraction, Part.modSlot_standing]
    exact hless.putState hun (by simp [hs]) .sealed

/-! ## The seal decision (R33 to R37) -/

theorem Part.SlotLaw.takeHold {p : Part} (h : p.SlotLaw) (c : HoldCause) : (p.takeHold c).SlotLaw := h.of_same (by simp)

/-- A decision records the seal's kind, and claims nothing (R33). -/
theorem Part.recordDecision_standing (i : SlotIx) (kind : SealKind) (p : Part) :
    (p.recordDecision i kind).standing = p.standing.put i { p.standing.slot i with decided := true } := by
  have hcount : (p.countIncomplete i).standing = p.standing := by simp [Part.standing, Part.slot]
  have hmod := Part.modSlot_standing i (fun x => { x with sealKind := some kind, sealTime := p.now }) (p.countIncomplete i)
  rw [hcount] at hmod
  refine Eq.trans ?_ (hmod.trans ?_)
  · rfl
  · simp [AsmSlot.facts, Part.standing, Part.slot]

/-- An abandoned frame's slot, which nothing claims, is FREE (R35). -/
theorem Part.SlotLaw.abandonFrame {p : Part} (h : p.SlotLaw) {i : SlotIx} (hun : p.standing.Unclaimed i)
    (huse : (p.slot i).state ≠ .free) : (p.abandonFrame i).SlotLaw := by
  have hfree : (((p.clearAccumulators i).modSlot i fun x => { x with state := .free, sealing := false })).SlotLaw := by
    rw [Part.slotLaw_iff, Part.modSlot_standing]
    exact (p.slotLaw_iff.mp h).putState hun huse .free
  have hrecord : (((((p.clearAccumulators i).modSlot i fun x => { x with state := .free, sealing := false }).submitRecord
      (p.abandonedRecord i)).modFra fun f => { f with abandons := min 255 (f.abandons + 1) })).SlotLaw :=
    hfree.of_same (by simp)
  unfold Part.abandonFrame
  dsimp only
  split
  · exact hrecord.takeHold _
  · exact hrecord

/-- A decided seal that nothing claims goes on (R34, R54). -/
theorem Part.SlotLaw.continueSeal {p : Part} (h : p.SlotLaw) {i : SlotIx} (hs : p.standing.sealing i)
    (hun : p.standing.Unclaimed i) : (p.continueSeal i).SlotLaw := by
  have hq : (p.modFra fun f => { f with abandons := 0 }).SlotLaw := h.of_same ⟨rfl, rfl, rfl, rfl, rfl⟩
  unfold Part.continueSeal
  dsimp only
  split
  · exact (Part.slotLaw_iff _).mpr (((Part.slotLaw_iff _).mp hq).await hs hun.extracting hun.substituting)
  · exact hq.startSubstitution hs hun.extracting

theorem Part.SlotLaw.sealDecision {p : Part} (h : p.SlotLaw) : p.sealDecision.SlotLaw := by
  unfold Part.sealDecision
  split
  · exact h
  · next i hi =>
    have hlaw := p.slotLaw_iff.mp h
    obtain ⟨hstate, hnone⟩ : (p.slot i).state = .assembling ∧ (p.slot i).sealKind = none := by
      have hd : p.drained i = true := by simpa using List.find?_some hi
      simp [Part.drained, AsmSlot.inSeal] at hd
      exact ⟨hd.1.1.1.1, hd.1.1.2⟩
    have hun : p.standing.Unclaimed i :=
      hlaw.unclaimed (fun hs => by simp [Standing.sealing, Part.standing, AsmSlot.facts, hnone] at hs)
        (by simp [Part.standing, AsmSlot.facts, hstate])
    have hdecided (kind : SealKind) : (p.recordDecision i kind).SlotLaw ∧ (p.recordDecision i kind).standing.Unclaimed i ∧
        (p.recordDecision i kind).standing.sealing i := by
      rw [Part.slotLaw_iff, Part.recordDecision_standing]
      exact ⟨hlaw.decide i, ⟨hun.extracting, hun.substituting, hun.waiting, hun.updating⟩,
        ⟨by simp only [Standing.put, if_true]; exact hstate, by simp [Standing.put]⟩⟩
    unfold Part.decideSeal
    split
    · obtain ⟨hq, hqun, hqs, -⟩ := hdecided .abandoned
      exact hq.abandonFrame hqun (by rw [show (Part.slot _ i).state = _ from hqs]; decide)
    · obtain ⟨hq, hqun, hqs⟩ := hdecided .complete
      exact hq.continueSeal hqs hqun
    · obtain ⟨hq, hqun, hqs⟩ := hdecided .partialSeal
      exact hq.continueSeal hqs hqun
    · exact h

/-! ## Updates (R110 to R120) -/

/-- The slot of an update that ends is FREE, and no update runs (R120). -/
theorem Part.SlotLaw.freeUpdated {p : Part} (h : p.SlotLaw) {i : SlotIx} (hi : (p.slot i).state = .updating) :
    ((p.modSlot i fun x => { x with state := .free }).modLpc fun l => { l with update := none }).SlotLaw := by
  have hlaw := p.slotLaw_iff.mp h
  have hstate : (p.standing.slot i).state = .updating := hi
  have hless : Standing.Law { p.standing with updating := none } :=
    hlaw.claimLess (fun _ hk => hk) (fun _ hk => hk) (fun _ hk => hk) (by simp)
  have hns : ¬ p.standing.sealing i := fun hs => by simp [hs.1] at hstate
  have hun : Standing.Unclaimed { p.standing with updating := none } i :=
    ⟨fun hc => hns (hlaw.extracting i hc), fun hc => hns (hlaw.substituting i hc).1, fun hc => hns (hlaw.waiting i hc).1,
      by simp⟩
  have hst := Part.modSlot_standing i (fun x => { x with state := .free }) (p.modLpc fun l => { l with update := none })
  exact (Part.slotLaw_iff _).mpr (hst ▸ hless.putState hun (by simp [hstate]) .free)

theorem Part.SlotLaw.endUpdate {p : Part} (h : p.SlotLaw) {i : SlotIx} (hi : (p.slot i).state = .updating) (g : Geometry)
    (u : UpdateReport) (ramp : Bool) : (p.endUpdate i g u ramp).SlotLaw := by
  have hfill : (p.fillSnapshot i g ramp).SlotLaw := h.of_same (by simp)
  have hfilled : ((p.fillSnapshot i g ramp).slot i).state = .updating := by simpa [Part.slot] using hi
  unfold Part.endUpdate
  cases p.sns.capturePending
  · exact (h.freeUpdated hi).of_same (by simp)
  · exact (hfill.freeUpdated hfilled).of_same (by simp)

/-- An update begins on a SEALED slot, and ends with the step or stays UPDATING (R110 to R117). -/
theorem Part.SlotLaw.beginUpdate {p : Part} (h : p.SlotLaw) {i : SlotIx} (hi : (p.slot i).state = .sealed) :
    (p.beginUpdate i).SlotLaw := by
  have hstate : (p.standing.slot i).state = .sealed := hi
  have hun : p.standing.Unclaimed i :=
    (p.slotLaw_iff.mp h).unclaimed (fun hs => by simp [hs.1] at hstate) (by simp [hstate])
  have hq : (p.modSlot i fun x => { x with state := .updating }).SlotLaw := by
    rw [Part.slotLaw_iff, Part.modSlot_standing]
    exact (p.slotLaw_iff.mp h).putState hun (by simp [hstate]) .updating
  have hslot : ((p.modSlot i fun x => { x with state := .updating }).slot i).state = .updating := by simp
  unfold Part.beginUpdate
  generalize p.modSlot i (fun x => { x with state := .updating }) = q at hq hslot
  dsimp only
  split
  · have hcommit : q.commitActuatorSide.SlotLaw := hq.of_same (by simp)
    have hcslot : (q.commitActuatorSide.slot i).state = .updating := by simpa [Part.slot] using hslot
    have hcount (n : Nat) : (q.commitActuatorSide.modLpc fun l => { l with divCount := n }).SlotLaw :=
      hcommit.of_same ⟨rfl, rfl, rfl, rfl, rfl⟩
    unfold Part.fullUpdate
    dsimp only
    split
    · exact ((hcount _).takeHold _).endUpdate (by simpa [Part.slot] using hslot) _ _ _
    · exact (Part.slotLaw_iff _).mpr (((Part.slotLaw_iff _).mp (hcount _)).update hcslot)
  · exact hq.endUpdate hslot _ _ _

theorem Part.SlotLaw.updateBegin {p : Part} (h : p.SlotLaw) : p.updateBegin.SlotLaw := by
  unfold Part.updateBegin
  split
  · exact h
  · split
    · exact h
    · next i hi => exact h.beginUpdate (by simpa using List.find?_some hi)

theorem Part.SlotLaw.sendPoint {p : Part} (h : p.SlotLaw) : p.sendPoint.SlotLaw := by
  unfold Part.sendPoint
  split
  · exact h
  · next u hu =>
    have hslot := h.updating u hu
    split
    · have hv : (p.putVector u.shaped).SlotLaw := h.of_same ⟨rfl, rfl, rfl, rfl, rfl⟩
      exact Part.SlotLaw.endUpdate (hv.of_same (by simp)) (by simpa [Part.slot] using hslot) _ _ _
    · exact h.endUpdate hslot _ _ _

/-! ## The loop orders (R95 to R101) -/

theorem Part.SlotLaw.loopOpenOrder {p : Part} (h : p.SlotLaw) : p.loopOpenOrder.2.SlotLaw := by
  have ho : p.openLoop.SlotLaw := h.of_same (by
    simp [Part.openLoop, Part.restartAssembly, Part.startGapTimer]; rfl)
  unfold Part.loopOpenOrder
  (repeat' split)
  · exact h
  · exact h
  · exact ho
  · exact h
  · exact ho

theorem Part.SlotLaw.resumeOrder {p : Part} (h : p.SlotLaw) : p.resumeOrder.2.SlotLaw := by
  unfold Part.resumeOrder
  (repeat' split)
  · exact h
  · exact h
  · exact h.of_same (by simp [Part.resumeLoop, Part.restartAssembly, Part.startGapTimer]; rfl)

/-- A slot that is discarded was ASSEMBLING or SEALED, and nothing claims it afterwards (R41, R57, R71). -/
theorem Part.SlotLaw.discards {p t : Part} (h : p.SlotLaw) (hd : p.Discards (fun k => (p.slot k).discardable) t) :
    t.SlotLaw := by
  have hkept {k : SlotIx} (hk : (p.slot k).discardable = false) : t.slot k = p.slot k := by
    rw [hd.slot, hk]; rfl
  have huse {k : SlotIx} (hk : (t.slot k).inUse = true) : t.slot k = p.slot k := by
    refine hkept ((Bool.not_eq_true _).mp fun hdk => ?_)
    simp [hd.slot, hdk, AsmSlot.freed, AsmSlot.inUse] at hk
  have hlpc : t.lpc = p.lpc := hd.rest .lpc (by decide)
  have hex {k : SlotIx} : t.rca.extracting = some k ↔ p.rca.extracting = some k ∧ (p.slot k).discardable = false := by
    simp [hd.extracting, Option.filter_eq_some_iff]
  have hjob {j : ScnJob} : t.scn.job = some j ↔ p.scn.job = some j ∧ (p.slot j.slot).discardable = false := by
    simp [hd.scn, Option.filter_eq_some_iff]
  have hdue {k : SlotIx} : t.scn.substDue = some k ↔ p.scn.substDue = some k ∧ (p.slot k).discardable = false := by
    simp [hd.scn, Option.filter_eq_some_iff]
  refine ⟨fun h0 h1 => ?_, fun k hk => ?_, fun j hj hs => ?_, fun k hk => ?_, fun u hu => ?_⟩
  · have e0 := huse h0
    have e1 := huse h1
    rw [e0] at h0 ⊢
    rw [e1] at h1 ⊢
    exact h.distinct h0 h1
  · obtain ⟨hp, hn⟩ := hex.mp hk
    rw [hkept hn]
    exact h.extracting k hp
  · obtain ⟨hp, hn⟩ := hjob.mp hj
    obtain ⟨h1, h2, h3⟩ := h.substituting j hp hs
    rw [hkept hn]
    exact ⟨h1, h2, fun he => h3 (hex.mp he).1⟩
  · obtain ⟨hp, hn⟩ := hdue.mp hk
    obtain ⟨h1, h2, h3, h4⟩ := h.waiting k hp
    rw [hkept hn]
    exact ⟨h1, h2, fun he => h3 (hex.mp he).1, fun j hj => h4 j (hjob.mp hj).1⟩
  · have hst := h.updating u (hlpc ▸ hu)
    rw [hkept (by simp [AsmSlot.discardable, hst])]
    exact hst

theorem Part.SlotLaw.loopStopOrder {p : Part} (h : p.SlotLaw) : p.loopStopOrder.2.SlotLaw := by
  unfold Part.loopStopOrder
  split
  · exact h
  · have hput : (p.putLoop .stopped).SlotLaw := h.of_same (by simp)
    have hdis := hput.discards (Part.discardAll_discards _)
    exact hdis.of_same (by simp [Part.stopLoop]; exact p.putLoop_updating .stopped)

end Sys2Proof.Machine
end

section
/-! SUPPORT. The law of the slots (O55), continued: the orders and the commands. -/

namespace Sys2Proof.Machine

/-! ## Resets and registers (R43, R151) -/

/-- With every slot FREE and nothing in progress the law holds. -/
theorem Part.SlotLaw.of_cleared {p : Part} (hslots : p.fra.slots = .both .cleared) (hex : p.rca.extracting = none)
    (hjob : p.scn.job = none) (hdue : p.scn.substDue = none) (hup : p.lpc.update = none) : p.SlotLaw where
  distinct h0 _ := by simp [Part.slot, hslots, AsmSlot.cleared, AsmSlot.inUse] at h0
  extracting i hi := by simp [hex] at hi
  substituting j hj := by simp [hjob] at hj
  waiting i hi := by simp [hdue] at hi
  updating u hu := by simp [hup] at hu

theorem Part.SlotLaw.partReset (p : Part) : p.partReset.SlotLaw := Part.SlotLaw.of_cleared rfl rfl rfl rfl rfl

theorem Part.SlotLaw.controlWrite {p : Part} (h : p.SlotLaw) (exchEn reset : Bool) :
    (p.controlWrite exchEn reset).SlotLaw := by
  unfold Part.controlWrite
  (repeat' split)
  · exact Part.SlotLaw.partReset p
  · exact h.of_same (by simp)
  · exact h.of_same (by simp)
  · exact h

theorem Part.SlotLaw.registerWrite {p : Part} (h : p.SlotLaw) (offset : BitVec 12) (count : Nat) (value : BitVec 32) :
    (p.registerWrite offset count value).SlotLaw := by
  unfold Part.registerWrite Part.wholeWrite
  (repeat' split)
  · exact h
  · exact h.controlWrite _ _
  · exact h.of_same (by simp)
  · exact h.of_same (by simp)
  · exact h.of_same (by simp)
  · exact h.of_same (by simp)
  · exact h

/-! ## Orders (R158, R159) -/

theorem Part.SlotLaw.finishWith {x : OrderResult × Part} (h : x.2.SlotLaw) (ref : OrderRef) :
    (Part.finishWith ref x).SlotLaw := h.of_same (by simp)

/-- Of the orders, LOOP_STOP alone moves a slot. -/
theorem Part.SlotLaw.carryOut {p : Part} (h : p.SlotLaw) (o : Order) (ref : OrderRef) : (p.carryOut o ref).SlotLaw := by
  cases o with
  | loopOpen => exact h.loopOpenOrder.finishWith ref
  | loopStop => exact h.loopStopOrder.finishWith ref
  | resume => exact h.resumeOrder.finishWith ref
  | setLoop q => exact Part.SlotLaw.finishWith (h.of_same ⟨rfl, rfl, rfl, rfl, rfl⟩) ref
  | swapMatrix target => exact h.of_same (by simp [Part.carryOut])
  | mirrorProbe mirror => exact h.of_same (by simp [Part.carryOut])
  | loadMatrix | readBack | loadTable | applyShape | copySnapshot => exact h.of_same (by simp [Part.carryOut])
  | unknownKind code => exact h.of_same (by simp [Part.carryOut])
  | _ => exact Part.SlotLaw.finishWith (h.of_same (by simp)) ref

theorem Part.SlotLaw.takeOrder {p : Part} (h : p.SlotLaw) (o : Order) (ref : OrderRef) : (p.takeOrder o ref).SlotLaw :=
  Part.SlotLaw.carryOut (h.of_same (by simp)) o ref

theorem Part.SlotLaw.orderCommand {p : Part} (h : p.SlotLaw) (head : OrderHead) (o : Order) :
    (p.orderCommand head o).SlotLaw := by
  rcases p.orderCommand_cases head o with ⟨-, hc⟩ | ⟨-, hc⟩
  · rwa [hc]
  · rw [hc]; exact h.takeOrder _ _

/-- The losers of a ticket are refused one after the other (R158). -/
theorem Part.SlotLaw.loseDuplicates {p : Part} (h : p.SlotLaw) (losers : List PostedSlot) :
    (losers.foldl (fun y l => y.loseDuplicate l) p).SlotLaw := by
  induction losers generalizing p with
  | nil => exact h
  | cons l rest ih => exact ih (h.of_same (by simp))

theorem Part.SlotLaw.takeOrders {p : Part} (h : p.SlotLaw) (n : Nat) (eligible : List PostedSlot) :
    (Part.takeOrders n eligible p).SlotLaw := by
  induction n generalizing p eligible with
  | zero => exact h
  | succ n ih =>
    simp only [Part.takeOrders]
    split
    · exact h
    · split
      · exact h.loseDuplicates _
      · exact ih ((h.loseDuplicates _).takeOrder _ _) _

theorem Part.SlotLaw.sweepReadCompletion {p : Part} (h : p.SlotLaw) (consumed : BitVec 32) (slots : List (List Byte)) :
    (p.sweepReadCompletion consumed slots).SlotLaw := by
  unfold Part.sweepReadCompletion
  dsimp only
  split
  · have hq : (p.acceptConsumed consumed).SlotLaw := h.of_same (by simp)
    exact (hq.takeOrders 32 ((p.acceptConsumed consumed).eligibleSlots slots)).of_same (by simp)
  · exact h

/-! ## The commands -/

theorem Part.SlotLaw.frameGapExpiry {p : Part} (h : p.SlotLaw) : p.frameGapExpiry.SlotLaw := by
  unfold Part.frameGapExpiry
  split
  · exact h
  · exact Part.SlotLaw.takeHold (h.of_same (by simp)) _

/-- Every command keeps the law: those that move a slot or what claims it by their own lemmas, an order's by what the order does, and
the others because the standing of the slots is as before. -/
theorem Part.SlotLaw.after {p : Part} (h : p.SlotLaw) (c : Instr) : (p.after c).SlotLaw := by
  cases c with
  | powerOn => exact Part.SlotLaw.of_cleared rfl rfl rfl rfl rfl
  | partReset | functionLevelReset => exact Part.SlotLaw.partReset p
  | exchEnStart | exchEnStop => exact h.controlWrite _ _
  | registerWriteIgnored offset count v => exact h.registerWrite offset count v
  | admitSegment => exact h.admitSegment
  | deadlineExpiry k => exact h.deadlineExpiry k
  | processEntry => exact h.processEntry
  | handOnValue => exact h.handOnValue
  | columnBurstArrival => exact h.columnBurstArrival
  | sealDecision => exact h.sealDecision
  | substitutionEnd => exact h.substitutionEnd
  | extractionEnd => exact h.extractionEnd
  | frameGapExpiry => exact h.frameGapExpiry
  | updateBegin => exact h.updateBegin
  | sendPoint => exact h.sendPoint
  | sweepReadCompletion consumed slots => exact h.sweepReadCompletion consumed slots
  | exchBaseLoWrite | exchBaseHiWrite | eventsWrite | eventMaskWrite | timeLoRead | segmentArrival | quietTimerExpiry
  | arbiterGrant | mirrorPacketArrival | packetTransmitEnd | receiptTimerExpiry | sweepTimerExpiry | hostAccessFailure
  | transferStart | hostReadCompletion | loaderBurstComplete | readerBurstComplete | confirmingReadCompletion
  | hostWriteRequest | interlockEdge | snapEdge | markEdge | periodStart | pulseEnd | lineSample =>
    exact h.of_same (by simp [Part.after])
  | _ => exact h.orderCommand _ _

end Sys2Proof.Machine

namespace Sys2Proof.Proofs

open Sys2Proof.Machine

/-- Settles O55: a frame opens in a FREE slot and is newer than that of the other slot in use, and what claims a slot keeps it in
the state that its claim asks for. -/
theorem slotLawKept : Obligations.SlotLawKept := kept_of_after (fun _ h => h.of_same (by simp)) fun _ c h => h.after c

end Sys2Proof.Proofs
end

section
/-! SUPPORT. The setting orders (O40): an order that is answered in the step that takes it, and the values that these orders store. -/

namespace Sys2Proof.Machine

/-! ## Orders that are answered at once (R158, R163) -/

/-- The command of a control order whose slot is ready takes the order and carries it out. -/
theorem exec_control {s : State} {h : OrderHead} {o : Order} {c : Instr} (hc : s.part.after c = s.part.orderCommand h o)
    (hr : s.part.readyFor h) (ho : isBulk o = false) :
    exec c s = .next { s with part := (orderTaken s.part h).carryOut o (s.part.orderRef h o) } := by
  rw [exec_eq_after, hc, Part.orderCommand_ready hr ho]

/-- An order is answered that changes some blocks, and of the exchange unit what its result does not rest on. -/
theorem Part.answered_of_xu {p q : Part} {h : OrderHead} {changed : List Block} {x : Xu}
    (hq : q.sameBut (orderTaken p h) (.xu :: changed)) (htlu : .tlu ∉ changed) (hissued : .issued ∉ changed)
    (hxu : q.xu = { x with nextTicket := p.xu.nextTicket + 1 }) (hbase : x.base = p.xu.base)
    (hmem : x.memRequests = p.xu.memRequests) (hmsi : x.msiEnabled = p.xu.msiEnabled) (o : Order) (r : OrderResult) :
    p.Answered h r x p.tlu changed (q.finish (p.orderRef h o) r) := by
  obtain ⟨hft, hfi⟩ := q.finish_orderFinished (p.orderRef h o) r
  have hsame := q.finish_sameBut (p.orderRef h o) r
  have hqt : q.tlu = p.tlu := hq .tlu (by simpa using htlu)
  have hqi : q.issued = (orderTaken p h).issued := hq .issued (by simpa using hissued)
  have hs : q.signal .orderFinished = p.signal .orderFinished :=
    Part.signal_congr _ (by rw [hqt]) (by rw [hqt]) (by rw [hxu, ← hmem]) (by rw [hxu, ← hmsi])
  have hw : resultWrites q h r = resultWrites p h r :=
    resultWrites_congr h r (by rw [hxu, ← hbase]) (by rw [hxu, ← hmem]) (by rw [hqt])
  have hp : (orderTaken p h).sameBut p [.xu, .issued] := by simp [Part.sameBut_iff]
  refine ⟨(hsame .xu (by decide)).trans hxu, ?_, ?_, ?_⟩
  · rw [hft, hqt]; rfl
  · rw [hfi, hqi, headOf_orderRef, hw, hs, orderTaken_report]
  · exact (hsame.mono (l' := .xu :: .tlu :: .issued :: changed) (by simp)).trans
      ((hq.mono (l' := .xu :: .tlu :: .issued :: changed) (by simp +contextual)).trans (hp.mono (by simp)) (by simp)) (by simp)

/-- An order is answered that changes no more than some blocks beside the exchange unit, the TLU and what is issued. -/
theorem Part.answered_of_sameBut {p q : Part} {h : OrderHead} {changed : List Block} (hq : q.sameBut (orderTaken p h) changed)
    (hxu : .xu ∉ changed) (htlu : .tlu ∉ changed) (hissued : .issued ∉ changed) (o : Order) (r : OrderResult) :
    p.Answered h r p.xu p.tlu changed (q.finish (p.orderRef h o) r) :=
  Part.answered_of_xu (hq.mono fun _ => List.mem_cons_of_mem _) htlu hissued (hq .xu hxu) rfl rfl rfl o r

/-- An order that is refused at once changes no block. -/
theorem Part.answered_refused (p : Part) (h : OrderHead) (o : Order) (r : OrderResult) :
    p.Answered h r p.xu p.tlu [] ((orderTaken p h).finish (p.orderRef h o) r) :=
  Part.answered_of_sameBut (by simp [Part.sameBut_iff]) (by simp) (by simp) (by simp) o r

/-! ## The gains shadow (R105, R108) -/

/-- The gains shadow waits for a commit, or commits at once in a stopped loop (R105, R108). -/
theorem Part.writeGains_lpc (m : MirrorIx) (x : Gains) (p : Part) :
    (p.writeGains m x).lpc =
      if p.lpc.loop = .stopped then
        { p.lpc with
          gainShadow := p.lpc.writableGains.set m x
          gainLive := p.lpc.writableGains.set m x
          gainWaiting := false }
      else { p.lpc with gainShadow := p.lpc.writableGains.set m x, gainWaiting := true } := by
  unfold Part.writeGains Part.gainsWait
  dsimp only
  split
  · next hl => exact (if_pos (show p.lpc.loop = .stopped from hl)).symm
  · next hl => exact (if_neg (show ¬ p.lpc.loop = .stopped from hl)).symm

end Sys2Proof.Machine

namespace Sys2Proof.Proofs

open Sys2Proof.Machine

/-- SET_LOOP (O40's first part). -/
theorem loopValuesStored_holds : loopValuesStored := by
  intro s h q hready w a g d
  have hadj : (outside 20 20000 q.windowUs.toNat || outside 1 255 q.abandonLimit.toNat || outside 1 1000 q.gapMs.toNat ||
      outside 1 255 q.divergenceLimit.toNat) = decide (q.windowUs.toNat ≠ w ∨ q.abandonLimit.toNat ≠ a ∨
        q.gapMs.toNat ≠ g ∨ q.divergenceLimit.toNat ≠ d) := by
    simp only [outside_eq _ _ _ (show 20 ≤ 20000 by decide), outside_eq _ _ _ (show 1 ≤ 255 by decide),
      outside_eq _ _ _ (show 1 ≤ 1000 by decide), Bool.decide_or, Bool.or_assoc, w, a, g, d]
  refine ⟨_, exec_control (o := .setLoop q) rfl hready rfl, rfl, ?_, ?_, ?_⟩
  · simp [Part.carryOut, Part.finishWith, Part.setLoopOrder, Part.applySetLoop, clampTo, w, a, g]
  · simp [Part.carryOut, Part.finishWith, Part.setLoopOrder, Part.applySetLoop, clampTo, d]
  · rw [← hadj]
    exact Part.answered_of_sameBut (by simp [Part.sameBut_iff, Part.setLoopOrder, Part.applySetLoop]) (by simp) (by simp)
      (by simp) _ _

/-- SET_GAINS (O40's second part). -/
theorem gainsStored_holds : gainsStored := by
  intro s h q hready p
  have hexec := exec_control (c := .setGains h q) (o := .setGains q) rfl hready rfl
  constructor
  · intro hbad
    have hr : (orderTaken p h).setGains q = (.failed .badParameter, orderTaken p h) := by
      simp [Part.setGains, indexOf_eq_none hbad]
    refine ⟨_, hexec, rfl, ?_⟩
    simp only [Part.carryOut, Part.finishWith, p] at hr ⊢
    rw [hr]
    exact Part.answered_refused _ _ _ _
  · intro m hm base g
    have hr : (orderTaken p h).setGains q = (.adjustedDone (decide (32768 < q.leak.toNat ∨ 32768 < q.gain.toNat)),
        (orderTaken p h).writeGains m ⟨min 32768 q.leak.toNat, min 32768 q.gain.toNat⟩) := by
      simp [Part.setGains, indexOf_eq_some hm]
    refine ⟨_, hexec, rfl, ?_, ?_⟩
    · simp only [Part.carryOut, Part.finishWith, p] at hr ⊢
      rw [hr]
      exact Part.answered_of_sameBut (by simp [Part.sameBut_iff]) (by simp) (by simp) (by simp) _ _
    · simp only [Part.carryOut, Part.finishWith, p] at hr ⊢
      rw [hr]
      simp [Part.writeGains_lpc, Lpc.writableGains, g, base, p]

/-- SET_STORE (O40's third part). -/
theorem setStoreStores_holds : setStoreStores := by
  intro s h v hready
  have hexec := exec_control (c := .setStore h v) (o := .setStore v) rfl hready rfl
  constructor
  · intro hbad
    have hr : (orderTaken s.part h).setStore v = (.failed .badParameter, orderTaken s.part h) := by
      simp [Part.setStore, flagOf_eq_none hbad]
    refine ⟨_, hexec, rfl, ?_⟩
    simp only [Part.carryOut, Part.finishWith, hr]
    exact Part.answered_refused _ _ _ _
  · intro hok
    have hr : (orderTaken s.part h).setStore v =
        (.done, (orderTaken s.part h).modMxs fun x => { x with pairMode := decide (v = 1) }) := by
      simp [Part.setStore, flagOf_eq_some (Nat.le_of_lt_succ hok)]
    refine ⟨_, hexec, rfl, ?_, ?_⟩
    · simp [Part.carryOut, Part.finishWith, hr]
    · simp only [Part.carryOut, Part.finishWith, hr]
      exact Part.answered_of_sameBut (by simp [Part.sameBut_iff]) (by simp) (by simp) (by simp) _ _

/-- SET_EXCHANGE (O40's fourth part). -/
theorem setExchangeStores_holds : setExchangeStores := by
  intro s h v hready period
  refine ⟨_, exec_control (o := .setExchange v) rfl hready rfl, rfl, ?_⟩
  rw [show decide (v.toNat ≠ period) = outside 10 1000 v.toNat from (outside_eq 10 1000 v.toNat (by decide)).symm]
  exact Part.answered_of_xu (p := s.part) (h := h) (changed := []) (x := { s.part.xu with periodUs := period })
    (q := (orderTaken s.part h).modXu fun x => { x with periodUs := period }) (by simp [Part.sameBut_iff]) (by simp)
    (by simp) rfl rfl rfl rfl _ _

/-- CAPTURE (O40's fifth part). -/
theorem captureRequests_holds : captureRequests := by
  intro s h hready
  refine ⟨_, exec_control (o := .capture) rfl hready rfl, rfl, ?_, ?_⟩
  · simp [Part.carryOut, Part.finishWith, Part.captureOrder, Part.requestCapture]
  · exact Part.answered_of_sameBut (by simp [Part.sameBut_iff]) (by simp) (by simp) (by simp) _ _

/-- Settles O40: each order's values and its answer. -/
theorem settingOrdersStore : Obligations.SettingOrdersStore :=
  ⟨loopValuesStored_holds, gainsStored_holds, setStoreStores_holds, setExchangeStores_holds, captureRequests_holds⟩

end Sys2Proof.Proofs
end

section
/-! SUPPORT. SET_GEOMETRY (O12): the judgement of its counts and of a pending swap, and the numbering of the slopes. -/

namespace Sys2Proof.Machine

/-! ## The counts (R21) -/

theorem badGeometry_iff (q : GeometryParams) :
    badGeometry q = true ↔ (∃ i, 2560 < (q.n.get i).toNat) ∨ 4096 < q.a0.toNat ∨ 4096 < q.a1.toNat ∨
      q.a0.toNat + q.a1.toNat < 1 ∨ 4096 < q.a0.toNat + q.a1.toNat := by
  have hcounts : (∃ i, 2560 < (q.n.get i).toNat) ↔ 2560 < q.n.f0.toNat ∨ 2560 < q.n.f1.toNat ∨ 2560 < q.n.f2.toNat ∨
      2560 < q.n.f3.toNat := by
    constructor
    · rintro ⟨i, hi⟩
      match i with
      | 0 => exact .inl hi
      | 1 => exact .inr (.inl hi)
      | 2 => exact .inr (.inr (.inl hi))
      | 3 => exact .inr (.inr (.inr hi))
    · rintro (h | h | h | h)
      exacts [⟨0, h⟩, ⟨1, h⟩, ⟨2, h⟩, ⟨3, h⟩]
  simp only [badGeometry, hcounts, Bool.or_eq_true, decide_eq_true_eq, or_assoc]

/-! ## The pending swap (R84) -/

/-- A bank's dimensions equal the geometry's (R84). -/
theorem BankRecord.matches_iff (b : BankRecord) (g : Geometry) :
    b.matches g = true ↔ b.s = 2 * (g.n.f0 + g.n.f1 + g.n.f2 + g.n.f3) ∧ b.a = g.a0 + g.a1 := by
  rw [BankRecord.matches, Bool.and_eq_true, decide_eq_true_iff, decide_eq_true_iff]
  rfl

/-- A pending swap whose target fits the geometry, or none, is left alone (R84). -/
theorem Part.judgeSwap_fits {p : Part}
    (h : ∀ w, p.mxs.pendingSwap = some w → (p.mxs.banks.get w.target).matches p.geo = true) : p.judgeSwap = p := by
  unfold Part.judgeSwap
  split
  · rfl
  · next w hw => exact if_pos (h w hw)

/-- A pending swap whose target does not fit is cancelled, and its order fails (R84). -/
theorem Part.judgeSwap_cancels {p : Part} {w : PendingSwap} (hw : p.mxs.pendingSwap = some w)
    (hfit : (p.mxs.banks.get w.target).matches p.geo = false) :
    p.judgeSwap = p.dropSwap.finish w.order (.failed .geometryMismatch) := by
  simp [Part.judgeSwap, Part.cancelSwap, hw, hfit]

/-- What an order that finishes raises and issues rests on the TLU, on what was issued before and on the exchange unit. -/
theorem Part.finish_congr {p q : Part} (ref : OrderRef) (r : OrderResult) (htlu : q.tlu = p.tlu)
    (hissued : q.issued = p.issued) (hxu : q.xu = p.xu) :
    (q.finish ref r).tlu = (p.finish ref r).tlu ∧ (q.finish ref r).issued = (p.finish ref r).issued ∧
      (q.finish ref r).xu = (p.finish ref r).xu := by
  obtain ⟨hqt, hqi⟩ := orderFinished_congr htlu hissued hxu (q.finish_orderFinished ref r)
  obtain ⟨hpt, hpi⟩ := p.finish_orderFinished ref r
  exact ⟨hqt.trans hpt.symm, hqi.trans hpi.symm, (q.finish_sameBut ref r .xu (by decide)).trans
    (hxu.trans (p.finish_sameBut ref r .xu (by decide)).symm)⟩

/-! ## The numbering of the slopes (R22) -/

/-- The slopes of one sensor, in ascending order. -/
theorem Geometry.mem_slopeList (g : Geometry) (j : Nat) (i : LinkIx) :
    (j, i) ∈ g.slopeList ↔ g.base i ≤ j ∧ j < g.base i + 2 * g.n.get i := by
  have hmem : (j, i) ∈ g.slopeList ↔ ∃ k < 2 * g.n.get i, g.base i + k = j := by
    have hi : i = 0 ∨ i = 1 ∨ i = 2 ∨ i = 3 := match i with
      | 0 | 1 | 2 | 3 => by decide
    simp only [Geometry.slopeList, List.mem_flatMap, List.mem_map, List.mem_range, Prod.mk.injEq]
    constructor
    · rintro ⟨_, -, k, hk, hj, rfl⟩; exact ⟨k, hk, hj⟩
    · rintro ⟨k, hk, hj⟩; exact ⟨i, by simpa using hi, k, hk, hj, rfl⟩
  rw [hmem]
  constructor
  · rintro ⟨k, hk, rfl⟩; omega
  · rintro ⟨h1, h2⟩; exact ⟨j - g.base i, by omega, by omega⟩

/-- The sensors' runs of slopes follow one another, from 0 to S − 1. -/
theorem Geometry.slopeList_fst (g : Geometry) : g.slopeList.map Prod.fst = List.range g.slopes := by
  have hs : g.slopes = 2 * g.n.f0 + 2 * g.n.f1 + 2 * g.n.f2 + 2 * g.n.f3 := by unfold Geometry.slopes; omega
  rw [hs, List.range_add, List.range_add, List.range_add]
  simp [Geometry.slopeList, Geometry.base, Four.get, Function.comp_def]

end Sys2Proof.Machine

namespace Sys2Proof.Proofs

open Sys2Proof.Machine

/-- SET_GEOMETRY (O12's first part). -/
theorem geometryReplaced_holds : geometryReplaced := by
  intro s h q hready p bad fits
  have hexec := exec_control (c := .setGeometry h q) (o := .setGeometry q) rfl hready rfl
  have hbad : badGeometry q = true ↔ bad := badGeometry_iff q
  set t := (orderTaken s.part h).carryOut (.setGeometry q) (s.part.orderRef h (.setGeometry q)) with ht
  have hfin (x : OrderResult × Part) (hx : (orderTaken p h).setGeometry q = x) :
      t = x.2.finish (p.orderRef h (.setGeometry q)) x.1 := by rw [ht, ← hx]; rfl
  refine ⟨_, hexec, rfl, fun hl => ?_, fun hl hb => ?_, fun hl hb => ?_⟩
  · rw [hfin (.failed .wrongState, orderTaken p h) (if_pos hl)]
    exact Part.answered_refused _ _ _ _
  · rw [hfin (.failed .badParameter, orderTaken p h) (by simp [Part.setGeometry, p, hl, hbad.mpr hb])]
    exact Part.answered_refused _ _ _ _
  · have ht := hfin (.done, ((orderTaken p h).modGeo fun _ => newGeometry q).judgeSwap)
      (by simp [Part.setGeometry, p, hl, mt hbad.mp hb])
    set m := (orderTaken p h).modGeo fun _ => newGeometry q with hm
    have hgeo : t.geo = newGeometry q := by simp [ht, hm]
    have hfits (w : PendingSwap) : (m.mxs.banks.get w.target).matches m.geo = true ↔ fits w.target :=
      (p.mxs.banks.get w.target).matches_iff (newGeometry q)
    refine ⟨by simp [hgeo, newGeometry], by simp [hgeo, newGeometry], by simp [hgeo, newGeometry], by simp [hgeo, newGeometry],
      fun hw => ?_, fun w hw hno => ?_⟩
    · have hstays : m.judgeSwap = m := Part.judgeSwap_fits fun w h => (hfits w).mpr (hw w h)
      rw [ht, hstays]
      exact Part.answered_of_sameBut (q := m) (changed := [.geo]) (by simp [Part.sameBut_iff, hm]) (by simp) (by simp)
        (by simp) _ _
    · have hcancel : m.judgeSwap = m.dropSwap.finish w.order (.failed .geometryMismatch) :=
        Part.judgeSwap_cancels hw ((Bool.not_eq_true _).mp (mt (hfits w).mp hno))
      rw [hcancel] at ht
      refine ⟨by simp [ht, hm, Part.dropSwap, p], by simp [ht, hm, p],
        ⟨(orderTaken p h).finish w.order (.failed .geometryMismatch), Part.finish_orderFinished _ _ _,
          Part.finish_sameBut _ _ _, ?_⟩, by simp [Part.sameBut_iff, ht, hm, p]⟩
      obtain ⟨htlu, hissued, hxu⟩ := Part.finish_congr (p := orderTaken p h) (q := m.dropSwap) w.order
        (.failed .geometryMismatch) rfl rfl rfl
      rw [ht]
      exact orderFinished_congr htlu hissued hxu (Part.finish_orderFinished _ _ _)

/-- The numbering of the slopes (O12's second part). -/
theorem slopesNumbered_holds : slopesNumbered := by
  refine fun g => ⟨rfl, fun i => ?_, g.slopeList_fst, g.mem_slopeList⟩
  match i with
  | 0 => exact (Nat.zero_add _).symm
  | 1 | 2 => rfl

/-- Settles O12: SET_GEOMETRY, and the numbering of the slopes that the geometry gives. -/
theorem geometryReplacedAndNumbered : Obligations.GeometryReplacedAndNumbered := ⟨geometryReplaced_holds, slopesNumbered_holds⟩

end Sys2Proof.Proofs
end

section
/-! SUPPORT. LOOP_OPEN (O26): its checks, and the loop that becomes OPEN. -/

namespace Sys2Proof.Machine

/-! ## The checks of LOOP_OPEN (R95) -/

/-- No bank is ACTIVE. -/
theorem Mxs.activeBank_eq_none {x : Mxs} (h : ∀ b, (x.banks.get b).state ≠ .active) : x.activeBank = none :=
  (if_neg (h 0)).trans (if_neg (h 1))

/-- The only ACTIVE bank. -/
theorem Mxs.activeBank_eq_some {x : Mxs} {b : BankIx} (h : (x.banks.get b).state = .active)
    (hother : (x.banks.get (other b)).state ≠ .active) : x.activeBank = some b := by
  match b with
  | 0 => exact if_pos h
  | 1 => exact (if_neg hother).trans (if_pos h)

/-- The list that searches of all links go through. -/
theorem mem_links (i : LinkIx) : i ∈ ([0, 1, 2, 3] : List LinkIx) := match i with
  | 0 | 1 | 2 | 3 => by decide

/-- Some sensor link is not OFF and has subapertures (R95). -/
theorem Part.someSensor_iff (p : Part) : p.someSensor = true ↔ ∃ i, (p.links.get i).state ≠ .off ∧ 0 < p.geo.n.get i := by
  simp only [Part.someSensor, List.any_eq_true, mem_links, true_and, Bool.and_eq_true, decide_eq_true_eq]

/-- The five checks in their order, the bank of the third being the ACTIVE one (R95). -/
theorem Part.openRefusal_of_set {p : Part} (h : p.geo.isSet = true) {b : BankIx} (hb : p.mxs.activeBank = some b) :
    p.openRefusal =
      if (p.mxs.banks.get b).matches p.geo = false then some (.failedWith .geometryMismatch 3)
      else if p.someSensor = false then some (.failedWith .geometryMismatch 4)
      else if p.tlu.interlock.level = true then some (.failed .interlock)
      else none := by
  simp [Part.openRefusal, h, hb]

/-! ## LOOP_OPEN by the loop state (R95) -/

theorem Part.loopOpenOrder_refused {p : Part} (h : p.lpc.loop = .opened ∨ p.lpc.loop = .held) :
    p.loopOpenOrder = (.failed .wrongState, p) := by
  rcases h with h | h <;> simp [Part.loopOpenOrder, h]

theorem Part.loopOpenOrder_closed {p : Part} (h : p.lpc.loop = .closed) : p.loopOpenOrder = (.done, p.openLoop) := by
  simp [Part.loopOpenOrder, h]

theorem Part.loopOpenOrder_stopped_refused {p : Part} (h : p.lpc.loop = .stopped) {r : OrderResult}
    (hr : p.openRefusal = some r) : p.loopOpenOrder = (r, p) := by
  simp [Part.loopOpenOrder, h, hr]

theorem Part.loopOpenOrder_stopped_opens {p : Part} (h : p.lpc.loop = .stopped) (hr : p.openRefusal = none) :
    p.loopOpenOrder = (.done, p.openLoop) := by
  simp [Part.loopOpenOrder, h, hr]

/-! ## The loop becomes OPEN (R40, R94, R96) -/

/-- LOOP_OPEN moves a loop that is not OPEN, and raises LOOP_STATE (R94, R96). -/
theorem Part.openLoop_eq {p : Part} (h : p.lpc.loop ≠ .opened) : ∃ m : Part, p.openLoop = m.raise .loopState ∧
    m.lpc = { loopMoved p.lpc .opened with divCount := 0 } ∧
    m.fra = { p.fra with
      highest := none
      abandons := 0
      gapTimer := some (p.tlu.timebase + BitVec.ofNat 64 (1000 * p.fra.gapMs)) } ∧
    m.sameBut p [.lpc, .fra] := by
  set q := ((p.modFra fun f => { f with highest := none }).restartAssembly).modLpc fun l => { l with divCount := 0 } with hq
  obtain ⟨ho, -⟩ | ⟨-, hset⟩ := q.setLoop_cases .opened
  · exact absurd ho h
  · exact ⟨_, hset, rfl, rfl, by
      simp [Part.sameBut_iff, Part.putLoop, Part.restartAssembly, Part.startGapTimer, hq]⟩

end Sys2Proof.Machine

namespace Sys2Proof.Proofs

open Sys2Proof.Machine

/-- What LOOP_OPEN leaves when its order finishes DONE. -/
theorem openLoop_done {p : Part} (h : OrderHead) (o : Order) (hl : p.lpc.loop ≠ .opened) :
    let t := (orderTaken p h).openLoop.finish (p.orderRef h o) .done
    t.lpc = { loopMoved p.lpc .opened with divCount := 0 } ∧ t.loopClosedPin = false ∧
      t.fra = { p.fra with
        highest := none
        abandons := 0
        gapTimer := some (p.tlu.timebase + BitVec.ofNat 64 (1000 * p.fra.gapMs)) } ∧
      loopOrderDone p t h .done [.lpc, .fra] := by
  intro t
  obtain ⟨m, hopen, hlpc, hfra, hsame⟩ := Part.openLoop_eq (p := orderTaken p h) hl
  have ht : t = (m.raise .loopState).finish (p.orderRef h o) .done := by rw [← hopen]
  have htlpc : t.lpc = { loopMoved p.lpc .opened with divCount := 0 } := by rw [ht]; simpa using hlpc
  refine ⟨htlpc, by simp [Part.loopClosedPin, htlpc, loopMoved], by rw [ht]; simpa using hfra, ?_⟩
  have htlu : m.tlu = p.tlu := hsame .tlu (by decide)
  have hxu : m.xu = (orderTaken p h).xu := hsame .xu (by decide)
  have hsig : m.signal .loopState = p.signal .loopState :=
    Part.signal_congr _ (by rw [htlu]) (by rw [htlu]) (by rw [hxu]; rfl) (by rw [hxu]; rfl)
  rw [ht]
  refine raisedOrderDone_of_finished (q := m.raise .loopState) (by decide) (by simpa using hxu) (by simp [htlu]) ?_
    (Part.finish_orderFinished _ _ _) (Part.finish_sameBut _ _ _) ?_
  · rw [Part.raise_signal, hsig, hsame .issued (by decide)]
  · have hraise : (m.raise .loopState).sameBut m [.tlu, .issued] := by simp [Part.sameBut_iff]
    have htaken : m.sameBut p [.xu, .tlu, .issued, .lpc, .fra] :=
      hsame.trans (by simp [Part.sameBut_iff]) (by simp)
    exact hraise.trans htaken (by simp)

/-- LOOP_OPEN by the loop state (O26's first part). -/
theorem loopOpensByState_holds : loopOpensByState := by
  intro s h hready p refused succeeds fits sensor
  have hexec := exec_control (c := .loopOpen h) (o := .loopOpen) rfl hready rfl
  have hrefused (r : OrderResult) (hr : (orderTaken p h).loopOpenOrder = (r, orderTaken p h)) : refused r :=
    ⟨_, hexec, rfl, by rw [Part.carryOut, Part.finishWith, hr]; exact Part.answered_refused _ _ _ _⟩
  have hsucceeds (hl : p.lpc.loop ≠ .opened) (hr : (orderTaken p h).loopOpenOrder = (.done, (orderTaken p h).openLoop)) :
      succeeds :=
    ⟨_, hexec, rfl, by rw [Part.carryOut, Part.finishWith, hr]; exact openLoop_done h _ hl⟩
  refine ⟨fun hl => ?_, fun hl => ?_, fun hl => ?_⟩
  · exact hrefused _ (Part.loopOpenOrder_refused hl)
  · exact hsucceeds (by simp [hl]) (Part.loopOpenOrder_closed hl)
  · have hcheck (r : OrderResult) (hr : p.openRefusal = some r) : refused r :=
      hrefused r (Part.loopOpenOrder_stopped_refused (p := orderTaken p h) hl hr)
    refine ⟨fun hset => hcheck _ (by simp [Part.openRefusal, hset]),
      fun hset hb => hcheck _ (by simp [Part.openRefusal, hset, Mxs.activeBank_eq_none hb]), fun b hset hb hother => ?_⟩
    have hchecks := Part.openRefusal_of_set hset (Mxs.activeBank_eq_some hb hother)
    have hfits : (p.mxs.banks.get b).matches p.geo = true ↔ fits b := BankRecord.matches_iff _ _
    have hsensor : p.someSensor = true ↔ sensor := p.someSensor_iff
    rw [← hfits, ← hsensor]
    refine ⟨fun hf => hcheck _ ?_, fun hf hs => hcheck _ ?_, fun hf hs hi => hcheck _ ?_, fun hf hs hi => ?_⟩
    · rw [hchecks, if_pos (by simpa using hf)]
    · rw [hchecks, if_neg (by simp [hf]), if_pos (by simpa using hs)]
    · rw [hchecks, if_neg (by simp [hf]), if_neg (by simp [hs]), if_pos hi]
    · have hnone : p.openRefusal = none := by
        rw [hchecks, if_neg (by simp [hf]), if_neg (by simp [hs]), if_neg (by simp [hi])]
      exact hsucceeds (by simp [hl]) (Part.loopOpenOrder_stopped_opens (p := orderTaken p h) hl hnone)

/-- The output follows the loop state (O26's second part). -/
theorem loopClosedFollowsState_holds : loopClosedFollowsState := by
  refine fun p => ⟨fun h => by simp [Part.loopClosedPin, h], ?_⟩
  rintro (h | h | h) <;> simp [Part.loopClosedPin, h]

/-- Settles O26: LOOP_OPEN by the loop state, and the LOOP_CLOSED output. -/
theorem loopOpens : Obligations.LoopOpens := ⟨loopOpensByState_holds, loopClosedFollowsState_holds⟩

end Sys2Proof.Proofs
end

section
/-! SUPPORT. The timers of the frame assembler (O16): what a hold cause leaves, and the two expiries. -/

namespace Sys2Proof.Machine

/-! ## A hold cause (R94, R99) -/

/-- A hold cause that finds the loop OPEN or CLOSED moves it to HELD and raises LOOP_STATE (R94, R99). -/
theorem Part.takeHold_moves {p : Part} (c : HoldCause) (h : p.lpc.loop = .opened ∨ p.lpc.loop = .closed) :
    p.takeHold c =
      ((p.modLpc fun l => { l with causes := CauseSet.empty.add c, firstCause := some c }).putLoop .held).raise
        .loopState := by
  rcases h with h | h <;> simp [Part.takeHold, Part.setLoop, h]

/-- A hold cause in HELD joins the set (R99). -/
theorem Part.takeHold_held {p : Part} (c : HoldCause) (h : p.lpc.loop = .held) :
    p.takeHold c = p.modLpc fun l => { l with causes := l.causes.add c } := by
  simp [Part.takeHold, h]

/-- A hold cause in STOPPED is not recorded (R99). -/
theorem Part.takeHold_stopped {p : Part} (c : HoldCause) (h : p.lpc.loop = .stopped) : p.takeHold c = p := by
  simp [Part.takeHold, h]

/-- A hold cause as the statements report it. -/
theorem Part.takeHold_reported (c : HoldCause) (p : Part) : holdReported p (p.takeHold c) c := by
  have hpin : (p.takeHold c).loopClosedPin = false := by simp [Part.loopClosedPin, Part.takeHold_not_closed]
  cases hl : p.lpc.loop with
  | stopped =>
    simp [holdReported, holdTaken, hl, Part.takeHold_stopped, Part.loopClosedPin]
  | held =>
    simp [holdReported, holdTaken, hl, Part.takeHold_held, Part.loopClosedPin]
  | opened | closed =>
    refine ⟨?_, hpin, fun h => ?_, fun h => absurd (by simp [hl]) h⟩
    · simp [holdTaken, hl, Part.takeHold_moves, Part.putLoop]
    · rw [Part.takeHold_moves c h, Part.raise_tlu, Part.raise_signal]
      exact ⟨rfl, congrArg _ (Part.signal_congr _ rfl rfl rfl rfl)⟩

/-- A hold cause touches the loop controller, the TLU and what is issued. -/
theorem Part.takeHold_sameBut (c : HoldCause) (p : Part) : (p.takeHold c).sameBut p [.lpc, .tlu, .issued] := by
  simp [Part.sameBut_iff]

/-! ## The expiries (R31, R38) -/

/-- The frame-gap timer's expiry (R38). -/
theorem Part.frameGapExpiry_running {p : Part} {t : Time} (h : p.fra.gapTimer = some t) :
    p.frameGapExpiry = ((p.advanceTo t).modFra fun f => { f with gapTimer := none }).takeHold .sensorLoss := by
  simp [Part.frameGapExpiry, h]

/-- Time moves no slot. -/
@[simp] theorem Part.advanceTo_slot (t : Time) (p : Part) (i : SlotIx) : (p.advanceTo t).slot i = p.slot i := rfl

end Sys2Proof.Machine

namespace Sys2Proof.Proofs

open Sys2Proof.Machine

/-- The deadline's expiry (O16's first part). -/
theorem deadlineSeals_holds : deadlineSeals := by
  intro s k x y
  have hexec : exec (.deadlineExpiry k) s = .next { s with part := s.part.deadlineExpiry k } := rfl
  have hcollecting : x.collecting = true ↔ x.state = .assembling ∧ x.sealing = false := by simp [AsmSlot.collecting]
  constructor
  · intro h
    rw [hexec, Part.deadlineExpiry, if_neg (mt hcollecting.mp h)]
  · intro hstate hsealing
    set q := s.part.advanceTo x.deadline with hq
    have hexpired : s.part.deadlineExpiry k = q.sealCause k := if_pos (hcollecting.mpr ⟨hstate, hsealing⟩)
    rw [hexpired] at hexec
    have htlu : (q.sealCause k).tlu = q.tlu := by simp
    refine ⟨_, hexec, rfl, Part.sealCause_slot k q, ?_, Part.sealCause_fra k q, ?_, ?_, ?_⟩
    · have hseal : ((q.slot (other k)).sealing ||
          ((q.slot (other k)).collecting && newer (q.slot k).frame (q.slot (other k)).frame)) =
          decide (y.sealing = true ∨ (y.state = .assembling ∧ newer x.frame y.frame = true)) := by
        change (y.sealing || (y.collecting && newer x.frame y.frame)) = _
        cases hy : y.sealing <;> simp [AsmSlot.collecting, hy]
      rw [Part.sealCause_slot_other, hseal]
      rfl
    · rw [htlu, hq, Part.advanceTo_tlu]
    · rw [htlu]; exact Part.reached_advanceTo x.deadline s.part
    · simp [Part.sameBut_iff, hq]

/-- The frame-gap timer's expiry (O16's second part). -/
theorem frameGapExpires_holds : frameGapExpires := by
  intro s
  have hexec : exec .frameGapExpiry s = .next { s with part := s.part.frameGapExpiry } := rfl
  constructor
  · intro h
    rw [hexec, Part.frameGapExpiry, h]
  · intro t h
    rw [Part.frameGapExpiry_running h] at hexec
    set m := (s.part.advanceTo t).modFra fun f => { f with gapTimer := none } with hm
    have htime : (m.takeHold .sensorLoss).tlu.timebase = m.tlu.timebase := by
      rcases m.takeHold_tlu .sensorLoss with h | h <;> rw [h]
    refine ⟨_, hexec, rfl, ?_, ?_⟩
    · rw [htime]; exact Part.reached_advanceTo t s.part
    · rw [htime]
      exact ⟨m.takeHold_reported .sensorLoss, m.takeHold_sameBut .sensorLoss⟩

/-- Settles O16: the deadline's expiry and the frame-gap timer's. -/
theorem assemblyTimersExpire : Obligations.AssemblyTimersExpire := ⟨deadlineSeals_holds, frameGapExpires_holds⟩

end Sys2Proof.Proofs
end

section
/-! SUPPORT. From the end of substitution to a SEALED slot (O20): the residual of an accumulator, the extraction that begins, and
the energy. -/

namespace Sys2Proof.Machine

/-! ## One residual (R65, R66) -/

/-- The scaled accumulator is the floor of its quotient by 2^E, half of the divisor added first (R65). -/
theorem scaleResidual_eq (e : Nat) (acc : BitVec 48) :
    scaleResidual e acc = (acc.toInt + (if e = 0 then 0 else 2 ^ (e - 1))) / 2 ^ e := by
  by_cases h : e = 0 <;> simp [scaleResidual, roundShift, h]

/-- Saturation by the place of the value: within the range, above it and below it. -/
theorem saturate_cases {lo hi : Int} (h : lo ≤ hi) (v : Int) :
    (saturate lo hi v = v ∧ lo ≤ v ∧ v ≤ hi) ∨ (saturate lo hi v = hi ∧ hi < v) ∨ (saturate lo hi v = lo ∧ v < lo) := by
  unfold saturate; omega

/-! ## Extraction (R65 to R68) -/

/-- Extraction as it begins, with the residuals and RESID_SAT. -/
theorem Part.beginExtraction_begun (k : SlotIx) (p : Part) : extractionBegun p (p.beginExtraction k) k := by
  have hrca : (p.beginExtraction k).rca = { p.rca with
      extracting := some k
      residual := p.rca.residual.set k { p.rca.residual.get k with
        e := Sparse.setAll 0 [] (List.range p.geo.actuators) fun a => residualOf (p.slotRecord k).e (accumulatorAt p k a)
        resSat := (List.range p.geo.actuators).countP fun a =>
          residualSaturates (p.slotRecord k).e (accumulatorAt p k a) } } := rfl
  simp only [extractionBegun, hrca, Two.get_set, if_true]
  refine ⟨fun a => ?_, List.countP_eq_length_filter, trivial⟩
  rw [Sparse.get_setAll, Sparse.get_nil]
  simp only [List.mem_range]
  rfl

/-- Only the RCA and the slot's residual record know of an extraction that begins. -/
theorem Part.beginExtraction_sameBut (k : SlotIx) (p : Part) : (p.beginExtraction k).sameBut p [.rca] := by
  simp [Part.sameBut_iff]

/-- A sum of squares over the actuators that are active (R67). -/
theorem Part.energyOf_eq (k : SlotIx) (p : Part) :
    p.energyOf k = (((List.range p.geo.actuators).filter fun a => (p.lpc.limit a).active).map fun a =>
      (Sparse.get 0 (p.rca.residual.get k).e a).natAbs ^ 2).sum := by
  unfold Part.energyOf Lpc.limit
  induction List.range p.geo.actuators with
  | nil => rfl
  | cons a rest ih =>
    rw [List.map_cons, List.sum_cons, ih, List.filter_cons]
    split <;> simp

/-! ## The end of substitution (R56) -/

/-- A substitution with no visit and no value left ends when no value of its slot is in the stream list (R56). -/
theorem Part.substitutionEnd_eq {p : Part} {k : SlotIx} (hjob : p.scn.job = some ⟨.substitution, k, [], []⟩)
    (hstream : ∀ y ∈ p.rca.stream, y.slot ≠ k) :
    p.substitutionEnd = (p.modScn fun c => { c with job := none }).beginExtraction k := by
  have hnone : p.rca.noneOf k = true := by simpa [Rca.noneOf] using hstream
  simp [Part.substitutionEnd, hjob, Part.jobAdded, hnone]

end Sys2Proof.Machine

namespace Sys2Proof.Proofs

open Sys2Proof.Machine

/-- One residual (O20's first part). -/
theorem residualTaken_holds : residualTaken := by
  intro e acc _
  set x := acc.toInt + (if e = 0 then 0 else 2 ^ (e - 1)) with hx
  have hscale : scaleResidual e acc = x / 2 ^ e := scaleResidual_eq e acc
  have hpos : (0 : Int) < 2 ^ e := by positivity
  refine ⟨x / 2 ^ e, Int.mul_ediv_self_le hpos.ne', ?_, ?_⟩
  · linarith [Int.lt_mul_ediv_self_add (x := x) hpos, mul_add ((2 : Int) ^ e) (x / 2 ^ e) 1]
  · rw [residualSaturates, residualOf, hscale]
    rcases saturate_cases (lo := -8388608) (hi := 8388607) (by decide) (x / 2 ^ e) with ⟨h, hlo, hhi⟩ | ⟨h, hhi⟩ | ⟨h, hlo⟩
    · exact .inl ⟨h, hlo, hhi, by simp [h]⟩
    · exact .inr (.inl ⟨h, hhi, by simpa [h] using hhi.ne⟩)
    · exact .inr (.inr ⟨h, hlo, by simpa [h] using hlo.ne'⟩)

/-- The end of substitution (O20's second part). -/
theorem substitutionEnds_holds : substitutionEnds := by
  intro s k hjob hstream
  have hexec : exec .substitutionEnd s = .next { s with part := s.part.substitutionEnd } := rfl
  rw [Part.substitutionEnd_eq hjob hstream] at hexec
  set m := s.part.modScn fun c => { c with job := none } with hm
  refine ⟨_, hexec, rfl, by simp [hm], m.beginExtraction_begun k, ?_⟩
  exact ((m.beginExtraction_sameBut k).mono (l' := [.scn, .rca]) (by simp)).trans (by simp [Part.sameBut_iff, hm]) (by simp)

/-- The end of extraction (O20's third part). -/
theorem extractionEnds_holds : extractionEnds := by
  intro s k hextracting e
  have hexec : exec .extractionEnd s = .next { s with part := s.part.endExtraction k } := by
    rw [show exec .extractionEnd s = .next { s with part := s.part.extractionEnd } from rfl, Part.extractionEnd, hextracting]
  refine ⟨_, hexec, rfl, ?_, rfl, by simp [Part.sameBut_iff]⟩
  rw [show (s.part.endExtraction k).rca = { s.part.rca with
      residual := s.part.rca.residual.set k { s.part.rca.residual.get k with
        valid := true
        energy := BitVec.ofNat 64 (s.part.energyOf k) }
      extracting := none } from rfl, Part.energyOf_eq]
  rfl

/-- Settles O20: one residual, the end of substitution, and the end of extraction. -/
theorem residualsExtracted : Obligations.ResidualsExtracted :=
  ⟨residualTaken_holds, substitutionEnds_holds, extractionEnds_holds⟩

end Sys2Proof.Proofs
end

section
/-! SUPPORT. Substitution as it begins (O15): what a run of visits of slopes leaves, and where the run stops. -/

namespace Sys2Proof.Machine

/-! ## The conditioner takes up a work (R53, R56) -/

/-- The visits read the live tables only. -/
theorem makeVisit_job (c : Scn) (j : Option ScnJob) : makeVisit { c with job := j } = makeVisit c := by
  funext work v; cases v <;> rfl

/-- A work that is taken up makes its visits in order up to the first that gives a value: n of them. -/
theorem Scn.takeUp_spec (kind : JobKind) (i : SlotIx) (visits : List Visit) (c : Scn) :
    let after (m : Nat) := (visits.take m).foldl (makeVisit c) ⟨c.records.get i, c.kept, []⟩
    ∃ n ≤ visits.length,
      Scn.takeUp kind i visits c = { c with
        records := c.records.set i (after n).record
        kept := (after n).kept
        job := some ⟨kind, i, visits.drop n, (after n).values⟩ } ∧
      (∀ m < n, (after m).values = []) ∧ (n < visits.length → (after n).values ≠ []) := by
  obtain ⟨n, hn, hrest, hwork, hbefore, hstops⟩ :=
    runVisits_spec { c with job := some ⟨kind, i, visits, []⟩ } visits ⟨c.records.get i, c.kept, []⟩
  rw [makeVisit_job] at hwork hbefore
  rw [hwork] at hstops
  exact ⟨n, hn, by simp [Scn.takeUp, Scn.goOn, hrest, hwork], hbefore, hstops⟩

/-! ## The slopes in their order (R22) -/

theorem Geometry.slopeList_length (g : Geometry) : g.slopeList.length = g.slopes := by
  simpa using congrArg List.length g.slopeList_fst

theorem Geometry.slopeVisits_length (g : Geometry) : g.slopeVisits.length = g.slopes := by
  simp [Geometry.slopeVisits, g.slopeList_length]

/-- The slope at a place of the list has that number. -/
theorem Geometry.slopeList_getElem_fst (g : Geometry) {n : Nat} (h : n < g.slopeList.length) : (g.slopeList[n]).1 = n := by
  have hn : (g.slopeList.map Prod.fst)[n]? = (List.range g.slopes)[n]? := by rw [g.slopeList_fst]
  simpa [h, g.slopeList_length ▸ h] using hn

/-- The first n of the list are the slopes below n. -/
theorem Geometry.mem_take_slopeList (g : Geometry) (n : Nat) (x : Nat × LinkIx) :
    x ∈ g.slopeList.take n ↔ x ∈ g.slopeList ∧ x.1 < n := by
  rw [List.mem_take_iff_getElem, List.mem_iff_getElem]
  constructor
  · rintro ⟨i, hi, rfl⟩
    exact ⟨⟨i, by omega, rfl⟩, by rw [g.slopeList_getElem_fst]; omega⟩
  · rintro ⟨⟨i, hi, rfl⟩, hn⟩
    rw [g.slopeList_getElem_fst] at hn
    exact ⟨i, by omega, rfl⟩

theorem Geometry.nodup_take_slopeList (g : Geometry) (n : Nat) : ((g.slopeList.take n).map Prod.fst).Nodup := by
  rw [List.map_take, g.slopeList_fst]
  exact List.nodup_range.sublist (List.take_sublist _ _)

/-! ## Visits of slopes (R54) -/

/-- What substitution makes of a slope, as a work stands. -/
def SlopeWork.makes (w : SlopeWork) (par : Four SensorParam) (x : Nat × LinkIx) : Substituted :=
  substituteSlope (par.get x.2) (Sparse.get .powerOn w.kept x.1) (Sparse.get .missing w.record.status x.1)

/-- Slopes are visited one after another. -/
def visitSlopes (par : Four SensorParam) (l : List (Nat × LinkIx)) (w : SlopeWork) : SlopeWork :=
  l.foldl (fun w x => visitSlope (par.get x.2) x.1 w) w

/-- The visits of a substitution, up to some of them. -/
theorem Geometry.foldl_slopeVisits (g : Geometry) (c : Scn) (n : Nat) (w : SlopeWork) :
    (g.slopeVisits.take n).foldl (makeVisit c) w = visitSlopes c.parLive (g.slopeList.take n) w := by
  rw [Geometry.slopeVisits, ← List.map_take, List.foldl_map]; rfl

/-- A value is handed on where it is not 0 (R53, R56). -/
theorem handing_eq (values : List (Nat × BitVec 16)) (j : Nat) (c : BitVec 16) :
    handing values j c = values ++ [(j, c)].filter fun z => z.2 ≠ 0 := by
  by_cases h : c = 0#16 <;> simp [handing, h]

/-- A visit leaves the other slopes as they stand. -/
theorem visitSlope_other (par : SensorParam) {i j : Nat} (h : j ≠ i) (w : SlopeWork) :
    Sparse.get .missing (visitSlope par i w).record.status j = Sparse.get .missing w.record.status j ∧
      Sparse.get .powerOn (visitSlope par i w).kept j = Sparse.get .powerOn w.kept j := by
  simp [visitSlope, Sparse.get_set, h]

/-- Visits leave every other slope as it stands. -/
theorem visitSlopes_other (par : Four SensorParam) (l : List (Nat × LinkIx)) {j : Nat} (h : j ∉ l.map Prod.fst)
    (w : SlopeWork) :
    Sparse.get .missing (visitSlopes par l w).record.status j = Sparse.get .missing w.record.status j ∧
      Sparse.get .powerOn (visitSlopes par l w).kept j = Sparse.get .powerOn w.kept j := by
  induction l generalizing w with
  | nil => exact ⟨rfl, rfl⟩
  | cons y rest ih =>
    obtain ⟨hy, hrest⟩ := not_or.mp (mt List.mem_cons.mpr h)
    obtain ⟨hs, hk⟩ := visitSlope_other (par.get y.2) hy w
    exact ⟨(ih hrest _).1.trans hs, (ih hrest _).2.trans hk⟩

/-- A visit makes nothing new of another slope. -/
theorem SlopeWork.makes_visitSlope_other (par : Four SensorParam) {x y : Nat × LinkIx} (h : x.1 ≠ y.1) (w : SlopeWork) :
    (visitSlope (par.get y.2) y.1 w).makes par x = w.makes par x := by
  obtain ⟨hs, hk⟩ := visitSlope_other (par.get y.2) h w
  rw [SlopeWork.makes, hs, hk, SlopeWork.makes]

/-- A slope that is visited takes its status and its kept entry. -/
theorem visitSlopes_visited (par : Four SensorParam) {l : List (Nat × LinkIx)} (hl : (l.map Prod.fst).Nodup)
    {x : Nat × LinkIx} (hx : x ∈ l) (w : SlopeWork) :
    Sparse.get .missing (visitSlopes par l w).record.status x.1 = (w.makes par x).status ∧
      Sparse.get .powerOn (visitSlopes par l w).kept x.1 = (w.makes par x).kept := by
  induction l generalizing w with
  | nil => exact absurd hx List.not_mem_nil
  | cons y rest ih =>
    obtain ⟨hy, hrest⟩ := List.nodup_cons.mp hl
    rcases List.mem_cons.mp hx with rfl | hx
    · obtain ⟨hs, hk⟩ := visitSlopes_other par rest hy (visitSlope (par.get x.2) x.1 w)
      exact ⟨hs.trans (by simp [visitSlope, Sparse.get_set, SlopeWork.makes]),
        hk.trans (by simp [visitSlope, Sparse.get_set, SlopeWork.makes])⟩
    · have hne : x.1 ≠ y.1 := fun h => hy (h ▸ List.mem_map_of_mem hx)
      rw [← SlopeWork.makes_visitSlope_other par hne w]
      exact ih hrest hx _

/-- What visits count, and the values they give, in the order of the visits. -/
theorem visitSlopes_gives (par : Four SensorParam) {l : List (Nat × LinkIx)} (hl : (l.map Prod.fst).Nodup) (w : SlopeWork) :
    (visitSlopes par l w).record = { w.record with
      status := (visitSlopes par l w).record.status
      substituted := w.record.substituted + l.countP fun x => (w.makes par x).value.isSome } ∧
    (visitSlopes par l w).values =
      w.values ++ (l.map fun x => (x.1, (w.makes par x).value.getD 0)).filter fun z => z.2 ≠ 0 := by
  induction l generalizing w with
  | nil => simp [visitSlopes]
  | cons y rest ih =>
    obtain ⟨hy, hrest⟩ := List.nodup_cons.mp hl
    have hmakes (x : Nat × LinkIx) (hx : x ∈ rest) : (visitSlope (par.get y.2) y.1 w).makes par x = w.makes par x :=
      SlopeWork.makes_visitSlope_other par (fun h => hy (h ▸ List.mem_map_of_mem hx)) w
    obtain ⟨hrecord, hvalues⟩ := ih hrest (visitSlope (par.get y.2) y.1 w)
    have hcount : (rest.countP fun x => ((visitSlope (par.get y.2) y.1 w).makes par x).value.isSome) =
        rest.countP fun x => (w.makes par x).value.isSome :=
      List.countP_congr fun x hx => by rw [hmakes x hx]
    have hgiven : (rest.map fun x => (x.1, ((visitSlope (par.get y.2) y.1 w).makes par x).value.getD 0)) =
        rest.map fun x => (x.1, (w.makes par x).value.getD 0) :=
      List.map_congr_left fun x hx => by rw [hmakes x hx]
    rw [hcount] at hrecord
    rw [hgiven] at hvalues
    constructor
    · have hone : (visitSlope (par.get y.2) y.1 w).record.substituted =
          w.record.substituted + if (w.makes par y).value.isSome then 1 else 0 := by
        rw [visitSlope, SlopeWork.makes]; dsimp only; split <;> rfl
      have hsum : (visitSlope (par.get y.2) y.1 w).record.substituted + (rest.countP fun x => (w.makes par x).value.isSome) =
          w.record.substituted + (y :: rest).countP fun x => (w.makes par x).value.isSome := by
        rw [hone, List.countP_cons]; omega
      rw [hsum] at hrecord
      exact hrecord
    · have hone : (visitSlope (par.get y.2) y.1 w).values =
          w.values ++ [(y.1, (w.makes par y).value.getD 0)].filter fun z => z.2 ≠ 0 := handing_eq _ _ _
      refine hvalues.trans ?_
      rw [hone, List.append_assoc, ← List.filter_append]
      rfl

end Sys2Proof.Machine
end

section
/-! SUPPORT. What substitution leaves where it begins (O15): the slopes visited, and the value handed on or the extraction. -/

namespace Sys2Proof.Machine

/-- The first visits of a substitution: n of them, with the work that they leave. The earlier ones are silent, and the last one is
not unless all are made (R54, R56). -/
structure SubstitutionVisits (p : Part) (k : SlotIx) (n : Nat) (w : SlopeWork) : Prop where
  le : n ≤ p.geo.slopes
  work : w = visitSlopes p.scn.parLive (p.geo.slopeList.take n) ⟨p.scn.records.get k, p.scn.kept, []⟩
  before : ∀ m < n,
    (visitSlopes p.scn.parLive (p.geo.slopeList.take m) ⟨p.scn.records.get k, p.scn.kept, []⟩).values = []
  stops : n < p.geo.slopes → w.values ≠ []

/-- The conditioner's state where a substitution begins. -/
theorem Part.substitution_takeUp (k : SlotIx) (p : Part) : ∃ n w, SubstitutionVisits p k n w ∧
    Scn.takeUp .substitution k p.geo.slopeVisits { p.scn with substDue := none } = { p.scn with
      records := p.scn.records.set k w.record
      kept := w.kept
      job := some ⟨.substitution, k, p.geo.slopeVisits.drop n, w.values⟩
      substDue := none } := by
  obtain ⟨n, hn, htake, hbefore, hstops⟩ :=
    Scn.takeUp_spec .substitution k p.geo.slopeVisits { p.scn with substDue := none }
  simp only [p.geo.foldl_slopeVisits, p.geo.slopeVisits_length] at hn htake hbefore hstops
  exact ⟨n, _, ⟨hn, rfl, hbefore, hstops⟩, htake⟩

namespace SubstitutionVisits

variable {p : Part} {k : SlotIx} {n : Nat} {w : SlopeWork}

/-- What substitution makes of a slope of slot k, as the part stands. -/
abbrev made (p : Part) (k : SlotIx) (x : Nat × LinkIx) : Substituted :=
  substituteSlope (p.scn.parLive.get x.2) (keptAt p x.1) (slopeStatus p k x.1)

/-- A slope below n takes its status and its kept entry. -/
theorem visited (h : SubstitutionVisits p k n w) {x : Nat × LinkIx} (hx : x ∈ p.geo.slopeList) (hlt : x.1 < n) :
    Sparse.get .missing w.record.status x.1 = (made p k x).status ∧ Sparse.get .powerOn w.kept x.1 = (made p k x).kept := by
  rw [h.work]
  exact visitSlopes_visited _ (p.geo.nodup_take_slopeList n) ((p.geo.mem_take_slopeList n x).mpr ⟨hx, hlt⟩) _

/-- A slope from n on stays as it is. -/
theorem untouched (h : SubstitutionVisits p k n w) {j : Nat} (hj : n ≤ j) :
    Sparse.get .missing w.record.status j = slopeStatus p k j ∧ Sparse.get .powerOn w.kept j = keptAt p j := by
  rw [h.work]
  refine visitSlopes_other _ _ (fun hmem => ?_) _
  obtain ⟨x, hx, rfl⟩ := List.mem_map.mp hmem
  exact absurd ((p.geo.mem_take_slopeList n x).mp hx).2 (by omega)

/-- The record with the new status and the count of the substituted slopes. -/
theorem record (h : SubstitutionVisits p k n w) : w.record = { p.scn.records.get k with
    status := w.record.status
    substituted := (p.scn.records.get k).substituted +
      (p.geo.slopeList.take n).countP fun x => (made p k x).value.isSome } := by
  rw [h.work]
  exact (visitSlopes_gives _ (p.geo.nodup_take_slopeList n) _).1

/-- The values that visits give, in the order of the slopes. -/
theorem values_after (p : Part) (k : SlotIx) (n : Nat) :
    (visitSlopes p.scn.parLive (p.geo.slopeList.take n) ⟨p.scn.records.get k, p.scn.kept, []⟩).values =
      ((p.geo.slopeList.take n).map fun x => (x.1, (made p k x).value.getD 0)).filter fun z => z.2 ≠ 0 :=
  (visitSlopes_gives _ (p.geo.nodup_take_slopeList n) _).2

/-- Visits that give no value have each been silent. -/
theorem silent_of_no_values (hv : (visitSlopes p.scn.parLive (p.geo.slopeList.take n)
      ⟨p.scn.records.get k, p.scn.kept, []⟩).values = []) {x : Nat × LinkIx} (hx : x ∈ p.geo.slopeList) (hlt : x.1 < n) :
    (made p k x).value.getD 0 = 0 := by
  rw [values_after, List.filter_eq_nil_iff] at hv
  simpa using hv _ (List.mem_map_of_mem ((p.geo.mem_take_slopeList n x).mpr ⟨hx, hlt⟩))

/-- A slope before the last of the visits gives nothing to hand on. -/
theorem silent (h : SubstitutionVisits p k n w) {x : Nat × LinkIx} (hx : x ∈ p.geo.slopeList) (hlt : x.1 + 1 < n) :
    (made p k x).value.getD 0 = 0 :=
  silent_of_no_values (h.before (n - 1) (by omega)) hx (by omega)

/-- Visits that give no value are all made, and all silent. -/
theorem all_silent (h : SubstitutionVisits p k n w) (hv : w.values = []) :
    n = p.geo.slopes ∧ ∀ x ∈ p.geo.slopeList, (made p k x).value.getD 0 = 0 := by
  have hn : n = p.geo.slopes := Nat.le_antisymm h.le (not_lt.mp fun hlt => h.stops hlt hv)
  refine ⟨hn, fun x hx => silent_of_no_values (n := n) (h.work ▸ hv) hx ?_⟩
  have hmem : x.1 ∈ p.geo.slopeList.map Prod.fst := List.mem_map_of_mem hx
  rw [p.geo.slopeList_fst, List.mem_range] at hmem
  omega

/-- Visits that give a value give one, at the last slope visited. -/
theorem one_value (h : SubstitutionVisits p k n w) (hv : w.values ≠ []) :
    ∃ x ∈ p.geo.slopeList, ∃ c, x.1 + 1 = n ∧ (made p k x).value = some c ∧ c ≠ 0 ∧ w.values = [(x.1, c)] := by
  have hvalues : w.values =
      ((p.geo.slopeList.take n).map fun x => (x.1, (made p k x).value.getD 0)).filter fun z => z.2 ≠ 0 := by
    rw [h.work, values_after]
  obtain ⟨m, rfl⟩ : ∃ m, n = m + 1 :=
    Nat.exists_eq_succ_of_ne_zero fun h0 => hv (by rw [hvalues, h0]; rfl)
  have hm : m < p.geo.slopeList.length := by rw [p.geo.slopeList_length]; exact h.le
  have hbefore := h.before m (by omega)
  rw [values_after] at hbefore
  rw [List.take_succ_eq_append_getElem hm, List.map_append, List.filter_append, hbefore, List.nil_append] at hvalues
  set x := p.geo.slopeList[m] with hx
  cases hc : (made p k x).value with
  | none => exact absurd (by simpa [hc] using hvalues) hv
  | some c =>
    by_cases h0 : c = 0#16
    · exact absurd (by simpa [hc, h0] using hvalues) hv
    · exact ⟨x, List.getElem_mem hm, c, by rw [hx, p.geo.slopeList_getElem_fst hm], hc, h0,
        by simpa [hc, h0] using hvalues⟩

/-- A part whose conditioner holds what the visits leave, and which goes on as their values say. -/
theorem begun {t : Part} (h : SubstitutionVisits p k n w)
    (hscn : t.scn = { p.scn with
      records := p.scn.records.set k w.record
      kept := w.kept
      job := t.scn.job
      substDue := none })
    (hend : (n = p.geo.slopes ∧ (∀ x ∈ p.geo.slopeList, (made p k x).value.getD 0 = 0) ∧ t.scn.job = none ∧
        extractionBegun p t k) ∨
      ∃ x ∈ p.geo.slopeList, ∃ c, x.1 + 1 = n ∧ (made p k x).value = some c ∧ c ≠ 0 ∧ t.rca = p.rca ∧
        t.scn.job = some ⟨.substitution, k, p.geo.slopeVisits.drop n, [(x.1, c)]⟩) : substitutionBegun p t k := by
  have hrecord : t.scn.records.get k = w.record := by rw [hscn, Two.get_set_self]
  have hkept : t.scn.kept = w.kept := by rw [hscn]
  refine ⟨n, h.le, fun x hx hlt => ?_, fun j hj => ?_, ?_, ?_, fun x hx hlt => h.silent hx hlt, hend⟩
  · rw [slopeStatus, keptAt, hrecord, hkept]; exact h.visited hx hlt
  · rw [slopeStatus, keptAt, hrecord, hkept]; exact h.untouched hj
  · rw [hrecord]; exact h.record
  · rw [hrecord, hkept]; exact hscn

end SubstitutionVisits

/-- What a substitution leaves where it begins. -/
theorem Part.startSubstitution_begun (k : SlotIx) (p : Part) : substitutionBegun p (p.startSubstitution k) k := by
  obtain ⟨n, w, hv, htake⟩ := p.substitution_takeUp k
  set q := p.modScn fun c => Scn.takeUp .substitution k p.geo.slopeVisits { c with substDue := none } with hq
  have hqscn : q.scn = { p.scn with
      records := p.scn.records.set k w.record
      kept := w.kept
      job := some ⟨.substitution, k, p.geo.slopeVisits.drop n, w.values⟩
      substDue := none } := htake
  by_cases hvalues : w.values = []
  · obtain ⟨hn, hsilent⟩ := hv.all_silent hvalues
    have hspent : q.scn.spent = true := by
      simp [hqscn, Scn.spent, hvalues, hn, ← p.geo.slopeVisits_length]
    have hstart : p.startSubstitution k = (q.modScn fun c => { c with job := none }).beginExtraction k := if_pos hspent
    rw [hstart]
    exact hv.begun (by simp [hqscn])
      (.inl ⟨hn, hsilent, by simp, (q.modScn fun c => { c with job := none }).beginExtraction_begun k⟩)
  · obtain ⟨x, hx, c, hxn, hc, h0, hone⟩ := hv.one_value hvalues
    have hspent : ¬ q.scn.spent = true := by simp [hqscn, Scn.spent, hvalues]
    have hstart : p.startSubstitution k = q := if_neg hspent
    rw [hstart]
    exact hv.begun (by rw [hqscn]) (.inr ⟨x, hx, c, hxn, hc, h0, rfl, by rw [hqscn, hone]⟩)

/-- What substitution leaves where it begins rests on the conditioner, the RCA, the store, the geometry and the slot's bank. -/
theorem substitutionBegun_congr {p q t : Part} {k : SlotIx} (hgeo : q.geo = p.geo) (hscn : q.scn = p.scn) (hrca : q.rca = p.rca)
    (hmxs : q.mxs = p.mxs) (hbank : (q.slot k).bank = (p.slot k).bank) (h : substitutionBegun q t k) :
    substitutionBegun p t k := by
  simpa only [substitutionBegun, extractionBegun, slopeStatus, keptAt, accumulatorAt, hgeo, hscn, hrca, hmxs, hbank] using h

end Sys2Proof.Machine
end

section
/-! SUPPORT. The seal decision (O15): the slot and the kind it decides, INCOMPLETE, and how a seal goes on or ends. -/

namespace Sys2Proof.Machine

/-! ## Which slot, and which kind (R33) -/

theorem Part.drained_iff (p : Part) (k : SlotIx) : p.drained k = true ↔ sealDue p k := by
  have hseal (x : AsmSlot) : x.inSeal = true ↔ x.state = .assembling ∧ x.sealing = true := by simp [AsmSlot.inSeal]
  simp only [Part.drained, sealDue, Part.isNewer, Bool.and_eq_true, Bool.not_eq_true', ← Bool.not_eq_true, hseal,
    Option.isNone_iff_eq_none, List.all_eq_true, decide_eq_true_eq, and_assoc]
  tauto

/-- SEAL_DECISION decides the first slot whose seal is due (R33). -/
theorem Part.sealDecision_eq {p : Part} {k : SlotIx} (hdue : sealDue p k) (hfirst : k = 1 → ¬ sealDue p 0) :
    p.sealDecision = p.decideSeal k := by
  have hfind : p.decisionSlot = some k :=
    find_slot k ((p.drained_iff k).mpr hdue) fun h => (Bool.not_eq_true _).mp (mt (p.drained_iff 0).mp (hfirst h))
  rw [Part.sealDecision, hfind]

theorem Part.requiredLacking_iff (p : Part) (k : SlotIx) : p.requiredLacking k = true ↔ frameAbandoned p k := by
  simp only [Part.requiredLacking, frameAbandoned, List.any_eq_true, mem_links, true_and, Bool.and_eq_true,
    decide_eq_true_eq, Bool.not_eq_true', AsmSlot.sensorWhole_eq, decide_eq_false_iff_not, and_assoc]

theorem Part.slotComplete_iff (p : Part) (k : SlotIx) :
    p.slotComplete k = true ↔ ∀ i, (p.slot k).present.get i = true → sensorComplete p k i := by
  simp only [Part.slotComplete, List.all_eq_true, mem_links, true_imp_iff, AsmSlot.sensorWhole_eq, Bool.or_eq_true,
    Bool.not_eq_true', decide_eq_true_eq]
  exact forall_congr' fun i => by cases (p.slot k).present.get i <;> simp

/-! ## INCOMPLETE (R36) -/

/-- The links after a count on those of a list that a condition names. -/
theorem Part.countSensor_fold (f : LinkIx → Bool) (g : SensorCounters → SensorCounters) {l : List LinkIx} (hl : l.Nodup)
    (p : Part) (i : LinkIx) :
    (l.foldl (fun q s => if f s then q.countSensor s g else q) p).links.get i =
      if i ∈ l ∧ f i = true then { p.links.get i with counters := g (p.links.get i).counters } else p.links.get i := by
  induction l generalizing p with
  | nil => simp
  | cons s rest ih =>
    obtain ⟨hs, hrest⟩ := List.nodup_cons.mp hl
    rw [List.foldl_cons, ih hrest]
    by_cases hi : i = s
    · subst hi
      cases f i <;> simp [hs, Part.countSensor, Part.modLink]
    · cases f s <;> simp [hi, Part.countSensor, Part.modLink, Four.get_set_other]

theorem Part.countIncomplete_counted (k : SlotIx) (p : Part) : incompleteCounted p (p.countIncomplete k) k := by
  intro i
  have hlinks : (p.countIncomplete k).links.get i = _ :=
    Part.countSensor_fold (fun s => (p.slot k).present.get s && !(p.slot k).sensorWhole p.geo s)
      (fun c => { c with incomplete := c.incomplete + 1 }) (l := [0, 1, 2, 3]) (by decide) p i
  simp only [mem_links, true_and, Bool.and_eq_true, Bool.not_eq_true', AsmSlot.sensorWhole_eq, decide_eq_false_iff_not]
    at hlinks
  by_cases h : (p.slot k).present.get i = true ∧ ¬ segmentsWhole p.geo (p.slot k) i
  · rw [if_pos h] at hlinks
    exact ⟨by rw [hlinks], fun _ _ => by rw [hlinks], fun hn => absurd h hn⟩
  · rw [if_neg h] at hlinks
    exact ⟨by rw [hlinks], fun h1 h2 => absurd ⟨h1, h2⟩ h, fun _ => by rw [hlinks]⟩

/-- The count of INCOMPLETE rests on the links. -/
theorem incompleteCounted_congr {p q t : Part} {k : SlotIx} (h : t.links = q.links) (hc : incompleteCounted p q k) :
    incompleteCounted p t k := by
  intro i; rw [h]; exact hc i

/-! ## What every decision does (R33, R36, R38) -/

/-- The assembler's state after a decision. -/
theorem Part.recordDecision_fra (k : SlotIx) (kind : SealKind) (p : Part) : (p.recordDecision k kind).fra = { p.fra with
    slots := p.fra.slots.set k { p.slot k with sealKind := some kind, sealTime := p.tlu.timebase }
    lastSealed := some ((p.slot k).frame, kind)
    gapTimer := some (p.tlu.timebase + BitVec.ofNat 64 (1000 * p.fra.gapMs)) } := by
  simp [Part.recordDecision, Part.startGapTimer, Part.modSlot, later, Part.now, Part.slot]

theorem Part.recordDecision_links (k : SlotIx) (kind : SealKind) (p : Part) :
    (p.recordDecision k kind).links = (p.countIncomplete k).links := rfl

/-- What a decision leaves of the slot. -/
theorem Part.recordDecision_slot (k : SlotIx) (kind : SealKind) (p : Part) :
    (p.recordDecision k kind).slot k = { p.slot k with sealKind := some kind, sealTime := p.tlu.timebase } := by
  rw [Part.slot, Part.recordDecision_fra, Two.get_set_self]

theorem Part.decideSeal_abandoned {p : Part} {k : SlotIx} (h : frameAbandoned p k) :
    p.decideSeal k = (p.recordDecision k .abandoned).abandonFrame k := by
  simp [Part.decideSeal, Part.decideKind, (p.requiredLacking_iff k).mpr h]

/-- The kind of a seal that goes on (R33). -/
theorem Part.decideSeal_goesOn {p : Part} {k : SlotIx} (h : ¬ frameAbandoned p k) : ∃ kind,
    ((∀ i, (p.slot k).present.get i = true → sensorComplete p k i) → kind = .complete) ∧
    (¬ (∀ i, (p.slot k).present.get i = true → sensorComplete p k i) → kind = .partialSeal) ∧
    p.decideSeal k = (p.recordDecision k kind).continueSeal k := by
  have hlacking : p.requiredLacking k = false := (Bool.not_eq_true _).mp (mt (p.requiredLacking_iff k).mp h)
  rw [← p.slotComplete_iff]
  cases hc : p.slotComplete k with
  | true => exact ⟨.complete, by simp, by simp, by simp [Part.decideSeal, Part.decideKind, hlacking, hc]⟩
  | false => exact ⟨.partialSeal, by simp, by simp, by simp [Part.decideSeal, Part.decideKind, hlacking, hc]⟩

/-! ## A seal that goes on (R34, R37, R54) -/

@[simp] theorem Part.continueSeal_fra (k : SlotIx) (p : Part) : (p.continueSeal k).fra = { p.fra with abandons := 0 } := by
  unfold Part.continueSeal Part.startSubstitution
  dsimp only
  split
  · rfl
  · split <;> simp

/-- The substitution of a seal whose decision finds the conditioner free. -/
theorem Part.continueSeal_begins {p : Part} (k : SlotIx) (h : p.scn.job = none) :
    p.continueSeal k = (p.modFra fun f => { f with abandons := 0 }).startSubstitution k := by
  simp [Part.continueSeal, h]

/-- The substitution of a seal whose decision finds an entry in processing (R54). -/
theorem Part.continueSeal_waits {p : Part} (k : SlotIx) (h : p.scn.job.isSome = true) :
    p.continueSeal k = (p.modFra fun f => { f with abandons := 0 }).modScn fun c => { c with substDue := some k } := by
  simp [Part.continueSeal, h]

/-! ## An ABANDONED seal (R35, R37, R57, R70) -/

theorem Two.set_set {α : Type} (v : Two α) (i : Fin 2) (x y : α) : (v.set i x).set i y = v.set i y := by
  match i with
  | 0 | 1 => rfl

/-- The record of an ABANDONED frame, as the statements name it (R57, R178). -/
theorem Part.abandonedRecord_eq (k : SlotIx) (p : Part) :
    p.abandonedRecord k = { recordOf p k p.geo .abandoned p.lpc.loop with
      sealOffset := some (((p.slot k).sealTime - (p.slot k).openTime).setWidth 32)
      substituted := 0 } := by
  have hc : Four.make ((p.slot k).sensorWhole p.geo) = Four.make fun i => decide (segmentsWhole p.geo (p.slot k) i) :=
    congrArg Four.make (funext fun i => AsmSlot.sensorWhole_eq _ _ i)
  exact congrArg (fun c => { recordOf p k p.geo .abandoned p.lpc.loop with
    complete := c
    sealOffset := some (((p.slot k).sealTime - (p.slot k).openTime).setWidth 32)
    substituted := 0 }) hc

/-- What a hold cause reports rests on the loop controller, the TLU, the function's configuration and what was issued. -/
theorem holdReported_congr {p q t : Part} {c : HoldCause} (hlpc : q.lpc = p.lpc) (htlu : q.tlu = p.tlu) (hxu : q.xu = p.xu)
    (hissued : q.issued = p.issued) (h : holdReported q t c) : holdReported p t c := by
  have hsig : q.signal .loopState = p.signal .loopState :=
    Part.signal_congr _ (by rw [htlu]) (by rw [htlu]) (by rw [hxu]) (by rw [hxu])
  simpa only [holdReported, hlpc, htlu, hissued, hsig] using h

/-- A frame's end by abandonment, before SENSOR_LOSS is judged: its accumulators are cleared, its slot is FREE, its record is
handled and the abandons are counted. -/
def Part.frameEnded (k : SlotIx) (p : Part) : Part :=
  (((p.clearAccumulators k).modSlot k fun x => { x with state := .free, sealing := false }).submitRecord
    (p.abandonedRecord k)).modFra fun f => { f with abandons := min 255 (f.abandons + 1) }

theorem Part.abandonFrame_eq (k : SlotIx) (p : Part) : p.abandonFrame k =
    if p.fra.abandonLimit ≤ min 255 (p.fra.abandons + 1) then (p.frameEnded k).takeHold .sensorLoss
    else p.frameEnded k := by
  simp [Part.abandonFrame, Part.frameEnded, Part.modSlot, Part.clearAccumulators]

/-- SENSOR_LOSS touches the loop controller, the TLU and what is issued, so that the rest is as the frame's end leaves it. -/
theorem Part.abandonFrame_sameBut (k : SlotIx) (p : Part) :
    (p.abandonFrame k).sameBut (p.frameEnded k) [.lpc, .tlu, .issued] := by
  rw [Part.abandonFrame_eq]
  split
  · exact Part.takeHold_sameBut _ _
  · simp [Part.sameBut_iff]

theorem Part.frameEnded_fra (k : SlotIx) (p : Part) : (p.frameEnded k).fra = { p.fra with
    slots := p.fra.slots.set k { p.slot k with state := .free, sealing := false }
    abandons := min 255 (p.fra.abandons + 1) } := by
  simp [Part.frameEnded, Part.modSlot, Part.clearAccumulators, Part.slot]

theorem Part.frameEnded_rca (k : SlotIx) (p : Part) :
    (p.frameEnded k).rca = { p.rca with acc := p.rca.acc.set k [] } := by
  simp [Part.frameEnded, Part.modSlot, Part.clearAccumulators]

/-- A frame's end handles its record as any part does that agrees in what records rest on. -/
theorem Part.frameEnded_alike {k : SlotIx} {p m : Part} (h : p.RecordsAlike { m with fra := p.fra })
    (hslots : m.fra.slots = p.fra.slots.set k { p.slot k with state := .free, sealing := false }) :
    (p.frameEnded k).RecordsAlike (m.submitRecord (p.abandonedRecord k)) := by
  have hended : ((p.clearAccumulators k).modSlot k fun x => { x with state := .free, sealing := false }).RecordsAlike m :=
    { h with slots := hslots.symm }
  exact { hended.submitRecord (p.abandonedRecord k) with }

/-- The assembler's state where an abandoned seal has ended (R35, R37). -/
theorem Part.abandoned_fra (k : SlotIx) (p : Part) : ((p.recordDecision k .abandoned).abandonFrame k).fra = { p.fra with
    slots := p.fra.slots.set k { p.slot k with
      state := .free
      sealing := false
      sealKind := some .abandoned
      sealTime := p.tlu.timebase }
    lastSealed := some ((p.slot k).frame, .abandoned)
    gapTimer := some (p.tlu.timebase + BitVec.ofNat 64 (1000 * p.fra.gapMs))
    abandons := min 255 (p.fra.abandons + 1) } := by
  rw [((p.recordDecision k .abandoned).abandonFrame_sameBut k .fra (by decide) :
    ((p.recordDecision k .abandoned).abandonFrame k).fra = _), Part.frameEnded_fra, Part.recordDecision_slot,
    Part.recordDecision_fra, Two.set_set]

/-- The record that an abandoned seal forms (R57, R178). -/
theorem Part.abandoned_record (k : SlotIx) (p : Part) : (p.recordDecision k .abandoned).abandonedRecord k =
    { recordOf p k p.geo .abandoned p.lpc.loop with
      sealOffset := some ((p.tlu.timebase - (p.slot k).openTime).setWidth 32)
      substituted := 0 } := by
  rw [Part.abandonedRecord_eq]
  simp only [recordOf, Part.recordDecision_slot]
  simp

/-- The record of an abandoned seal is handled as on the part with the assembler's new state (R178). -/
theorem Part.abandoned_alike (k : SlotIx) (p : Part) :
    ((p.recordDecision k .abandoned).frameEnded k).RecordsAlike
      (({ p with fra := ((p.recordDecision k .abandoned).abandonFrame k).fra } : Part).submitRecord
        ((p.recordDecision k .abandoned).abandonedRecord k)) := by
  refine Part.frameEnded_alike (by constructor <;> simp) ?_
  rw [Part.abandoned_fra, Part.recordDecision_fra, Part.recordDecision_slot, Two.set_set]

end Sys2Proof.Machine

namespace Sys2Proof.Proofs

open Sys2Proof.Machine

/-- A seal that goes on (O15's first part). -/
theorem sealGoesOn_holds : sealGoesOn := by
  intro s k hdue hfirst hgoes
  set p := s.part with hp
  have hexec : exec .sealDecision s = .next { s with part := p.sealDecision } := rfl
  obtain ⟨kind, hcomplete, hpartial, hdecided⟩ := Part.decideSeal_goesOn hgoes
  rw [Part.sealDecision_eq hdue hfirst, hdecided] at hexec
  set q := p.recordDecision k kind with hq
  have hlinks : (q.continueSeal k).links = (p.countIncomplete k).links := by
    simp [hq, Part.recordDecision_links]
  refine ⟨_, hexec, rfl, ⟨kind, hcomplete, hpartial, ?_⟩, fun hjob => ?_, fun hjob => ?_,
    incompleteCounted_congr hlinks (p.countIncomplete_counted k), ?_⟩
  · rw [Part.continueSeal_fra, hq, Part.recordDecision_fra]
  · rw [Part.continueSeal_begins k (by simpa [hq] using hjob)]
    exact substitutionBegun_congr (by simp [hq]) (by simp [hq]) (by simp [hq]) (by simp [hq])
      (by rw [show ((q.modFra _).slot k).bank = (q.slot k).bank from rfl, hq, Part.recordDecision_slot])
      (Part.startSubstitution_begun k _)
  · rw [Part.continueSeal_waits k (by simpa [hq] using hjob)]
    exact ⟨by simp [hq], by simp [hq]⟩
  · simp [Part.sameBut_iff, hq]

/-- A seal that is abandoned (O15's second part). -/
theorem abandonedSealEnds_holds : abandonedSealEnds := by
  intro s k hdue hfirst habandoned n record
  have hexec : exec .sealDecision s = .next { s with part := s.part.sealDecision } := rfl
  rw [Part.sealDecision_eq hdue hfirst, Part.decideSeal_abandoned habandoned] at hexec
  have hfra := s.part.abandoned_fra k
  have hrecord : (s.part.recordDecision k .abandoned).abandonedRecord k = record := s.part.abandoned_record k
  have halike := s.part.abandoned_alike k
  set q := s.part.recordDecision k .abandoned with hq
  have hrest := q.abandonFrame_sameBut k
  rw [hrecord] at halike
  have hlpc : (q.frameEnded k).lpc = s.part.lpc := by simp [Part.frameEnded, Part.modSlot, Part.clearAccumulators, hq]
  have hlimit : q.fra.abandonLimit ≤ min 255 (q.fra.abandons + 1) ↔ s.part.fra.abandonLimit ≤ n := by
    rw [hq, Part.recordDecision_fra]
  have hdecided := q.abandonFrame_eq k
  refine ⟨_, hexec, rfl, hfra, ?_, incompleteCounted_congr ?_ (s.part.countIncomplete_counted k),
    ⟨(hrest .tel (by decide)).trans halike.tel, fun hn => ?_, fun hn => ?_⟩, by simp [Part.sameBut_iff, hq]⟩
  · have hrca : (q.abandonFrame k).rca = (q.frameEnded k).rca := hrest .rca (by decide)
    simp only [hrca, Part.frameEnded_rca]
    simp [hq]
  · simp [hq, Part.recordDecision_links]
  · rw [if_neg (mt hlimit.mp (Nat.not_le.mpr hn))] at hdecided
    exact ⟨(congrArg Part.lpc hdecided).trans hlpc, (congrArg Part.tlu hdecided).trans halike.tlu,
      (congrArg Part.issued hdecided).trans halike.issued⟩
  · rw [if_pos (hlimit.mpr hn)] at hdecided
    have hheld : holdReported (q.frameEnded k) (q.abandonFrame k) .sensorLoss := by
      rw [hdecided]; exact (q.frameEnded k).takeHold_reported .sensorLoss
    exact holdReported_congr (hlpc.trans (by simp)) halike.tlu halike.xu halike.issued hheld

/-- Settles O15: the decision on a frame that goes on to its substitution, and on one that is abandoned. -/
theorem sealDecided : Obligations.SealDecided := ⟨sealGoesOn_holds, abandonedSealEnds_holds⟩

end Sys2Proof.Proofs
end

section
/-! SUPPORT. One slope (O18) and one visit of the conditioner (O19): the conditioned value, what substitution makes of a slope, and
what a visit leaves. -/

namespace Sys2Proof.Machine

/-! ## The conditioned value (R52) -/

/-- Saturation to 16 bits, as the statements say it. -/
theorem clamped16_saturate (z : Int) : clamped16 z (saturate (-32768) 32767 z) := by
  rcases saturate_cases (lo := -32768) (hi := 32767) (by decide) z with ⟨h, hlo, hhi⟩ | ⟨h, hhi⟩ | ⟨h, hlo⟩
  · exact .inl ⟨h, hlo, hhi⟩
  · exact .inr (.inl ⟨h, hhi⟩)
  · exact .inr (.inr ⟨h, hlo⟩)

/-- A 16-bit word holds a value that is saturated to 16 bits. -/
theorem toInt_ofInt_saturate (z : Int) :
    (BitVec.ofInt 16 (saturate (-32768) 32767 z)).toInt = saturate (-32768) 32767 z := by
  rw [BitVec.toInt_ofInt, Int.bmod_def]
  unfold saturate
  omega

/-- Rounding half up by 14 places is the floor of the quotient, half of the divisor added first. -/
theorem roundShift_fourteen (v : Int) : roundShift 14 v = (v + 8192) / 16384 := rfl

/-! ## One visit (R51 to R54) -/

/-- A slope of a flux-valid pair. -/
theorem conditionOne_eq (ref weight : BitVec 16) (j : Nat) (x : BitVec 16) (w : SlopeWork) :
    conditionOne ref weight j x w = { w with
      record := { w.record with
        status := Sparse.set .missing w.record.status j (.valid (conditionSlope x ref weight).value)
        slopeSat := w.record.slopeSat + if (conditionSlope x ref weight).saturated then 1 else 0 }
      values := w.values ++ [(j, (conditionSlope x ref weight).value)].filter fun z => z.2 ≠ 0 } := by
  rw [conditionOne, handing_eq]
  dsimp only
  split <;> rfl

/-- A record below the flux floor (R51). -/
theorem conditionRecord_invalid {par : SensorParam} {r : SegRecord} (h : r.flux.toNat < par.fluxFloor.toNat)
    (refs : Sparse (BitVec 16)) (j : Nat) (w : SlopeWork) :
    conditionRecord par refs j r w = { w with record := { w.record with
      status := Sparse.set .missing (Sparse.set .missing w.record.status j .invalid) (j + 1) .invalid
      invalidPairs := w.record.invalidPairs + 1 } } :=
  if_pos h

/-- A record whose flux reaches the floor (R51, R52). -/
theorem conditionRecord_valid {par : SensorParam} {r : SegRecord} (h : par.fluxFloor.toNat ≤ r.flux.toNat)
    (refs : Sparse (BitVec 16)) (j : Nat) (w : SlopeWork) :
    let x := conditionSlope r.x (Sparse.get 0 refs j) par.weight
    let y := conditionSlope r.y (Sparse.get 0 refs (j + 1)) par.weight
    conditionRecord par refs j r w = { w with
      record := { w.record with
        status := Sparse.set .missing (Sparse.set .missing w.record.status j (.valid x.value)) (j + 1) (.valid y.value)
        slopeSat := w.record.slopeSat + (if x.saturated then 1 else 0) + if y.saturated then 1 else 0 }
      values := w.values ++ [(j, x.value), (j + 1, y.value)].filter fun z => z.2 ≠ 0 } := by
  intro x y
  rw [conditionRecord, if_neg (Nat.not_lt.mpr h), conditionOne_eq, conditionOne_eq]
  dsimp only
  rw [List.append_assoc, ← List.filter_append]
  rfl

end Sys2Proof.Machine

namespace Sys2Proof.Proofs

open Sys2Proof.Machine

/-- The conditioned value (O18's first part). -/
theorem slopeConditioned_holds : slopeConditioned := by
  intro x ref w
  set d := saturate (-32768) 32767 (x.toInt - ref.toInt) with hd
  set z := roundShift 14 (d * (w.toNat : Int)) with hz
  have hvalue : (conditionSlope x ref w).value.toInt = saturate (-32768) 32767 z := toInt_ofInt_saturate z
  have hround : z = (d * (w.toNat : Int) + 8192) / 16384 := roundShift_fourteen _
  refine ⟨d, z, clamped16_saturate _, by omega, by omega, hvalue ▸ clamped16_saturate z, ?_⟩
  rw [hvalue]
  simp [conditionSlope, ← hd, ← hz, eq_comm (a := z)]

/-- What substitution makes of one slope (O18's second part). -/
theorem slopeSubstituted_holds : slopeSubstituted := by
  intro par k c st
  refine ⟨rfl, fun hst => ⟨standIn par k, ?_, fun hkeep hage => ?_, fun hkeep hage => ?_, fun hpolicy => ?_⟩⟩
  · rcases hst with rfl | rfl <;> rfl
  · simp [standIn, hkeep, hage]
  · simp [standIn, hkeep, Nat.not_lt.mpr hage]
  · cases hp : par.policy <;> simp_all [standIn]

/-- Settles O18: the conditioned value, and what substitution makes of a slope. -/
theorem slopesConditionedAndSubstituted : Obligations.SlopesConditionedAndSubstituted :=
  ⟨slopeConditioned_holds, slopeSubstituted_holds⟩

/-- One visit of the conditioner (O19's first part). -/
theorem oneVisit_holds : oneVisit := by
  intro c w j i r par at_ keeps x y v u sub
  have hu : u = visitSlope par j w := rfl
  have hv : v = conditionRecord par c.refLive j r w := rfl
  refine ⟨fun k hk hk' => ?_, fun hflux => ?_, fun hflux => ?_, fun k => ?_, ?_⟩
  · rcases Nat.lt_or_ge r.flux.toNat par.fluxFloor.toNat with hflux | hflux
    · simp [at_, hv, conditionRecord_invalid hflux, Sparse.get_set, hk, hk']
    · simp [at_, hv, conditionRecord_valid hflux, Sparse.get_set, hk, hk']
  · rw [hv, conditionRecord_invalid hflux]
    exact ⟨by simp [at_, Sparse.get_set], by simp [at_, Sparse.get_set], rfl⟩
  · rw [hv, conditionRecord_valid hflux]
    exact ⟨by simp [at_, Sparse.get_set, x], by simp [at_, Sparse.get_set, y], rfl⟩
  · rw [hu]
    exact ⟨Sparse.get_set _ _ _ _ _, Sparse.get_set _ _ _ _ _⟩
  · rw [hu, visitSlope, handing_eq]
    dsimp only
    split <;> simp_all [sub, at_, keeps]

end Sys2Proof.Proofs
end

section
/-! SUPPORT. Values and column bursts (O19): the value that joins the stream list, the products of a burst, the value that has been
added, and the end of an entry. -/

namespace Sys2Proof.Machine

/-! ## A value is handed on (R53, R57, R62) -/

/-- The conditioner goes on where every value of the visit reached has been handed on. -/
theorem Scn.goOn_visited {c : Scn} {kind : JobKind} {k : SlotIx} {visits : List Visit} :
    ∃ n w, visited c k visits n w ∧ Scn.goOn { c with job := some ⟨kind, k, visits, []⟩ } = { c with
      records := c.records.set k w.record
      kept := w.kept
      job := some ⟨kind, k, visits.drop n, w.values⟩ } := by
  obtain ⟨n, hn, htake, hbefore, hstops⟩ := Scn.takeUp_spec kind k visits c
  exact ⟨n, _, ⟨hn, rfl, hbefore, hstops⟩, htake⟩

/-- The conditioner waits while a value is still to be handed on. -/
theorem Scn.goOn_waits {c : Scn} {j : ScnJob} (hjob : c.job = some j) (htodo : j.todo ≠ []) : c.goOn = c := by
  simp [Scn.goOn, hjob, htodo]

/-- A column of some coefficients has a burst (R62, R75). -/
theorem columnBursts_ne_zero {a : Nat} (h : a ≠ 0) (j : Nat) : columnBursts a j ≠ 0 := by
  simp [columnBursts, h]

/-- The processing of an entry goes on while it has a visit or a value to come, or a value of its slot in the stream list (R53). -/
theorem Part.entryEnd_waits {p : Part} (hjob : ∀ d, p.scn.job = some d →
    d.kind = .substitution ∨ d.todo ≠ [] ∨ d.rest ≠ [] ∨ ∃ y ∈ p.rca.stream, y.slot = d.slot) : p.entryEnd = p := by
  unfold Part.entryEnd
  split
  · rfl
  · rename_i d hd
    refine if_neg fun h => ?_
    simp only [Part.jobAdded, Rca.noneOf, Bool.and_eq_true, decide_eq_true_eq, List.all_eq_true] at h
    obtain ⟨hkind, ⟨hrest, htodo⟩, hnone⟩ := h
    rcases hjob d hd with h | h | h | ⟨y, hy, hslot⟩
    · rw [hkind] at h; exact absurd h (by decide)
    · exact h htodo
    · exact h hrest
    · exact hnone y hy hslot

/-- The processing of an entry ends where all its visits are made and every value of its slot is added (R53). -/
theorem Part.entryEnd_added {p : Part} {k : SlotIx} (hjob : p.scn.job = some ⟨.entry, k, [], []⟩)
    (hstream : ∀ y ∈ p.rca.stream, y.slot ≠ k) : p.entryEnd = p.leaveQueue := by
  have hnone : p.rca.noneOf k = true := by simpa [Rca.noneOf] using hstream
  simp [Part.entryEnd, hjob, Part.jobAdded, hnone]

/-- An entry that leaves the queue, with no substitution waiting. -/
theorem Part.leaveQueue_of_none {p : Part} (h : p.scn.substDue = none) :
    p.leaveQueue = (p.modFra fun f => { f with queue := f.queue.tail }).modScn fun c => { c with job := none } := by
  simp [Part.leaveQueue, h]

/-- An entry that leaves the queue, with a substitution waiting, which begins (R54). -/
theorem Part.leaveQueue_of_some {p : Part} {k : SlotIx} (h : p.scn.substDue = some k) :
    p.leaveQueue =
      ((p.modScn fun c => { c with substDue := none }).leaveQueue).startSubstitution k := by
  rw [Part.leaveQueue_of_none (p := p.modScn fun c => { c with substDue := none }) rfl]
  simp only [Part.leaveQueue, Part.modScn_scn, Part.modFra_scn, h]
  rfl

@[simp] theorem Part.leaveQueue_stream (p : Part) : p.leaveQueue.rca.stream = p.rca.stream := by
  unfold Part.leaveQueue
  dsimp only
  split <;> simp

@[simp] theorem Part.entryEnd_stream (p : Part) : p.entryEnd.rca.stream = p.rca.stream := by
  unfold Part.entryEnd
  (repeat' split) <;> simp

@[simp] theorem Part.beginExtraction_acc (k : SlotIx) (p : Part) : (p.beginExtraction k).rca.acc = p.rca.acc := rfl

@[simp] theorem Part.startSubstitution_acc (k : SlotIx) (p : Part) : (p.startSubstitution k).rca.acc = p.rca.acc := by
  unfold Part.startSubstitution
  dsimp only
  split <;> simp

@[simp] theorem Part.entryEnd_acc (p : Part) : p.entryEnd.rca.acc = p.rca.acc := by
  unfold Part.entryEnd Part.leaveQueue
  dsimp only
  (repeat' split) <;> simp

/-! ## The products of a burst (R63) -/

/-- A burst that has arrived, and whose products have been added (R63). -/
def Part.burstAdded (k : SlotIx) (j : Nat) (c : BitVec 16) (b : BankIx) (first count : Nat) (p : Part) : Part :=
  ((p.modMxs Mxs.dropBurst).addBurst k j c b first count).burstArrived k j

/-- An accumulator of the burst's slot: the product is added where the burst carries its coefficient (R63). -/
theorem Part.burstAdded_at (k : SlotIx) (j : Nat) (c : BitVec 16) (b : BankIx) (first count : Nat) (p : Part) (a : Nat) :
    let width := (p.mxs.banks.get b).a
    accumulatorAt (p.burstAdded k j c b first count) k a =
      if ∃ n < count, a = first + n - j * width then
        accumulate (accumulatorAt p k a) c (p.coefficient b (j * width + a))
      else accumulatorAt p k a := by
  intro width
  have hacc : (p.burstAdded k j c b first count).rca.acc.get k = _ := Two.get_set_self _ _ _
  have hmem : (a ∈ (List.range count).map fun n => first + n - j * width) ↔ ∃ n < count, a = first + n - j * width := by
    simp [eq_comm]
  rw [accumulatorAt, hacc, Sparse.get_setAll]
  simp only [← hmem]
  rfl

/-- The other slot's set is left as it is. -/
theorem Part.burstAdded_other (k : SlotIx) (j : Nat) (c : BitVec 16) (b : BankIx) (first count : Nat) (p : Part) :
    (p.burstAdded k j c b first count).rca.acc.get (other k) = p.rca.acc.get (other k) :=
  Two.get_set_other _ _ _ _ (other_ne k)

/-! ## The stream list (R62, R63) -/

/-- The blocks of 256 bytes that a column of 16-bit coefficients touches are its bursts. -/
theorem columnBursts_eq_blocks (a j : Nat) :
    columnBursts a j = if a = 0 then 0 else (2 * (j * a + a) - 1) / 256 - 2 * (j * a) / 256 + 1 := by
  unfold columnBursts
  generalize j * a = n
  split <;> omega

/-- Entries that are not of a slot and slope stay as they are. -/
theorem modStream_append {k : SlotIx} {j : Nat} (g : StreamEntry → StreamEntry) {before : List StreamEntry}
    (h : ∀ z ∈ before, ¬ (z.slot = k ∧ z.slope = j)) {y : StreamEntry} (hy : y.slot = k ∧ y.slope = j)
    (after : List StreamEntry) : modStream k j g (before ++ y :: after) = before ++ g y :: after := by
  induction before with
  | nil => simp [modStream, hy]
  | cons z rest ih =>
    have hz := h z List.mem_cons_self
    simp only [List.cons_append, modStream, Bool.and_eq_true, decide_eq_true_eq, if_neg hz]
    rw [ih fun z hz => h z (List.mem_cons_of_mem _ hz)]

theorem mem_modStream {k : SlotIx} {j : Nat} {g : StreamEntry → StreamEntry} {l : List StreamEntry} {y : StreamEntry}
    (h : y ∈ modStream k j g l) : y ∈ l ∨ ∃ z ∈ l, y = g z := by
  induction l with
  | nil => exact .inl h
  | cons z rest ih =>
    unfold modStream at h
    split at h
    · rcases List.mem_cons.mp h with rfl | h
      · exact .inr ⟨z, List.mem_cons_self, rfl⟩
      · exact .inl (List.mem_cons_of_mem _ h)
    · rcases List.mem_cons.mp h with rfl | h
      · exact .inl List.mem_cons_self
      · rcases ih h with h | ⟨w, hw, rfl⟩
        · exact .inl (List.mem_cons_of_mem _ h)
        · exact .inr ⟨w, List.mem_cons_of_mem _ hw, rfl⟩

/-- A value whose burst has arrived is one burst further, and leaves the list after the last one (R63). -/
theorem Part.burstArrived_stream {p : Part} {k : SlotIx} {j : Nat} {before after : List StreamEntry} {y : StreamEntry}
    (hstream : p.rca.stream = before ++ y :: after) (hy : y.slot = k ∧ y.slope = j)
    (hothers : ∀ z ∈ before ++ after, ¬ (z.slot = k ∧ z.slope = j)) :
    (p.burstArrived k j).rca.stream = before ++
      (if columnBursts (p.slotRecord k).a j ≤ y.arrived + 1 then [] else [{ y with arrived := y.arrived + 1 }]) ++ after := by
  have hkept (l : List StreamEntry) (hl : ∀ z ∈ l, ¬ (z.slot = k ∧ z.slope = j)) :
      (l.filter fun e => !(e.slot = k && e.slope = j && columnBursts (p.slotRecord k).a j ≤ e.arrived)) = l := by
    refine List.filter_eq_self.mpr fun z hz => ?_
    have := hl z hz
    simp only [Bool.not_eq_true', Bool.and_eq_false_iff, decide_eq_false_iff_not]
    tauto
  simp only [Part.burstArrived, Part.modRca_rca, hstream]
  rw [modStream_append _ (fun z hz => hothers z (List.mem_append_left _ hz)) hy, List.filter_append, List.filter_cons,
    hkept before fun z hz => hothers z (List.mem_append_left _ hz),
    hkept after fun z hz => hothers z (List.mem_append_right _ hz)]
  by_cases hlast : columnBursts (p.slotRecord k).a j ≤ y.arrived + 1 <;> simp [hy, hlast]

theorem Part.mem_burstArrived {p : Part} {k : SlotIx} {j : Nat} {y : StreamEntry}
    (h : y ∈ (p.burstArrived k j).rca.stream) :
    y ∈ p.rca.stream ∨ ∃ z ∈ p.rca.stream, y = { z with arrived := z.arrived + 1 } :=
  mem_modStream (List.mem_of_mem_filter h)

/-! ## A column burst (R63, R71) -/

theorem Part.columnBurstArrival_eq {p : Part} {k : SlotIx} {j : Nat} {c : BitVec 16} {b : BankIx} {first count : Nat}
    {dropped : Bool} {more : List Burst} (h : p.mxs.bursts = .stream k j c b first count dropped :: more) :
    p.columnBurstArrival =
      if dropped then p.modMxs Mxs.dropBurst else (p.burstAdded k j c b first count).entryEnd := by
  simp [Part.columnBurstArrival, h, Part.burstAdded]

theorem Part.burstAdded_mxs (k : SlotIx) (j : Nat) (c : BitVec 16) (b : BankIx) (first count : Nat) (p : Part) :
    (p.burstAdded k j c b first count).mxs = { p.mxs with bursts := p.mxs.bursts.tail } := by
  simp [Part.burstAdded, Mxs.dropBurst]

/-- A burst's products change the accumulators and the stream list, and the burst is gone. -/
theorem Part.burstAdded_sameBut (k : SlotIx) (j : Nat) (c : BitVec 16) (b : BankIx) (first count : Nat) (p : Part) :
    (p.burstAdded k j c b first count).sameBut p [.mxs, .rca] := by
  simp [Part.sameBut_iff, Part.burstAdded]

theorem Part.burstAdded_rca (k : SlotIx) (j : Nat) (c : BitVec 16) (b : BankIx) (first count : Nat) (p : Part) :
    (p.burstAdded k j c b first count).rca = { p.rca with
      acc := (p.burstAdded k j c b first count).rca.acc
      stream := (p.burstAdded k j c b first count).rca.stream } := rfl

end Sys2Proof.Machine

namespace Sys2Proof.Proofs

open Sys2Proof.Machine

/-- A value that is handed on (O19's second part). -/
theorem valueHandedOn_holds : valueHandedOn := by
  intro s kind k visits j c todo hjob
  have hexec : exec .handOnValue s = .next { s with part := s.part.handOnValue } := rfl
  constructor
  · intro hfull
    rw [hexec, Part.handOnValue, hjob]
    simp [Nat.not_lt.mpr hfull]
  · intro hroom ha
    set m := s.part.modScn fun x => Scn.goOn { x with job := some ⟨kind, k, visits, todo⟩ } with hm
    have hstreams : m.streamValue k j c = m.modRca fun r => { r with stream := r.stream ++ [⟨k, j, c, 0, 0⟩] } :=
      if_neg (columnBursts_ne_zero ha j)
    have hslot (d : ScnJob) (hd : m.scn.job = some d) : d.slot = k := by
      rcases Scn.goOn_cases { s.part.scn with job := some ⟨kind, k, visits, todo⟩ } with h | ⟨d', n, hd', -, -, h⟩
      · rw [show m.scn = _ from h] at hd
        obtain rfl : _ = d := by simpa using hd
        rfl
      · rw [show m.scn = _ from h] at hd
        obtain rfl : _ = d' := by simpa using hd'
        obtain rfl : _ = d := by simpa using hd
        rfl
    have hend : (m.streamValue k j c).entryEnd = m.streamValue k j c := by
      rw [hstreams]
      exact Part.entryEnd_waits fun d hd => .inr (.inr (.inr ⟨⟨k, j, c, 0, 0⟩, by simp, (hslot d hd).symm⟩))
    have hpart : s.part.handOnValue = m.streamValue k j c := by
      rw [← hend, Part.handOnValue, hjob]
      exact if_pos hroom
    rw [hpart, hstreams] at hexec
    refine ⟨_, hexec, rfl, rfl, fun htodo => ?_, fun htodo => ?_, by simp [Part.sameBut_iff, hm]⟩
    · exact Scn.goOn_waits (c := { s.part.scn with job := some ⟨kind, k, visits, todo⟩ }) rfl htodo
    · subst htodo
      exact Scn.goOn_visited

/-- A column burst that arrives (O19's third part). -/
theorem columnBurstAdds_holds : columnBurstAdds := by
  intro s k j c b first count dropped more hbursts width
  have hexec : exec .columnBurstArrival s = .next { s with part := s.part.columnBurstArrival } := rfl
  rw [Part.columnBurstArrival_eq hbursts] at hexec
  cases dropped with
  | true =>
    refine ⟨_, hexec, rfl, ?_, fun _ => ?_, by simp⟩
    · simp [Mxs.dropBurst, hbursts]
    · simp [Part.sameBut_iff]
  | false =>
    set m := s.part.burstAdded k j c b first count with hm
    replace hexec : exec .columnBurstArrival s = .next { s with part := m.entryEnd } := hexec
    have hmxs : m.entryEnd.mxs = { s.part.mxs with bursts := more } := by
      simp [hm, Part.burstAdded_mxs, hbursts]
    have hat (a : Nat) : accumulatorAt m.entryEnd k a = accumulatorAt m k a := by simp [accumulatorAt]
    have hadd (a : Nat) : accumulatorAt m k a = _ := s.part.burstAdded_at k j c b first count a
    have hsame := s.part.burstAdded_sameBut k j c b first count
    rw [← hm] at hsame
    refine ⟨_, hexec, rfl, hmxs, fun h => absurd h (by decide), fun _ => ⟨fun a ha => ?_, fun a ha => ?_, ?_, ?_, ?_, ?_, ?_⟩⟩
    · rw [hat, hadd, if_pos ha]; rfl
    · rw [hat, hadd, if_neg (by simpa using ha)]
    · rw [Part.entryEnd_acc]; exact s.part.burstAdded_other k j c b first count
    · intro y hy
      rw [Part.entryEnd_stream] at hy
      exact Part.mem_burstArrived hy
    · intro before y after hstream hk hj hothers column blocks
      have hblocks : columnBursts (s.part.slotRecord k).a j = blocks := columnBursts_eq_blocks _ _
      rw [Part.entryEnd_stream, ← hblocks]
      exact Part.burstArrived_stream (p := (s.part.modMxs Mxs.dropBurst).addBurst k j c b first count) hstream ⟨hk, hj⟩ hothers
    · intro hstream hjob
      rw [Part.entryEnd_stream] at hstream
      obtain ⟨y, hy, hyk⟩ := hstream
      have hwaits : m.entryEnd = m := Part.entryEnd_waits fun d hd => by
        rcases hjob d hd with h | h | h | h
        · exact .inl h
        · exact .inr (.inr (.inr ⟨y, hy, hyk.trans h.symm⟩))
        · exact .inr (.inl h)
        · exact .inr (.inr (.inl h))
      rw [hwaits]
      exact hsame
    · intro hjob hstream
      rw [Part.entryEnd_stream] at hstream
      have hend : m.entryEnd = m.leaveQueue := Part.entryEnd_added hjob hstream
      have hfra : m.leaveQueue.fra = { s.part.fra with queue := s.part.fra.queue.tail } := by
        rw [Part.leaveQueue]
        dsimp only
        split <;> simp [show m.fra = s.part.fra from rfl]
      rw [hend]
      refine ⟨hfra, ?_, fun hdue => ?_, fun d hdue => ?_⟩
      · have hleave : m.leaveQueue.sameBut m [.mxs, .rca, .scn, .fra] := by simp [Part.sameBut_iff]
        exact hleave.trans (hsame.mono (by simp)) (by simp)
      · rw [Part.leaveQueue_of_none (p := m) hdue]
        exact ⟨rfl, s.part.burstAdded_rca k j c b first count⟩
      · set q := (m.modScn fun c => { c with substDue := none }).leaveQueue with hq
        have hqexec : exec .columnBurstArrival
            { s with part := { s.part with scn := { s.part.scn with substDue := none } } } =
            .next { s with part := q } := by
          rw [exec_eq_after]
          refine congrArg (fun p => Host.Outcome.next { s with part := p }) ?_
          refine (Part.columnBurstArrival_eq (p := { s.part with scn := { s.part.scn with substDue := none } }) hbursts).trans ?_
          exact Part.entryEnd_added (p := m.modScn fun c => { c with substDue := none }) hjob hstream
        refine ⟨_, hqexec, ?_, ?_⟩
        · rw [Part.leaveQueue_of_some (p := m) hdue]; exact q.startSubstitution_begun d
        · rw [Part.leaveQueue_of_some (p := m) hdue]; simp [Part.sameBut_iff, hq]

/-- Settles O19: one visit, a value that is handed on, and a column burst that arrives. -/
theorem valuesStreamAndAdd : Obligations.ValuesStreamAndAdd :=
  ⟨oneVisit_holds, valueHandedOn_holds, columnBurstAdds_holds⟩

end Sys2Proof.Proofs
end

section
/-! SUPPORT. The conditioner takes up an entry (O17): what the visits of its records leave, and where they stop. -/

namespace Sys2Proof.Machine

/-! ## The records of an entry (R22, R51) -/

/-- How many of the two slopes of record n saturate as they are conditioned (R52). -/
def recordSaturations (p : Part) (seg : Segment) (n : Nat) : Nat :=
  let r := seg.records.getD n ⟨0, 0, 0⟩
  let c := conditionedPair p seg.link (slopeOfRecord p seg n) r
  if fluxInvalid p seg.link r then 0 else (if c.1.saturated then 1 else 0) + if c.2.saturated then 1 else 0

/-- The saturations of the first n records, one record at a time. -/
theorem saturations_take (p : Part) (seg : Segment) {n : Nat} (h : n ≤ seg.records.length) :
    saturations p { seg with records := seg.records.take n } = ((List.range n).map (recordSaturations p seg)).sum := by
  have hlength : (seg.records.take n).length = n := by simp [h]
  rw [saturations, hlength]
  refine congrArg List.sum (List.map_congr_left fun m hm => ?_)
  have hget : (seg.records.take n).getD m ⟨0, 0, 0⟩ = seg.records.getD m ⟨0, 0, 0⟩ := by
    simp [List.getD_eq_getElem?_getD, List.mem_range.mp hm]
  rw [hget]
  rfl

theorem Geometry.entryVisits_length (g : Geometry) (seg : Segment) : (g.entryVisits seg).length = seg.records.length := by
  simp [Geometry.entryVisits]

theorem entryVisits_drop (p : Part) (seg : Segment) (n : Nat) : (p.geo.entryVisits seg).drop n =
    (seg.records.zipIdx.drop n).map fun x => .record (slopeOfRecord p seg x.2) seg.link x.1 := by
  rw [Geometry.entryVisits, ← List.map_drop]; rfl

/-- The visits of the records up to one, with that one. -/
theorem foldl_entryVisits_succ (p : Part) (seg : Segment) {n : Nat} {r : SegRecord} (h : seg.records[n]? = some r)
    (w : SlopeWork) :
    ((p.geo.entryVisits seg).take (n + 1)).foldl (makeVisit p.scn) w =
      conditionRecord (p.scn.parLive.get seg.link) p.scn.refLive (slopeOfRecord p seg n) r
        (((p.geo.entryVisits seg).take n).foldl (makeVisit p.scn) w) := by
  have hvisit : (p.geo.entryVisits seg)[n]? = some (.record (slopeOfRecord p seg n) seg.link r) := by
    simp [Geometry.entryVisits, h, slopeOfRecord, Geometry.slopeOf]
  rw [List.take_add_one, hvisit, List.foldl_append]
  rfl

/-- No two records share a slope (R22). -/
theorem slopeOfRecord_ne (p : Part) (seg : Segment) {m n : Nat} (h : m < n) :
    slopeOfRecord p seg m + 1 < slopeOfRecord p seg n := by
  unfold slopeOfRecord; omega

/-! ## What the visits leave (R51 to R53) -/

/-- The work w after the first n records of an entry of slot k have been judged and conditioned. -/
structure EntryVisits (p : Part) (k : SlotIx) (seg : Segment) (n : Nat) (w : SlopeWork) : Prop where
  invalid : ∀ m r, seg.records[m]? = some r → m < n → fluxInvalid p seg.link r = true →
    Sparse.get .missing w.record.status (slopeOfRecord p seg m) = .invalid ∧
      Sparse.get .missing w.record.status (slopeOfRecord p seg m + 1) = .invalid
  valid : ∀ m r, seg.records[m]? = some r → m < n → fluxInvalid p seg.link r = false →
    Sparse.get .missing w.record.status (slopeOfRecord p seg m) =
        .valid (conditionedPair p seg.link (slopeOfRecord p seg m) r).1.value ∧
      Sparse.get .missing w.record.status (slopeOfRecord p seg m + 1) =
        .valid (conditionedPair p seg.link (slopeOfRecord p seg m) r).2.value
  others : ∀ x, (∀ m < n, x ≠ slopeOfRecord p seg m ∧ x ≠ slopeOfRecord p seg m + 1) →
    Sparse.get .missing w.record.status x = slopeStatus p k x
  counts : w.record = { p.scn.records.get k with
    status := w.record.status
    invalidPairs := (p.scn.records.get k).invalidPairs + (seg.records.take n).countP (fluxInvalid p seg.link)
    slopeSat := (p.scn.records.get k).slopeSat + ((List.range n).map (recordSaturations p seg)).sum }
  kept : w.kept = p.scn.kept
  values : w.values = (List.range n).flatMap (recordValues p seg)

/-- Before the first record nothing has changed. -/
theorem EntryVisits.zero (p : Part) (k : SlotIx) (seg : Segment) :
    EntryVisits p k seg 0 ⟨p.scn.records.get k, p.scn.kept, []⟩ where
  invalid := fun _ _ _ h => absurd h (Nat.not_lt_zero _)
  valid := fun _ _ _ h => absurd h (Nat.not_lt_zero _)
  others := fun _ _ => rfl
  counts := by simp
  kept := rfl
  values := rfl

/-- A table that gets two entries one after the other. -/
theorem Sparse.get_set_pair {α : Type} [DecidableEq α] (d : α) (t : Sparse α) (j : Nat) (u v : α) (x : Nat) :
    Sparse.get d (Sparse.set d (Sparse.set d t j u) (j + 1) v) x =
      if x = j + 1 then v else if x = j then u else Sparse.get d t x := by
  rw [Sparse.get_set, Sparse.get_set]

/-- One record more. -/
theorem EntryVisits.succ {p : Part} {k : SlotIx} {seg : Segment} {n : Nat} {w : SlopeWork} (h : EntryVisits p k seg n w)
    {r : SegRecord} (hr : seg.records[n]? = some r) :
    EntryVisits p k seg (n + 1)
      (conditionRecord (p.scn.parLive.get seg.link) p.scn.refLive (slopeOfRecord p seg n) r w) := by
  set j := slopeOfRecord p seg n with hj
  have hcount : (seg.records.take (n + 1)).countP (fluxInvalid p seg.link) =
      (seg.records.take n).countP (fluxInvalid p seg.link) + if fluxInvalid p seg.link r then 1 else 0 := by
    rw [List.take_add_one, hr, List.countP_append]
    simp [List.countP_cons]
  have hbefore (m : Nat) (hm : m < n) : slopeOfRecord p seg m ≠ j ∧ slopeOfRecord p seg m ≠ j + 1 ∧
      slopeOfRecord p seg m + 1 ≠ j ∧ slopeOfRecord p seg m + 1 ≠ j + 1 := by
    have := slopeOfRecord_ne p seg hm
    omega
  have hothers {u v : SlopeStatus} (x : Nat)
      (hx : ∀ m < n + 1, x ≠ slopeOfRecord p seg m ∧ x ≠ slopeOfRecord p seg m + 1) :
      Sparse.get .missing (Sparse.set .missing (Sparse.set .missing w.record.status j u) (j + 1) v) x = slopeStatus p k x := by
    rw [Sparse.get_set_pair, if_neg (hx n (by omega)).2, if_neg (hx n (by omega)).1]
    exact h.others x fun m hm => hx m (by omega)
  cases hflux : fluxInvalid p seg.link r with
  | true =>
    rw [conditionRecord_invalid (of_decide_eq_true hflux)]
    refine ⟨fun m r' hm hmn hf => ?_, fun m r' hm hmn hf => ?_, fun x hx => by dsimp only; exact hothers x hx, ?_, h.kept, ?_⟩
    · rcases Nat.lt_succ_iff_lt_or_eq.mp hmn with hmn | rfl
      · simpa [Sparse.get_set_pair, hbefore m hmn] using h.invalid m r' hm hmn hf
      · simp [Sparse.get_set_pair, ← hj]
    · rcases Nat.lt_succ_iff_lt_or_eq.mp hmn with hmn | rfl
      · simpa [Sparse.get_set_pair, hbefore m hmn] using h.valid m r' hm hmn hf
      · obtain rfl : r = r' := by simpa [hr] using hm
        exact absurd (hflux.symm.trans hf) (by decide)
    · rw [h.counts, hcount, List.range_succ]
      simp [recordSaturations, hr, hflux, Nat.add_assoc]
    · rw [List.range_succ, List.flatMap_append, ← h.values]
      simp [recordValues, hr, hflux]
  | false =>
    rw [conditionRecord_valid (Nat.not_lt.mp (of_decide_eq_false hflux))]
    refine ⟨fun m r' hm hmn hf => ?_, fun m r' hm hmn hf => ?_, fun x hx => by dsimp only; exact hothers x hx, ?_, h.kept, ?_⟩
    · rcases Nat.lt_succ_iff_lt_or_eq.mp hmn with hmn | rfl
      · simpa [Sparse.get_set_pair, hbefore m hmn] using h.invalid m r' hm hmn hf
      · obtain rfl : r = r' := by simpa [hr] using hm
        exact absurd (hflux.symm.trans hf) (by decide)
    · rcases Nat.lt_succ_iff_lt_or_eq.mp hmn with hmn | rfl
      · simpa [Sparse.get_set_pair, hbefore m hmn] using h.valid m r' hm hmn hf
      · obtain rfl : r = r' := by simpa [hr] using hm
        simp [Sparse.get_set_pair, ← hj, conditionedPair]
    · rw [h.counts, hcount, List.range_succ]
      simp [recordSaturations, hr, hflux, conditionedPair, ← hj, Nat.add_assoc]
    · rw [List.range_succ, List.flatMap_append, ← h.values]
      simp [recordValues, hr, hflux, conditionedPair, ← hj]

/-- What the visits of the first n records leave. -/
theorem entryVisits_foldl (p : Part) (k : SlotIx) (seg : Segment) (n : Nat) (h : n ≤ seg.records.length) :
    EntryVisits p k seg n
      (((p.geo.entryVisits seg).take n).foldl (makeVisit p.scn) ⟨p.scn.records.get k, p.scn.kept, []⟩) := by
  induction n with
  | zero => exact .zero p k seg
  | succ n ih =>
    have hr : seg.records[n]? = some seg.records[n] := List.getElem?_eq_getElem h
    rw [foldl_entryVisits_succ p seg hr]
    exact (ih (by omega)).succ hr

/-- The end of an entry for which no substitution waits is between the conditioner and the work queue (R53). -/
theorem Part.entryEnd_sameBut {p : Part} (h : p.scn.substDue = none) : p.entryEnd.sameBut p [.scn, .fra] := by
  unfold Part.entryEnd
  (repeat' split) <;> simp [Part.sameBut_iff, Part.leaveQueue_of_none h]

/-- An entry whose visits are all made and have no value to hand on ends, unless a value of its slot is still to be added (R53). -/
theorem Part.entryEnd_silent {p : Part} {k : SlotIx} (hjob : p.scn.job = some ⟨.entry, k, [], []⟩) (hdue : p.scn.substDue = none) :
    ∃ job queue, p.entryEnd.scn = { p.scn with job := job } ∧ p.entryEnd.fra = { p.fra with queue := queue } ∧
      ((∃ y ∈ p.rca.stream, y.slot = k) → queue = p.fra.queue ∧ job = p.scn.job) ∧
      ((∀ y ∈ p.rca.stream, y.slot ≠ k) → queue = p.fra.queue.tail ∧ job = none) := by
  by_cases hstream : ∃ y ∈ p.rca.stream, y.slot = k
  · obtain ⟨y, hy, hyk⟩ := hstream
    have hwaits : p.entryEnd = p := Part.entryEnd_waits fun d hd => by
      obtain rfl : _ = d := Option.some.inj (hjob.symm.trans hd)
      exact .inr (.inr (.inr ⟨y, hy, hyk⟩))
    rw [hwaits]
    exact ⟨_, _, rfl, rfl, fun _ => ⟨rfl, rfl⟩, fun h => absurd hyk (h y hy)⟩
  · have hnone : ∀ y ∈ p.rca.stream, y.slot ≠ k := by simpa using hstream
    rw [Part.entryEnd_added hjob hnone, Part.leaveQueue_of_none hdue]
    exact ⟨none, _, rfl, rfl, fun h => absurd h hstream, fun _ => ⟨rfl, rfl⟩⟩

/-- Records that give no value give none of the entry's values. -/
theorem EntryVisits.silent {p : Part} {k : SlotIx} {seg : Segment} {n : Nat} {w : SlopeWork} (h : EntryVisits p k seg n w)
    (hw : w.values = []) {m : Nat} (hm : m < n) : recordValues p seg m = [] :=
  List.flatMap_eq_nil_iff.mp (h.values.symm.trans hw) m (List.mem_range.mpr hm)

end Sys2Proof.Machine

namespace Sys2Proof.Proofs

open Sys2Proof.Machine

/-- Settles O17: the visits of the entry's records go on up to the first that gives a value, and an entry without any value ends
where its slot has nothing left to add. -/
theorem entryIsConditioned : Obligations.EntryIsConditioned := by
  intro s e rest hqueue hjob hdue p seg i j count before
  have hfree : p.scn.free = true := by simp [Scn.free, p, hjob, hdue]
  have hexec : exec .processEntry s =
      .next { s with part := (p.modScn (Scn.takeUp .entry e.slot (p.geo.entryVisits seg))).entryEnd } := by
    rw [show exec .processEntry s = .next { s with part := p.processEntry } from rfl, Part.processEntry, hqueue]
    simp only [hfree, if_true]
    rfl
  obtain ⟨n, hn, htake, hbefore, hstops⟩ := Scn.takeUp_spec .entry e.slot (p.geo.entryVisits seg) p.scn
  rw [Geometry.entryVisits_length] at hn hstops
  have hvisits := entryVisits_foldl p e.slot seg
  set w := ((p.geo.entryVisits seg).take n).foldl (makeVisit p.scn) ⟨p.scn.records.get e.slot, p.scn.kept, []⟩ with hw
  have hwork := hvisits n hn
  rw [← hw] at hwork
  set m := p.modScn (Scn.takeUp .entry e.slot (p.geo.entryVisits seg)) with hm
  have hmscn : m.scn = { p.scn with
      records := p.scn.records.set e.slot w.record
      job := some ⟨.entry, e.slot, (p.geo.entryVisits seg).drop n, w.values⟩ } := by
    rw [show m.scn = _ from htake, hwork.kept]
  have hmdue : m.scn.substDue = none := by rw [hmscn]; exact hdue
  have hsilent (x : Nat) (hx : x + 1 < n) : recordValues p seg x = [] :=
    (hvisits (x + 1) (by omega)).silent (hbefore (x + 1) hx) (by omega)
  have hcounts := hwork.counts
  rw [← saturations_take p seg hn] at hcounts
  suffices h : ∃ (job : Option ScnJob) (queue : List QueueEntry),
      m.entryEnd.scn = { p.scn with records := p.scn.records.set e.slot w.record, job := job } ∧
      m.entryEnd.fra = { p.fra with queue := queue } ∧
      ((n = count ∧ (∀ x < count, recordValues p seg x = []) ∧
          ((∃ y ∈ p.rca.stream, y.slot = e.slot) → queue = e :: rest ∧ job = some ⟨.entry, e.slot, [], []⟩) ∧
          ((∀ y ∈ p.rca.stream, y.slot ≠ e.slot) → queue = rest ∧ job = none)) ∨
        ∃ x, x < count ∧ x + 1 = n ∧ recordValues p seg x ≠ [] ∧ queue = e :: rest ∧
          job = some ⟨.entry, e.slot, (seg.records.zipIdx.drop n).map fun y => .record (j y.2) i y.1,
            recordValues p seg x⟩) by
    obtain ⟨job, queue, hscn, hfra, hlast⟩ := h
    have hstatus (x : Nat) : slopeStatus m.entryEnd e.slot x = Sparse.get .missing w.record.status x := by
      rw [slopeStatus, hscn, Two.get_set_self]
    have hrest : m.entryEnd.sameBut p [.scn, .fra] :=
      (Part.entryEnd_sameBut hmdue).trans (by simp [Part.sameBut_iff, hm]) (by simp)
    refine ⟨_, job, queue, w.record, hexec, rfl, hscn, hfra, hrest, n, hn, ?_, ?_, ?_, ?_, ?_, ?_, hsilent, hlast⟩
    · simpa only [hstatus] using hwork.invalid
    · simpa only [hstatus] using hwork.valid
    · simpa only [hstatus] using hwork.others
    · rw [hcounts]
    · rw [hcounts]
    · rw [hcounts]
  have hmfra : m.fra = { p.fra with queue := e :: rest } := by rw [← hqueue]; rfl
  have hslot (d : ScnJob) (hd : m.scn.job = some d) : d.slot = e.slot ∧ d.todo = w.values := by
    rw [hmscn] at hd
    obtain rfl : _ = d := by simpa using hd
    exact ⟨rfl, rfl⟩
  by_cases hvalues : w.values = []
  · have hn' : n = count := hn.antisymm (not_lt.mp fun hlt => hstops hlt hvalues)
    have hall (x : Nat) (hx : x < count) : recordValues p seg x = [] := hwork.silent hvalues (hn' ▸ hx)
    have hdone : (p.geo.entryVisits seg).drop n = [] :=
      List.drop_of_length_le (by rw [Geometry.entryVisits_length, hn'])
    rw [hvalues, hdone] at hmscn
    obtain ⟨job, queue, hscn, hfra, hwaits, hleaves⟩ := Part.entryEnd_silent (p := m) (by rw [hmscn]) hmdue
    rw [hmfra] at hfra hwaits hleaves
    rw [hmscn] at hscn hwaits
    exact ⟨job, queue, hscn, hfra, .inl ⟨hn', hall, hwaits, hleaves⟩⟩
  · obtain ⟨x, rfl⟩ : ∃ x, n = x + 1 := Nat.exists_eq_succ_of_ne_zero fun h0 => hvalues (by rw [hwork.values, h0]; rfl)
    have hlast : w.values = recordValues p seg x := by
      have := (hvisits x (by omega)).values.symm.trans (hbefore x (by omega))
      rw [hwork.values, List.range_succ, List.flatMap_append, this]
      simp
    have hwaits : m.entryEnd = m := Part.entryEnd_waits fun d hd => .inr (.inl ((hslot d hd).2 ▸ hvalues))
    rw [hwaits, hmscn, entryVisits_drop, hlast]
    exact ⟨_, _, rfl, hmfra, .inr ⟨x, by omega, rfl, hlast ▸ hvalues, rfl, rfl⟩⟩

end Sys2Proof.Proofs
end

section
/-! SUPPORT. The transfer lane: results and events while the lane changes, the work that an early end drops, a host access failure,
and the queue's heads. -/

namespace Sys2Proof.Machine

/-! ## What reports rest on in the exchange unit (R152, R153, R206) -/

/-- Two states of the exchange unit place results alike and report alike: in the area's place and the function's configuration. -/
structure Xu.ReportsAs (x y : Xu) : Prop where
  base : x.base = y.base
  mem : x.memRequests = y.memRequests
  msi : x.msiEnabled = y.msiEnabled

theorem Part.hostWrite_modXu {g : Xu → Xu} {p : Part} (h : (g p.xu).ReportsAs p.xu) (a : BitVec 64) (d : List Byte) :
    (p.modXu g).hostWrite a d = (p.hostWrite a d).modXu g := by
  unfold Part.hostWrite
  rw [Part.modXu_xu, h.mem]
  split <;> rfl

theorem Part.sendMsi_modXu {g : Xu → Xu} {p : Part} (h : (g p.xu).ReportsAs p.xu) :
    (p.modXu g).sendMsi = p.sendMsi.modXu g := by
  unfold Part.sendMsi
  rw [Part.modXu_xu, h.mem, h.msi]
  split <;> rfl

theorem Part.raise_modXu {g : Xu → Xu} {p : Part} (h : (g p.xu).ReportsAs p.xu) (e : Event) :
    (p.modXu g).raise e = (p.raise e).modXu g := by
  unfold Part.raise
  rw [Part.modXu_tlu]
  by_cases hflag : p.tlu.events.getLsbD e.bit = true
  · rw [if_pos hflag, if_pos hflag]
  · by_cases hmask : p.tlu.mask.getLsbD e.bit = true
    · rw [if_neg hflag, if_neg hflag, if_pos hmask, if_pos hmask]
      exact Part.sendMsi_modXu (p := p.modTlu fun l => { l with events := withFlag l.events e }) h
    · rw [if_neg hflag, if_neg hflag, if_neg hmask, if_neg hmask]
      rfl

/-- A result is written and reported alike where the exchange unit changes in what it does not rest on. -/
theorem Part.finish_modXu {g : Xu → Xu} {p : Part} (h : (g p.xu).ReportsAs p.xu) (ref : OrderRef) (r : OrderResult) :
    (p.modXu g).finish ref r = (p.finish ref r).modXu g := by
  have hwrite : (p.modXu g).writeResult ref r = (p.writeResult ref r).modXu g := by
    have haddr : (p.modXu g).slotAddr ref.slot = p.slotAddr ref.slot := by simp [Part.slotAddr, Part.area, h.base]
    rw [Part.writeResult, haddr, Part.hostWrite_modXu h, Part.hostWrite_modXu (by simpa using h)]
    rfl
  unfold Part.finish
  dsimp only
  rw [hwrite, Part.raise_modXu (by simpa using h)]
  split <;> rfl

/-- A finished order rests on the TLU, on what was issued, and on the exchange unit's part in reports. -/
theorem orderFinished_of_reports {p q t : Part} {h : OrderHead} {r : OrderResult} (htlu : q.tlu = p.tlu)
    (hissued : q.issued = p.issued) (hxu : q.xu.ReportsAs p.xu) (hf : orderFinished q t h r) : orderFinished p t h r := by
  obtain ⟨h1, h2⟩ := hf
  have hs : q.signal .orderFinished = p.signal .orderFinished :=
    Part.signal_congr _ (by rw [htlu]) (by rw [htlu]) hxu.mem hxu.msi
  have hw : resultWrites q h r = resultWrites p h r := resultWrites_congr h r hxu.base hxu.mem (by rw [htlu])
  exact ⟨by rw [h1, htlu], by rw [h2, hissued, hs, hw]⟩

/-! ## Early ends (R49, R81, R87, R88, R109, R123, R169, R170, R193) -/

theorem loaderOrphaned_eq : loaderOrphaned = Burst.orphan := by
  funext b; cases b <;> rfl

theorem readerDropped_eq : readerDropped = Burst.abandon := by
  funext b; cases b <;> rfl

/-- The dropped work of each kind of transfer, as the statements name it. -/
theorem Part.dropWork_dropped (op : BulkOp) (p : Part) : workDropped op p (p.dropWork op) := by
  cases op with
  | loadMatrix b s a e check =>
    exact ⟨by simp [Part.dropWork, Part.dropMatrixLoad, Part.modBank, loaderOrphaned_eq],
      by simp [Part.sameBut_iff, Part.dropWork]⟩
  | readBank b first columns =>
    exact ⟨by simp [Part.dropWork, readerDropped_eq], by simp [Part.sameBut_iff, Part.dropWork]⟩
  | loadReference n | loadSensors n | loadLimits n | loadPairs n | applyShape n | readTable t shadow | copySnapshot =>
    exact ⟨rfl, by simp [Part.sameBut_iff, Part.dropWork]⟩

/-- A transfer that ends early: its work is dropped and its order finishes, and then the lane is empty. -/
theorem Part.endEarly_eq (r : Running) (why : Reason) (p : Part) : p.endEarly r why =
    ((p.dropWork r.bulk.op).finish r.bulk.order ((OrderResult.failed why).remaining r.remaining)).modXu fun x =>
      { x with lane := none } :=
  Part.finish_modXu ⟨rfl, rfl, rfl⟩ _ _

/-- The end of a running transfer, as the statements name it. -/
theorem Part.endEarly_ended (r : Running) (why : Reason) (p : Part) :
    runningEnded p ((p.dropWork r.bulk.op).finish r.bulk.order ((OrderResult.failed why).remaining r.remaining)) r why :=
  ⟨_, p.dropWork_dropped r.bulk.op, Part.finish_orderFinished _ _ _, Part.finish_sameBut _ _ _⟩

/-- A counted host access failure (R157, R170). -/
theorem Part.countHostFailure_issued (p : Part) : p.countHostFailure.issued = p.issued ++ p.signal .hostAccess := by
  rw [Part.countHostFailure, Part.raise_signal]; rfl

@[simp] theorem Part.countHostFailure_tlu (p : Part) :
    p.countHostFailure.tlu = { p.tlu with events := withFlag p.tlu.events .hostAccess } := by
  simp [Part.countHostFailure]

@[simp] theorem Part.countHostFailure_xu (p : Part) :
    p.countHostFailure.xu = { p.xu with hostFailures := p.xu.hostFailures + 1 } := by
  simp [Part.countHostFailure]

/-- A read of the running transfer that fails: the transfer ends, the failure counts and HOST_ACCESS is raised (R170). -/
theorem Part.failTransfer_ended (r : Running) (p : Part) : ∃ q : Part, runningEnded p q r .hostAccess ∧
    (p.failTransfer r).xu = { p.xu with lane := none, hostFailures := p.xu.hostFailures + 1 } ∧
    (p.failTransfer r).tlu = { q.tlu with events := withFlag q.tlu.events .hostAccess } ∧
    (p.failTransfer r).issued = q.issued ++ q.signal .hostAccess ∧ (p.failTransfer r).sameBut q [.xu, .tlu, .issued] := by
  refine ⟨_, p.endEarly_ended r .hostAccess, ?_, ?_, ?_, ?_⟩ <;> rw [Part.failTransfer, Part.endEarly_eq]
  · simp
  · simp
  · rw [Part.countHostFailure_issued]; rfl
  · simp [Part.sameBut_iff]

/-- A transfer with a read of host memory on its way (R170). -/
theorem Running.reading_iff (r : Running) : r.reading = true ↔ hasRead r := by
  unfold Running.reading hasRead
  cases r.bulk.op <;> simp [entryBytes]

/-! ## The heads of the queue (R168) -/

theorem Part.startHead_idle {p : Part} (h : p.xu.lane.isSome = true ∨ p.xu.queue = []) : p.startHead = p := by
  unfold Part.startHead
  split
  · rename_i hlane hqueue
    simp [hlane, hqueue] at h
  · rfl

theorem Part.startHeads_idle {p : Part} (h : p.xu.lane.isSome = true ∨ p.xu.queue = []) (n : Nat) :
    Part.startHeads n p = p := by
  induction n with
  | zero => rfl
  | succ n ih => rw [Part.startHeads, Part.startHead_idle h, ih]

/-- The head of the queue moves to an empty lane. -/
theorem Part.startHead_eq {p : Part} {b : Bulk} {rest : List Bulk} (hlane : p.xu.lane = none) (hqueue : p.xu.queue = b :: rest) :
    p.startHead = (p.modXu fun x => { x with queue := rest }).startBulk b := by
  simp [Part.startHead, hlane, hqueue]

/-- With an empty lane the queue starts with its head, and goes on from there. -/
theorem Part.startQueue_eq {p : Part} (hlane : p.xu.lane = none) (hqueue : p.xu.queue ≠ []) :
    p.startQueue = p.startHead.startQueue := by
  obtain ⟨b, rest, hb⟩ := List.exists_cons_of_ne_nil hqueue
  have hlength : p.startHead.xu.queue.length = rest.length := by rw [Part.startHead_queue, hlane, hb]; rfl
  rw [Part.startQueue, Part.startQueue, hlength, hb]
  rfl

/-- Starts of the head one after another, as the statements name them. -/
theorem headsStarted_startHeads (n : Nat) (p : Part) : headsStarted n p (Part.startHeads n p) := by
  induction n generalizing p with
  | zero => rfl
  | succ n ih => exact ⟨p.startHead, rfl, ih _⟩

/-! ## ABORT_TRANSFER (R171) -/

theorem Part.abortTransfer_refused {flag : Byte} (h : 1 < flag.toNat) (ticket : Byte) (p : Part) :
    p.abortTransfer flag ticket = (.failed .badParameter, p) := by
  simp [Part.abortTransfer, flagOf_eq_none h]

theorem Part.abortTransfer_none {flag ticket : Byte} (hflag : flag.toNat ≤ 1) {p : Part}
    (h : ∀ r, p.xu.lane = some r → flag = 1 ∧ r.bulk.order.ticket ≠ ticket) :
    p.abortTransfer flag ticket = (.failed .noTransfer, p) := by
  unfold Part.abortTransfer
  rw [flagOf_eq_some hflag]
  dsimp only
  split
  · rfl
  · rename_i r hr
    obtain ⟨rfl, hne⟩ := h r hr
    exact if_pos (by simp [hne])

theorem Part.abortTransfer_running {flag ticket : Byte} {p : Part} {r : Running} (hlane : p.xu.lane = some r)
    (h : flag = 0 ∨ (flag = 1 ∧ ticket = r.bulk.order.ticket)) :
    p.abortTransfer flag ticket =
      ({ OrderResult.done with d1 := r.bulk.order.ticket.setWidth 32 }, (p.endEarly r .aborted).startQueue) := by
  rcases h with rfl | ⟨rfl, rfl⟩ <;> simp [Part.abortTransfer, flagOf, hlane]

end Sys2Proof.Machine

namespace Sys2Proof.Proofs

open Sys2Proof.Machine

/-- ABORT_TRANSFER finds a running transfer (O48). -/
theorem abortTransfer_ends {s : State} {h : OrderHead} {flag ticket : Byte} {r : Running} (hready : s.part.readyFor h)
    (hlane : s.part.xu.lane = some r) (hflag : flag = 0 ∨ (flag = 1 ∧ ticket = r.bulk.order.ticket)) :
    ∃ (t : State) (q w : Part), exec (.abortTransfer h flag ticket) s = .next t ∧ t.pending = s.pending ∧
      runningEnded (orderTaken s.part h) q r .aborted ∧
      w = Part.startQueue { q with xu := { q.xu with lane := none } } ∧
      orderFinished w t.part h { OrderResult.done with d1 := r.bulk.order.ticket.setWidth 32 } ∧
      t.part.sameBut w [.tlu, .issued] := by
  have hexec := exec_control (c := .abortTransfer h flag ticket) (o := .abortTransfer flag ticket) rfl hready rfl
  rw [Part.carryOut, Part.finishWith, Part.abortTransfer_running (p := orderTaken s.part h) hlane hflag] at hexec
  exact ⟨_, _, _, hexec, rfl, (orderTaken s.part h).endEarly_ended r .aborted,
    congrArg Part.startQueue (Part.endEarly_eq r .aborted _), Part.finish_orderFinished _ _ _, Part.finish_sameBut _ _ _⟩

/-- Settles O48: ABORT_TRANSFER by what it finds, a failed read of the running transfer, and the starts of the next heads. -/
theorem transferEndsEarly : Obligations.TransferEndsEarly := by
  refine ⟨fun s h flag ticket => ?_, fun p => ⟨Part.startHeads_idle (n := _), fun hlane hqueue => ?_⟩⟩
  · have hrefused (hready : s.part.readyFor h) {r : OrderResult}
        (habort : (orderTaken s.part h).abortTransfer flag ticket = (r, orderTaken s.part h)) :
        ∃ t, exec (.abortTransfer h flag ticket) s = .next t ∧ t.pending = s.pending ∧
          s.part.Answered h r s.part.xu s.part.tlu [] t.part := by
      have hexec := exec_control (c := .abortTransfer h flag ticket) (o := .abortTransfer flag ticket) rfl hready rfl
      rw [Part.carryOut, Part.finishWith, habort] at hexec
      exact ⟨_, hexec, rfl, Part.answered_refused _ _ _ _⟩
    have hfail (read : FailedRead) : exec (.hostAccessFailure read) s = .next { s with part := s.part.hostAccessFailure read } :=
      rfl
    refine ⟨fun hready hflag => hrefused hready (Part.abortTransfer_refused hflag ticket _),
      fun hready hflag hnone => hrefused hready (Part.abortTransfer_none (Nat.lt_succ_iff.mp hflag) hnone),
      fun hnone => ?_, fun r hlane => ⟨fun hread => ?_, fun hready hflag => abortTransfer_ends hready hlane hflag⟩⟩
    · rw [hfail, Part.hostAccessFailure]
      split
      · rename_i r hlane
        rw [if_neg (mt r.reading_iff.mp (hnone r hlane))]
      · rfl
    · obtain ⟨q, hended, hxu, htlu, hissued, hsame⟩ := s.part.failTransfer_ended r
      have hfails : s.part.hostAccessFailure .transferRead = s.part.failTransfer r := by
        simp [Part.hostAccessFailure, hlane, r.reading_iff.mpr hread]
      rw [hfail, hfails]
      exact ⟨_, q, rfl, rfl, hended, hxu, htlu, hissued, hsame⟩
  · exact ⟨p.startHead, rfl, Part.startQueue_eq hlane hqueue⟩

end Sys2Proof.Proofs
end

section
/-! SUPPORT. Bulk orders at take (O44): the buffer's checks, the orders that join the queue, and those that are refused. -/

namespace Sys2Proof.Machine

/-! ## Windows and buffers (R165, R166) -/

theorem Window.covers_iff (w : Window) (addr : BitVec 64) : w.covers addr = true ↔
    w.enable = true ∧ w.partBase.toNat ≤ addr.toNat ∧ addr.toNat < w.partBase.toNat + w.size.toNat := by
  simp [Window.covers, and_assoc]

/-- The enabled window of lowest index that covers an address (R165). -/
theorem Part.windowFor_eq_some {p : Part} {addr : BitVec 64} {i : Fin 4} (hi : (p.xu.windows.get i).covers addr = true)
    (hbefore : ∀ j < i, ¬ (p.xu.windows.get j).covers addr = true) : p.windowFor addr = some (p.xu.windows.get i) := by
  match i with
  | 0 => simp_all [Part.windowFor, Four.get]
  | 1 => have := hbefore 0 (by decide); simp_all [Part.windowFor, Four.get]
  | 2 =>
    have := hbefore 0 (by decide)
    have := hbefore 1 (by decide)
    simp_all [Part.windowFor, Four.get]
  | 3 =>
    have := hbefore 0 (by decide)
    have := hbefore 1 (by decide)
    have := hbefore 2 (by decide)
    simp_all [Part.windowFor, Four.get]

theorem Part.windowFor_eq_none {p : Part} {addr : BitVec 64} (h : ∀ j, ¬ (p.xu.windows.get j).covers addr = true) :
    p.windowFor addr = none := by
  have h0 := h 0
  have h1 := h 1
  have h2 := h 2
  have h3 := h 3
  simp_all [Part.windowFor, Four.get]

/-- A buffer that passes its checks is translated (R165, R166). -/
theorem Part.checkBuffer_ok {p : Part} {addr host : BitVec 64} {length : Nat} (h : bufferAt p addr length host)
    {fits : Bool} (hfits : fits = true) : p.checkBuffer addr length fits = .ok host := by
  obtain ⟨haligned, i, hi, hbefore, hend, rfl⟩ := h
  have hwindow : p.windowFor addr = some (p.xu.windows.get i) :=
    Part.windowFor_eq_some ((Window.covers_iff _ _).mpr hi) fun j hj => mt (Window.covers_iff _ _).mp (hbefore j hj)
  simp [Part.checkBuffer, haligned, hfits, hwindow, Nat.not_lt.mpr hend, Window.translate]

/-- A buffer that fails a check (R166). -/
theorem Part.checkBuffer_error {p : Part} {addr : BitVec 64} {length : Nat} {unfit : Prop} {r : Reason}
    (h : bufferRefused p addr length unfit r) {fits : Bool} (hfits : fits = true ↔ ¬ unfit) :
    p.checkBuffer addr length fits = .error r := by
  rcases h with ⟨haligned, rfl⟩ | ⟨⟨haligned, hunfit⟩, hnone, rfl⟩ | ⟨⟨haligned, hunfit⟩, rfl, i, hi, hbefore, hend⟩
  · rw [← hfits] at haligned
    refine if_pos ?_
    simp only [Bool.or_eq_true, decide_eq_true_eq, Bool.not_eq_true', ← Bool.not_eq_true]
    tauto
  · have hwindow : p.windowFor addr = none := Part.windowFor_eq_none fun j => mt (Window.covers_iff _ _).mp (hnone j)
    simp [Part.checkBuffer, haligned, hfits.mpr hunfit, hwindow]
  · have hwindow : p.windowFor addr = some (p.xu.windows.get i) :=
      Part.windowFor_eq_some ((Window.covers_iff _ _).mpr hi) fun j hj => mt (Window.covers_iff _ _).mp (hbefore j hj)
    simp [Part.checkBuffer, haligned, hfits.mpr hunfit, hwindow, hend]

/-! ## Taking a bulk order (R158, R160, R168) -/

/-- A bulk order whose slot is ready, and for which the lane or the queue has room, is taken in its own step. -/
theorem exec_bulk {s : State} {h : OrderHead} {o : Order} {c : Instr} (hc : s.part.after c = s.part.orderCommand h o)
    (hr : s.part.readyFor h) (hroom : s.part.xu.lane = none ∨ s.part.xu.queue.length < 4) :
    exec c s = .next { s with part := (orderTaken s.part h).carryOut o (s.part.orderRef h o) } := by
  obtain ⟨hen, hslot⟩ := hr
  have hfull : s.part.xu.laneFull = false := by
    rcases hroom with h | h
    · simp [Xu.laneFull, h]
    · simp [Xu.laneFull, Nat.not_le.mpr h]
  have hok : s.part.cannotTake o h.slot = false := by simp [Part.cannotTake, hen, hslot, hfull]
  rw [exec_eq_after, hc, Part.orderCommand, hok, Part.takeOrder, ← Part.writeTaken_orderTaken]
  rfl

/-- A bulk order is not taken while the lane and all four places of the queue are occupied (R158). -/
theorem exec_bulk_waits {s : State} {h : OrderHead} {o : Order} {c : Instr} (hc : s.part.after c = s.part.orderCommand h o)
    (ho : isBulk o = true) (hlane : s.part.xu.lane.isSome = true) (hqueue : 4 ≤ s.part.xu.queue.length) :
    exec c s = .next s := by
  have hno : s.part.cannotTake o h.slot = true := by simp [Part.cannotTake, ho, Xu.laneFull, hlane, hqueue]
  rw [exec_eq_after, hc, Part.orderCommand, if_pos hno]

/-- A checked bulk order joins the tail of the queue; with an empty lane the heads start in the same step (R160, R168). -/
theorem Part.enqueueBulk_joins (p : Part) (h : OrderHead) (o : Order) (op : BulkOp) (host : BitVec 64) (length : Nat) :
    ∃ m : Part, bulkQueued p m h (orderCode o) op host length ∧
      (p.xu.lane.isSome = true → (orderTaken p h).enqueueBulk (p.orderRef h o) ⟨op, host⟩ length = m) ∧
      (p.xu.lane = none →
        headsStarted m.xu.queue.length m ((orderTaken p h).enqueueBulk (p.orderRef h o) ⟨op, host⟩ length)) := by
  refine ⟨(orderTaken p h).modXu fun x => { x with queue := x.queue ++ [⟨p.orderRef h o, op, host, length⟩] },
    ⟨rfl, rfl, by simp [Part.sameBut_iff]⟩, fun hlane => ?_, fun hlane => ?_⟩
  · exact if_neg (by simpa [Option.isSome_iff_ne_none] using hlane)
  · have hstarts : (orderTaken p h).enqueueBulk (p.orderRef h o) ⟨op, host⟩ length = _ := if_pos (by simpa using hlane)
    rw [hstarts]
    exact headsStarted_startHeads _ _

/-- A refused bulk order reports its buffer's length as bytes remaining (R164, R169; log entry 22). -/
theorem Part.answered_refuse {p : Part} {h : OrderHead} {o : Order} {length : Nat} (hlength : bufferLength o = some length)
    (r : Reason) :
    p.Answered h { OrderResult.done with reason := some r, d4 := BitVec.ofNat 32 length } p.xu p.tlu []
      ((orderTaken p h).refuse o r (p.orderRef h o)) := by
  rw [Part.refuse, hlength]
  exact Part.answered_refused p h o _

/-- A LOAD_TABLE of unknown kind is refused with a free value as bytes remaining (log entry 8). -/
theorem Part.answered_refuse_unknown {p : Part} {h : OrderHead} {o : Order} (hlength : bufferLength o = none) (r : Reason) :
    ∃ d4, p.Answered h { OrderResult.done with reason := some r, d4 := d4 } p.xu p.tlu [.frees]
      ((orderTaken p h).refuse o r (p.orderRef h o)) := by
  refine ⟨Config.remainingOfUnknownTable p.frees, ?_⟩
  rw [Part.refuse, hlength]
  exact Part.answered_of_sameBut (q := (orderTaken p h).drawFree) (by simp [Part.sameBut_iff]) (by decide) (by decide)
    (by decide) o _

/-- A bulk order whose checks pass is queued. -/
theorem Part.takeBulk_ok {o : Order} {op : BulkOp} {host : BitVec 64} {x : Except Reason Taken} (hx : x = .ok ⟨op, host⟩)
    {length : Nat} (hlength : bufferLength o = some length) (ref : OrderRef) (p : Part) :
    p.takeBulk o ref x = p.enqueueBulk ref ⟨op, host⟩ length := by
  rw [hx, Part.takeBulk, hlength]; rfl

/-- A bulk order that fails a check is refused. -/
theorem Part.takeBulk_error {o : Order} {r : Reason} {x : Except Reason Taken} (hx : x = .error r) (ref : OrderRef) (p : Part) :
    p.takeBulk o ref x = p.refuse o r ref := by
  rw [hx, Part.takeBulk]

/-! ## The checks of each kind (R77, R86, R46, R106, R107, R122) -/

theorem Part.takeLoadMatrix_bad {q : MatrixOrderParams} (h : badMatrix q) (p : Part) :
    p.takeLoadMatrix q = .error .badParameter := by
  unfold Part.takeLoadMatrix
  split
  · rfl
  · rename_i b hb
    have hbank : ¬ 1 < q.bank.toNat := fun hbank => by simp [indexOf_eq_none (Nat.succ_le_of_lt hbank)] at hb
    refine if_pos ?_
    simp only [Bool.or_eq_true, decide_eq_true_eq, or_assoc]
    exact h.resolve_left hbank

theorem Part.takeLoadMatrix_good {q : MatrixOrderParams} {b : BankIx} (hb : q.bank.toNat = b.val) (h : ¬ badMatrix q)
    (p : Part) : p.takeLoadMatrix q =
      takenWith (.loadMatrix b q.s.toNat q.a.toNat q.e.toNat q.check)
        (p.checkBuffer q.source (2 * q.s.toNat * q.a.toNat) true) := by
  rw [Part.takeLoadMatrix, indexOf_eq_some hb]
  refine if_neg fun hbad => h (.inr ?_)
  simpa only [Bool.or_eq_true, decide_eq_true_eq, or_assoc] using hbad

/-- A table load's count is out of its kind's range. -/
theorem Part.checkTable_bad {q : TableOrderParams} {lo hi : Nat} (h : q.count.toNat < lo ∨ hi < q.count.toNat) (size : Nat)
    (op : BulkOp) (p : Part) : p.checkTable q lo hi size op = .error .badParameter :=
  if_pos (by simpa using h)

theorem Part.checkTable_good {q : TableOrderParams} {lo hi : Nat} (hlo : lo ≤ q.count.toNat) (hhi : q.count.toNat ≤ hi)
    (hpos : 0 < q.count.toNat) (size : Nat) (op : BulkOp) (p : Part) :
    p.checkTable q lo hi size op = takenWith op (p.checkBuffer q.source (size * q.count.toNat) true) := by
  simp [Part.checkTable, Nat.not_lt.mpr hlo, Nat.not_lt.mpr hhi, hpos.ne']

/-- The kinds of tables: each with the range of its counts, its entry size and its work (section 11.8). -/
structure TableKind where
  code : Byte
  lo : Nat
  hi : Nat
  size : Nat
  op : Nat → BulkOp

/-- The four kinds of LOAD_TABLE. -/
inductive TableKind.Listed : TableKind → Prop where
  | reference : Listed ⟨0, 1, 20480, 2, .loadReference⟩
  | sensors : Listed ⟨1, 1, 4, 8, .loadSensors⟩
  | limits : Listed ⟨2, 1, 4096, 8, .loadLimits⟩
  | pairs : Listed ⟨3, 0, 8192, 6, .loadPairs⟩

theorem TableKind.Listed.takeLoadTable {k : TableKind} (hk : k.Listed) {q : TableOrderParams} (hq : q.kind = k.code)
    (p : Part) : p.takeLoadTable q = p.checkTable q k.lo k.hi k.size (k.op q.count.toNat) := by
  cases hk <;> simp [Part.takeLoadTable, hq]

theorem TableKind.Listed.bufferLength {k : TableKind} (hk : k.Listed) {q : TableOrderParams} (hq : q.kind = k.code) :
    bufferLength (.loadTable q) = some (k.size * q.count.toNat) := by
  cases hk <;> simp [Machine.bufferLength, entrySizeOf, hq]

/-- A code above 3 names no kind of table. -/
theorem unknownTable {q : TableOrderParams} (h : 3 < q.kind.toNat) (p : Part) :
    p.takeLoadTable q = .error .badParameter ∧ bufferLength (.loadTable q) = none := by
  have hne (c : Byte) (hc : c.toNat ≤ 3) : q.kind ≠ c := by rintro rfl; omega
  simp only [Part.takeLoadTable, bufferLength, entrySizeOf, if_neg (hne 0 (by decide)), if_neg (hne 1 (by decide)),
    if_neg (hne 2 (by decide)), if_neg (hne 3 (by decide)), Option.map_none, and_self]

theorem Part.takeApplyShape_good {p : Part} {q : ShapeOrderParams} (hloop : p.lpc.loop = .opened)
    (hcount : q.count.toNat = p.geo.a0 + p.geo.a1) (hpos : q.count.toNat ≠ 0) :
    p.takeApplyShape q = takenWith (.applyShape q.count.toNat) (p.checkBuffer q.source (2 * q.count.toNat) true) := by
  have hne : ¬ (q.count.toNat ≠ p.geo.actuators || q.count.toNat = 0) = true := by
    simp only [Bool.or_eq_true, decide_eq_true_eq, not_or, not_not]
    exact ⟨hcount, hpos⟩
  simp only [Part.takeApplyShape, hloop, ne_eq, not_true_eq_false, if_false, if_neg hne]

/-- The codes of READ_BACK sources (R86, R214). -/
theorem sourceOf_bank {code : Byte} {b : BankIx} (h : code.toNat = b.val) : sourceOf code = some (.bank b) := by
  have hcode : code = BitVec.ofNat 8 b.val := by rw [← h]; simp
  subst hcode
  match b with
  | 0 | 1 => rfl

theorem sourceOf_table (t : TableSource) : sourceOf (sourceCode t) = some (.table t) := by
  cases t <;> rfl

theorem sourceOf_none {code : Byte} (h : 5 < code.toNat) : sourceOf code = none := by
  have hne (c : Byte) (hc : c.toNat ≤ 5) : code ≠ c := by rintro rfl; omega
  simp only [sourceOf, if_neg (hne 0 (by decide)), if_neg (hne 1 (by decide)), if_neg (hne 2 (by decide)),
    if_neg (hne 3 (by decide)), if_neg (hne 4 (by decide)), if_neg (hne 5 (by decide))]

theorem Part.takeReadBack_table {q : ReadBackParams} {t : TableSource} (ht : q.source = sourceCode t)
    (hcopy : q.copy.toNat ≤ 1) (p : Part) :
    p.takeReadBack q = p.checkDestination q (.readTable t (decide (q.copy = 1))) := by
  simp [Part.takeReadBack, ht, sourceOf_table, flagOf_eq_some hcopy]

theorem Part.takeReadBack_bank {q : ReadBackParams} {b : BankIx} (hb : q.source.toNat = b.val) {p : Part} :
    p.takeReadBack q =
      if 20479 < q.firstColumn.toNat || q.columns.toNat < 1 || 20480 < q.columns.toNat ||
          20480 < q.firstColumn.toNat + q.columns.toNat then .error .badParameter
      else if (p.mxs.banks.get b).state = .loading then .error .bankBusy
      else p.checkDestination q (.readBank b q.firstColumn.toNat q.columns.toNat) := by
  simp only [Part.takeReadBack, sourceOf_bank hb]

end Sys2Proof.Machine

namespace Sys2Proof.Proofs

open Sys2Proof.Machine

/-- The bulk orders that join the queue (O44's first part). -/
theorem bulkOrdersJoin_holds : bulkOrdersJoin := by
  intro s h host hready hroom p joins
  have hjoin {c : Instr} {o : Order} {x : Except Reason Taken} {op : BulkOp} {length : Nat}
      (hc : p.after c = p.orderCommand h o)
      (hcarry : (orderTaken p h).carryOut o (p.orderRef h o) = (orderTaken p h).takeBulk o (p.orderRef h o) x)
      (hx : x = .ok ⟨op, host⟩) (hlength : bufferLength o = some length) : joins c (orderCode o) op length := by
    obtain ⟨m, hqueued, hwaits, hstarts⟩ := p.enqueueBulk_joins h o op host length
    rw [← Part.takeBulk_ok hx hlength, ← hcarry] at hwaits hstarts
    exact ⟨_, m, exec_bulk hc hready hroom, rfl, hqueued, hwaits, hstarts⟩
  have hwith (op : BulkOp) {addr : BitVec 64} {length : Nat} (hbuffer : bufferAt p addr length host) {fits : Bool}
      (hfits : fits = true) : takenWith op ((orderTaken p h).checkBuffer addr length fits) = .ok ⟨op, host⟩ := by
    rw [Part.checkBuffer_ok (p := orderTaken p h) hbuffer hfits, takenWith]
  have htable {k : TableKind} (hk : k.Listed) (q : TableOrderParams) {n : Nat} (hn : q.count.toNat = n) (h1 : 1 ≤ n)
      (hlo : k.lo ≤ n) (hq : q.kind = k.code) (hhi : n ≤ k.hi) (hbuffer : bufferAt p q.source (k.size * n) host) :
      joins (.loadTable h q) 0x0022 (k.op n) (k.size * n) := by
    subst hn
    refine hjoin (o := .loadTable q) rfl rfl ?_ (hk.bufferLength hq)
    rw [hk.takeLoadTable hq, Part.checkTable_good hlo hhi h1]
    exact hwith _ hbuffer rfl
  refine ⟨fun q b hb hs2 hs hseven ha1 ha he hbuffer => ?_, fun q n hn h1 => ⟨fun hk hhi => ?_, fun hk hhi => ?_,
    fun hk hhi => ?_, fun hk hhi => ?_⟩, fun q hk hcount hhost => ?_, fun q hloop hcount h1 hbuffer => ?_,
    fun q b hb hfirst h1 hlast hstate hsize hpos hbuffer => ?_, fun q t ht hcopy hsize hpos hbuffer => ?_,
    fun dest hbuffer => ?_⟩
  · have hgood : ¬ badMatrix q := by unfold badMatrix; omega
    refine hjoin (o := .loadMatrix q) rfl rfl ?_ rfl
    rw [Part.takeLoadMatrix_good hb hgood]
    exact hwith _ hbuffer rfl
  · exact htable .reference q hn h1 h1 hk hhi
  · exact htable .sensors q hn h1 h1 hk hhi
  · exact htable .limits q hn h1 h1 hk hhi
  · exact htable .pairs q hn h1 (Nat.zero_le n) hk hhi
  · subst hhost
    refine hjoin (o := .loadTable q) rfl rfl ?_ ?_
    · simp [Part.takeLoadTable, Part.checkTable, hk, hcount]
    · simp [bufferLength, entrySizeOf, hk, hcount]
  · refine hjoin (o := .applyShape q) rfl rfl ?_ rfl
    rw [Part.takeApplyShape_good (p := orderTaken p h) hloop hcount (by omega)]
    exact hwith _ hbuffer rfl
  · refine hjoin (o := .readBack q) rfl rfl ?_ rfl
    rw [Part.takeReadBack_bank hb, if_neg (by simp; omega), if_neg (by simpa using hstate)]
    exact hwith _ hbuffer (by simp [hsize, hpos])
  · refine hjoin (o := .readBack q) rfl rfl ?_ rfl
    rw [Part.takeReadBack_table ht (by omega)]
    exact hwith _ hbuffer (by simp [hsize, hpos])
  · exact hjoin (o := .copySnapshot dest) rfl rfl (hwith _ hbuffer rfl) rfl

/-- The bulk orders that wait in their slots (O44's second part). -/
theorem bulkOrdersWait_holds : bulkOrdersWait := fun _ _ hlane hqueue =>
  ⟨fun q => exec_bulk_waits (o := .loadMatrix q) rfl rfl hlane hqueue,
    fun q => exec_bulk_waits (o := .readBack q) rfl rfl hlane hqueue,
    fun q => exec_bulk_waits (o := .loadTable q) rfl rfl hlane hqueue,
    fun q => exec_bulk_waits (o := .applyShape q) rfl rfl hlane hqueue,
    fun dest => exec_bulk_waits (o := .copySnapshot dest) rfl rfl hlane hqueue⟩

/-- The bulk orders that are refused at take (O44's third part). -/
theorem bulkOrdersRefused_holds : bulkOrdersRefused := by
  intro s h hready hroom p refused
  have hrefuse {c : Instr} {o : Order} {x : Except Reason Taken} {r : Reason} {length : Nat}
      (hc : p.after c = p.orderCommand h o)
      (hcarry : (orderTaken p h).carryOut o (p.orderRef h o) = (orderTaken p h).takeBulk o (p.orderRef h o) x)
      (hx : x = .error r) (hlength : bufferLength o = some length) : refused c r length := by
    refine ⟨_, exec_bulk hc hready hroom, rfl, ?_⟩
    rw [hcarry, Part.takeBulk_error hx]
    exact Part.answered_refuse hlength r
  have hwith (op : BulkOp) {addr : BitVec 64} {length : Nat} {unfit : Prop} {r : Reason}
      (hbuffer : bufferRefused p addr length unfit r) {fits : Bool} (hfits : fits = true ↔ ¬ unfit) :
      takenWith op ((orderTaken p h).checkBuffer addr length fits) = .error r := by
    rw [Part.checkBuffer_error (p := orderTaken p h) hbuffer hfits, takenWith]
  have htable {k : TableKind} (hk : k.Listed) (q : TableOrderParams) (hq : q.kind = k.code) :
      (q.count.toNat < k.lo ∨ k.hi < q.count.toNat →
        refused (.loadTable h q) .badParameter (k.size * q.count.toNat)) ∧
      (k.lo ≤ q.count.toNat → q.count.toNat ≤ k.hi → 0 < q.count.toNat →
        ∀ r, bufferRefused p q.source (k.size * q.count.toNat) False r →
          refused (.loadTable h q) r (k.size * q.count.toNat)) := by
    refine ⟨fun hbad => ?_, fun hlo hhi hpos r hbuffer => ?_⟩ <;>
      refine hrefuse (o := .loadTable q) rfl rfl ?_ (hk.bufferLength hq) <;> rw [hk.takeLoadTable hq]
    · exact Part.checkTable_bad hbad _ _ _
    · rw [Part.checkTable_good hlo hhi hpos]
      exact hwith _ hbuffer (by simp)
  refine ⟨fun q => ⟨fun hbad => ?_, fun hgood r hbuffer => ?_⟩, fun q lo hi size hkind => ?_, fun q hkind => ?_,
    fun q => ⟨fun hloop => ?_, fun hloop hcount => ?_, fun hloop hcount hpos r hbuffer => ?_⟩,
    fun q => ⟨fun hsource => ?_, fun t ht => ⟨fun hcopy => ?_, fun hcopy r hbuffer => ?_⟩,
      fun b hb => ⟨fun hbad => ?_, fun hgood hstate => ?_, fun hgood hstate r hbuffer => ?_⟩⟩, fun dest r hbuffer => ?_⟩
  · exact hrefuse (o := .loadMatrix q) rfl rfl (Part.takeLoadMatrix_bad hbad _) rfl
  · have hbank : q.bank.toNat < 2 := by unfold badMatrix at hgood; omega
    refine hrefuse (o := .loadMatrix q) rfl rfl ?_ rfl
    rw [Part.takeLoadMatrix_good (b := ⟨q.bank.toNat, hbank⟩) rfl hgood]
    exact hwith _ hbuffer (by simp)
  · rcases hkind with ⟨hk, rfl, rfl, rfl⟩ | ⟨hk, rfl, rfl, rfl⟩ | ⟨hk, rfl, rfl, rfl⟩ | ⟨hk, rfl, rfl, rfl⟩
    · exact htable .reference q hk
    · exact htable .sensors q hk
    · exact htable .limits q hk
    · exact htable .pairs q hk
  · obtain ⟨htake, hlength⟩ := unknownTable hkind (orderTaken p h)
    obtain ⟨d4, hanswered⟩ := Part.answered_refuse_unknown (p := p) (h := h) hlength .badParameter
    refine ⟨_, d4, exec_bulk (o := .loadTable q) rfl hready hroom, rfl, ?_⟩
    rw [Part.carryOut, Part.takeBulk_error htake]
    exact hanswered
  · exact hrefuse (o := .applyShape q) rfl rfl (if_pos hloop) rfl
  · refine hrefuse (o := .applyShape q) rfl rfl ?_ rfl
    have hbad : (decide (q.count.toNat ≠ p.geo.actuators) || decide (q.count.toNat = 0)) = true := by
      simp only [Bool.or_eq_true, decide_eq_true_eq]
      exact hcount
    exact (if_neg (not_not.mpr hloop)).trans (if_pos hbad)
  · refine hrefuse (o := .applyShape q) rfl rfl ?_ rfl
    rw [Part.takeApplyShape_good (p := orderTaken p h) hloop hcount hpos]
    exact hwith _ hbuffer (by simp)
  · exact hrefuse (o := .readBack q) rfl rfl (by simp [Part.takeReadBack, sourceOf_none hsource]) rfl
  · exact hrefuse (o := .readBack q) rfl rfl
      (by simp [Part.takeReadBack, ht, sourceOf_table, flagOf_eq_none hcopy]) rfl
  · refine hrefuse (o := .readBack q) rfl rfl ?_ rfl
    rw [Part.takeReadBack_table ht hcopy]
    exact hwith _ hbuffer (by simp; omega)
  · refine hrefuse (o := .readBack q) rfl rfl ?_ rfl
    rw [Part.takeReadBack_bank hb]
    exact if_pos (by simpa [badColumns, or_assoc] using hbad)
  · refine hrefuse (o := .readBack q) rfl rfl ?_ rfl
    rw [Part.takeReadBack_bank hb, if_neg (by simpa [badColumns, or_assoc] using hgood)]
    exact if_pos hstate
  · refine hrefuse (o := .readBack q) rfl rfl ?_ rfl
    rw [Part.takeReadBack_bank hb, if_neg (by simpa [badColumns, or_assoc] using hgood), if_neg (by simpa using hstate)]
    exact hwith _ hbuffer (by simp; omega)
  · exact hrefuse (o := .copySnapshot dest) rfl rfl (hwith _ hbuffer (by simp)) rfl

/-- Settles O44: bulk orders join the queue, wait in their slots, or are refused at take. -/
theorem bulkOrdersTaken : Obligations.BulkOrdersTaken :=
  ⟨bulkOrdersJoin_holds, bulkOrdersWait_holds, bulkOrdersRefused_holds⟩

end Sys2Proof.Proofs
end

section
/-! SUPPORT. Little-endian fields of byte runs: a 16-bit field by its two bytes, the layout of entries of one size, and the whole
entries cut from a run (R209, section 11.8). -/

namespace Sys2Proof.Machine

/-! ## Fields -/

theorem toNat_twoBytes (high low : Byte) : (high ++ low : BitVec 16).toNat = low.toNat + 256 * high.toNat := by
  have happend : (high ++ low : BitVec 16).toNat = _ := BitVec.toNat_append high low
  rw [happend, ← Nat.shiftLeft_add_eq_or_of_lt low.isLt, Nat.shiftLeft_eq]
  omega

/-- A 16-bit field is its two bytes, the second one above the first (R209). -/
theorem field16_eq (bytes : List Byte) (offset : Nat) :
    field16 bytes offset = byteAt bytes (offset + 1) ++ byteAt bytes offset := by
  have hbyte (i : Nat) : byteAt bytes (offset + i) = byteAt (bytes.drop offset) i := by
    simp [byteAt, List.getD_eq_getElem?_getD]
  have hzero : byteAt bytes offset = byteAt (bytes.drop offset) 0 := hbyte 0
  rw [hbyte 1, hzero, field16, field]
  apply BitVec.eq_of_toNat_eq
  rw [toNat_twoBytes]
  match bytes.drop offset with
  | [] => rfl
  | [a] =>
    have := a.isLt
    simp [byteAt, littleEndian]
    omega
  | a :: b :: rest =>
    have := a.isLt
    have := b.isLt
    simp [byteAt, littleEndian]
    omega

theorem leBytes_one (n : Nat) : leBytes 1 n = [BitVec.ofNat 8 n] := by
  simp [leBytes]

theorem leBytes_two (n : Nat) : leBytes 2 n = [BitVec.ofNat 8 n, BitVec.ofNat 8 (n / 256)] := by
  simp [leBytes, List.range_succ]

/-- The two bytes of a number make its value modulo 2^16. -/
theorem bytes_append (n : Nat) : (BitVec.ofNat 8 (n / 256) ++ BitVec.ofNat 8 n : BitVec 16) = BitVec.ofNat 16 n := by
  apply BitVec.eq_of_toNat_eq
  simp only [toNat_twoBytes, BitVec.toNat_ofNat]
  omega

/-- The two bytes of a 16-bit value make it. -/
theorem bytes_append_word (x : BitVec 16) : (BitVec.ofNat 8 (x.toNat / 256) ++ x.setWidth 8 : BitVec 16) = x := by
  simpa using bytes_append x.toNat

/-! ## Entries of one size -/

/-- In a run of entries of one size, entry n stands at n times the size. -/
theorem byteAt_flatMap {α : Type} {f : α → List Byte} {size : Nat} {l : List α} (hsize : ∀ x ∈ l, (f x).length = size) {n : Nat}
    {x : α} (hx : l[n]? = some x) {offset : Nat} (hoffset : offset < size) :
    byteAt (l.flatMap f) (size * n + offset) = byteAt (f x) offset := by
  induction l generalizing n with
  | nil => simp at hx
  | cons y l ih =>
    have hy : (f y).length = size := hsize y (by simp)
    match n with
    | 0 =>
      obtain rfl : y = x := by simpa using hx
      simp only [byteAt, List.flatMap_cons, List.getD_eq_getElem?_getD]
      rw [List.getElem?_append_left (by omega), Nat.mul_zero, Nat.zero_add]
    | n + 1 =>
      rw [← ih (fun x hx => hsize x (List.mem_cons_of_mem _ hx)) (by simpa using hx)]
      simp only [byteAt, List.flatMap_cons, List.getD_eq_getElem?_getD]
      rw [List.getElem?_append_right (by rw [hy, Nat.mul_succ]; omega), hy]
      congr 2
      rw [Nat.mul_succ]
      omega

theorem field16_flatMap {α : Type} {f : α → List Byte} {size : Nat} {l : List α} (hsize : ∀ x ∈ l, (f x).length = size) {n : Nat}
    {x : α} (hx : l[n]? = some x) {offset : Nat} (hoffset : offset + 1 < size) :
    field16 (l.flatMap f) (size * n + offset) = field16 (f x) offset := by
  rw [field16_eq, field16_eq, Nat.add_assoc, byteAt_flatMap hsize hx hoffset, byteAt_flatMap hsize hx (by omega)]

theorem length_flatMap_of_size {α : Type} {f : α → List Byte} {size : Nat} {l : List α} (hsize : ∀ x ∈ l, (f x).length = size) :
    (l.flatMap f).length = size * l.length := by
  rw [List.length_flatMap, List.map_congr_left hsize, List.map_const', List.sum_replicate, smul_eq_mul, Nat.mul_comm]

/-! ## Whole entries of a run -/

/-- The whole entries of a run, each as the bytes at its place. -/
theorem chunks_eq (size k : Nat) (bytes : List Byte) :
    chunks size k bytes = (List.range k).map fun n => (bytes.drop (size * n)).take size := by
  induction k generalizing bytes with
  | zero => rfl
  | succ k ih =>
    rw [chunks, ih, List.range_succ_eq_map]
    simp [Nat.mul_succ, Nat.add_comm]

/-- One more entry of a run. -/
theorem chunks_succ (size k : Nat) (bytes : List Byte) :
    chunks size (k + 1) bytes = chunks size k bytes ++ [(bytes.drop (size * k)).take size] := by
  simp [chunks_eq, List.range_succ]

theorem byteAt_chunk (bytes : List Byte) (start : Nat) {size offset : Nat} (h : offset < size) :
    byteAt ((bytes.drop start).take size) offset = byteAt bytes (start + offset) := by
  simp [byteAt, List.getD_eq_getElem?_getD, h]

theorem field16_chunk (bytes : List Byte) (start : Nat) {size offset : Nat} (h : offset + 1 < size) :
    field16 ((bytes.drop start).take size) offset = field16 bytes (start + offset) := by
  rw [field16_eq, field16_eq, byteAt_chunk _ _ h, byteAt_chunk _ _ (by omega), Nat.add_assoc]

/-! ## Table images (R86, R88) -/

theorem sensorEntryBytes_fields (x : SensorParam) : (sensorEntryBytes x).length = 8 ∧
    field16 (sensorEntryBytes x) 0 = x.fluxFloor ∧ field16 (sensorEntryBytes x) 2 = x.weight ∧
    byteAt (sensorEntryBytes x) 4 = x.policy.code ∧ byteAt (sensorEntryBytes x) 5 = 0 ∧
    field16 (sensorEntryBytes x) 6 = BitVec.ofNat 16 x.keepLimit := by
  simp [sensorEntryBytes, leBytes_two, field16_eq, byteAt, zeros, bytes_append, bytes_append_word]

theorem limitsEntryBytes_fields (x : Limits) : (limitsEntryBytes x).length = 8 ∧
    field16 (limitsEntryBytes x) 0 = x.lo ∧ field16 (limitsEntryBytes x) 2 = x.hi ∧ field16 (limitsEntryBytes x) 4 = x.flat ∧
    byteAt (limitsEntryBytes x) 6 = (if x.active then 1 else 0) ∧ byteAt (limitsEntryBytes x) 7 = 0 := by
  cases h : x.active <;> simp [limitsEntryBytes, leBytes_two, leBytes_one, field16_eq, byteAt, zeros, bytes_append_word, bitAt, h]

theorem pairEntryBytes_fields (x : ActuatorPair) : (pairEntryBytes x).length = 6 ∧
    field16 (pairEntryBytes x) 0 = BitVec.ofNat 16 x.p ∧ field16 (pairEntryBytes x) 2 = BitVec.ofNat 16 x.r ∧
    field16 (pairEntryBytes x) 4 = BitVec.ofNat 16 x.d := by
  simp [pairEntryBytes, leBytes_two, field16_eq, byteAt, bytes_append]

/-- The four sensors' entries in order. -/
theorem Four.toList_get {α : Type} (v : Four α) (i : LinkIx) : [v.f0, v.f1, v.f2, v.f3][i.val]? = some (v.get i) := by
  match i with
  | 0 | 1 | 2 | 3 => rfl

/-- A table's image is laid out as section 11.8 says. -/
theorem Part.tableImage_imaged (p : Part) (table : TableSource) (shadow : Bool) :
    tableImaged p table shadow (p.tableImage table shadow) := by
  cases table with
  | reference =>
    have hsize (v : Sparse (BitVec 16)) (j : Nat) : (leBytes 2 (Sparse.get 0 v j).toNat).length = 2 := by simp [leBytes_two]
    refine ⟨?_, fun j hj => ?_⟩
    · rw [Part.tableImage, length_flatMap_of_size fun j _ => hsize _ j, List.length_range]
    · refine (field16_flatMap (offset := 0) (fun j _ => hsize _ j) (List.getElem?_range hj) (by decide)).trans ?_
      simp [leBytes_two, field16_eq, byteAt, bytes_append_word]
  | sensors =>
    have himage (v : Four SensorParam) : sensorEntryBytes v.f0 ++ sensorEntryBytes v.f1 ++ sensorEntryBytes v.f2 ++
        sensorEntryBytes v.f3 = [v.f0, v.f1, v.f2, v.f3].flatMap sensorEntryBytes := by simp
    have hsize (v : Four SensorParam) : ∀ x ∈ [v.f0, v.f1, v.f2, v.f3], (sensorEntryBytes x).length = 8 :=
      fun x _ => (sensorEntryBytes_fields x).1
    simp only [tableImaged, Part.tableImage, himage]
    refine ⟨length_flatMap_of_size (hsize _), fun i => ?_⟩
    obtain ⟨-, hfloor, hweight, hpolicy, hzero, hkeep⟩ := sensorEntryBytes_fields
      ((if shadow = true then p.scn.parShadow else p.scn.parLive).get i)
    have hi := Four.toList_get (if shadow = true then p.scn.parShadow else p.scn.parLive) i
    exact ⟨(field16_flatMap (offset := 0) (hsize _) hi (by decide)).trans hfloor,
      (field16_flatMap (hsize _) hi (by decide)).trans hweight, (byteAt_flatMap (hsize _) hi (by decide)).trans hpolicy,
      (byteAt_flatMap (hsize _) hi (by decide)).trans hzero, (field16_flatMap (hsize _) hi (by decide)).trans hkeep⟩
  | limits =>
    have hsize (v : Sparse Limits) (a : Nat) : (limitsEntryBytes (Sparse.get Limits.powerOn v a)).length = 8 :=
      (limitsEntryBytes_fields _).1
    refine ⟨?_, fun a ha => ?_⟩
    · rw [Part.tableImage, length_flatMap_of_size fun a _ => hsize _ a, List.length_range]
    · have hi := List.getElem?_range ha
      obtain ⟨-, hlo, hhi, hflat, hactive, hzero⟩ := limitsEntryBytes_fields
        (Sparse.get Limits.powerOn (if shadow = true then p.lpc.limShadow else p.lpc.limLive) a)
      exact ⟨(field16_flatMap (offset := 0) (fun a _ => hsize _ a) hi (by decide)).trans hlo,
        (field16_flatMap (fun a _ => hsize _ a) hi (by decide)).trans hhi,
        (field16_flatMap (fun a _ => hsize _ a) hi (by decide)).trans hflat,
        (byteAt_flatMap (fun a _ => hsize _ a) hi (by decide)).trans hactive,
        (byteAt_flatMap (fun a _ => hsize _ a) hi (by decide)).trans hzero⟩
  | pairs =>
    have hsize (l : List ActuatorPair) : ∀ x ∈ l, (pairEntryBytes x).length = 6 := fun x _ => (pairEntryBytes_fields x).1
    refine ⟨length_flatMap_of_size (hsize _), fun n x hx => ?_⟩
    obtain ⟨-, hp, hr, hd⟩ := pairEntryBytes_fields x
    exact ⟨(field16_flatMap (offset := 0) (hsize _) hx (by decide)).trans hp,
      (field16_flatMap (hsize _) hx (by decide)).trans hr, (field16_flatMap (hsize _) hx (by decide)).trans hd⟩

end Sys2Proof.Machine
end

section
/-! SUPPORT. Starts of transfers (O45): the work that an owning block begins, a start that is refused, that reads its source, or that
has an image to write, and the ends of loads. -/

namespace Sys2Proof.Machine

/-! ## A transfer's work in its owning block -/

/-- The block that does a transfer's work. -/
def BulkOp.owner : BulkOp → Block
  | .loadMatrix _ _ _ _ _ | .readBank _ _ _ | .readTable _ _ => .mxs
  | .loadReference _ | .loadSensors _ => .scn
  | .loadLimits _ | .loadPairs _ | .applyShape _ => .lpc
  | .copySnapshot => .sns

theorem Part.beginWork_sameBut (op : BulkOp) (p : Part) : (p.beginWork op).sameBut p [op.owner] := by
  cases op <;> simp [Part.sameBut_iff, Part.beginWork, BulkOp.owner]

theorem Part.dropWork_sameBut (op : BulkOp) (p : Part) : (p.dropWork op).sameBut p [op.owner] := by
  cases op <;> simp [Part.sameBut_iff, Part.dropWork, BulkOp.owner]

theorem Part.beginWork_modXu (op : BulkOp) (g : Xu → Xu) (p : Part) :
    (p.modXu g).beginWork op = (p.beginWork op).modXu g := by
  cases op <;> rfl

theorem Part.dropWork_modXu (op : BulkOp) (g : Xu → Xu) (p : Part) : (p.modXu g).dropWork op = (p.dropWork op).modXu g := by
  cases op <;> rfl

/-- A change of the exchange unit alone. -/
theorem Part.modXu_sameBut (g : Xu → Xu) (p : Part) : (p.modXu g).sameBut p [.xu] := by
  simp [Part.sameBut_iff]

theorem Part.startCheck_modXu (g : Xu → Xu) (p : Part) (b : Bulk) : (p.modXu g).startCheck b = p.startCheck b := rfl

/-! ## The head of the queue starts (R168) -/

/-- The start of a head whose checks refuse it (R164, R168, R169). -/
theorem Part.startHead_refused {p : Part} {b : Bulk} {rest : List Bulk} (hlane : p.xu.lane = none) (hqueue : p.xu.queue = b :: rest)
    {r : Reason} (hcheck : p.startCheck b = .refused r) : startRefused p p.startHead b rest r := by
  have hstart : p.startHead = (p.finish b.order ((OrderResult.failed r).remaining b.length)).modXu fun x =>
      { x with queue := rest } := by
    rw [Part.startHead_eq hlane hqueue, Part.startBulk, Part.startCheck_modXu, hcheck]
    exact Part.finish_modXu ⟨rfl, rfl, rfl⟩ _ _
  rw [hstart]
  exact ⟨by simp, Part.finish_orderFinished _ _ _, by simp [Part.sameBut_iff]⟩

/-- The part as the head's transfer occupies the lane and its owning block has begun. -/
def Part.headBegun (p : Part) (b : Bulk) (rest : List Bulk) (total : Nat) : Part :=
  (p.beginWork b.op).modXu fun x => { x with lane := some ⟨b, total, 0, [], false⟩, queue := rest }

theorem Part.headBegun_sameBut (p : Part) (b : Bulk) (rest : List Bulk) (total : Nat) :
    (p.headBegun b rest total).sameBut (p.beginWork b.op) [.xu] := Part.modXu_sameBut _ _

theorem Part.beginWork_queue_lane (p : Part) (b : Bulk) (rest : List Bulk) (total : Nat) :
    ((p.modXu fun x => { x with queue := rest }).modXu fun x => { x with lane := some ⟨b, total, 0, [], false⟩ }).beginWork b.op =
      p.headBegun b rest total := by
  rw [Part.beginWork_modXu, Part.beginWork_modXu]
  rfl

/-- The start of a head that reads its source (R168, R169). -/
theorem Part.startHead_reads {p : Part} {b : Bulk} {rest : List Bulk} (hlane : p.xu.lane = none) (hqueue : p.xu.queue = b :: rest)
    {total : Nat} (hcheck : p.startCheck b = .reads total) :
    p.startHead = if total = 0 then (p.headBegun b rest total).completeLoad ⟨b, total, 0, [], false⟩
      else (p.headBegun b rest total).laneRead ⟨b, total, 0, [], false⟩ b.host total := by
  rw [Part.startHead_eq hlane hqueue, Part.startBulk, Part.startCheck_modXu, hcheck]
  exact congrArg (fun q : Part => if total = 0 then q.completeLoad ⟨b, total, 0, [], false⟩
    else q.laneRead ⟨b, total, 0, [], false⟩ b.host total) (p.beginWork_queue_lane b rest total)

/-- The start of a head that has an image to write (R168, R169). -/
theorem Part.startHead_writes {p : Part} {b : Bulk} {rest : List Bulk} (hlane : p.xu.lane = none) (hqueue : p.xu.queue = b :: rest)
    {total : Nat} (hcheck : p.startCheck b = .writes total) :
    p.startHead = if total = 0 then (p.headBegun b rest total).confirm ⟨b, total, 0, [], false⟩
      else p.headBegun b rest total := by
  rw [Part.startHead_eq hlane hqueue, Part.startBulk, Part.startCheck_modXu, hcheck]
  exact congrArg (fun q : Part => if total = 0 then q.confirm ⟨b, total, 0, [], false⟩ else q) (p.beginWork_queue_lane b rest total)

/-- The start of a load: its owning block begins and the source is read, or, without memory requests, the work is dropped again. -/
theorem Part.startHead_loads {p : Part} {b : Bulk} {rest : List Bulk} (hlane : p.xu.lane = none) (hqueue : p.xu.queue = b :: rest)
    {op : BulkOp} (hop : b.op = op) (hcheck : p.startCheck b = .reads b.length) (hlength : 0 < b.length)
    {begun dropped : Part → Prop} (hbegun : ∀ t : Part, t.sameBut (p.beginWork op) [.xu, .issued] → begun t)
    (hdropped : ∀ t : Part, t.sameBut ((p.beginWork op).dropWork op) [.xu, .tlu, .issued] → dropped t) :
    loadStarted p p.startHead b rest op.owner begun dropped := by
  subst hop
  rw [Part.startHead_reads hlane hqueue hcheck, if_neg hlength.ne']
  have howner := p.beginWork_sameBut b.op
  refine ⟨fun hmem => ?_, fun hmem => ?_⟩
  · have hmem' : (p.headBegun b rest b.length).xu.memRequests = true := by simpa [Part.headBegun] using hmem
    have hsame : ((p.headBegun b rest b.length).issue (.hostRead b.host b.length)).sameBut (p.beginWork b.op) [.xu, .issued] := by
      simp [Part.sameBut_iff, Part.headBegun]
    rw [Part.laneRead, if_pos hmem', Part.hostRead, if_pos hmem']
    exact ⟨by simp [Part.headBegun], hbegun _ hsame, by simp [Part.headBegun, Part.issue],
      hsame.trans (howner.mono (by simp)) (by simp)⟩
  · have hmem' : (p.headBegun b rest b.length).xu.memRequests = false := by simpa [Part.headBegun] using hmem
    let w := (p.beginWork b.op).dropWork b.op
    let q := w.finish b.order ((OrderResult.failed .hostAccess).remaining b.length)
    have hfail : (p.headBegun b rest b.length).laneRead ⟨b, b.length, 0, [], false⟩ b.host b.length =
        (q.modXu fun x => { x with lane := none, queue := rest }).countHostFailure := by
      rw [Part.laneRead, hmem', if_neg (by decide), Part.failTransfer, Part.endEarly_eq, Part.headBegun, Part.dropWork_modXu,
        Part.finish_modXu ⟨rfl, rfl, rfl⟩]
      rfl
    have hfinished : orderFinished w q (headOf b.order) _ := Part.finish_orderFinished _ _ _
    have hw : w.xu = p.xu := by simp [w]
    have hsame : (p.headBegun b rest b.length).laneRead ⟨b, b.length, 0, [], false⟩ b.host b.length |>.sameBut w
        [.xu, .tlu, .issued] := by
      rw [hfail]; simp [Part.sameBut_iff, q]
    refine ⟨q, orderFinished_of_reports (by simp [w]) (by simp [w]) (by rw [hw]; exact ⟨rfl, rfl, rfl⟩) hfinished, ?_, ?_,
      hdropped _ hsame, ?_, ?_⟩
    · rw [hfail]; simp
    · rw [hfail, Part.countHostFailure_issued]
      simp [Part.signal, Part.wouldSignal, q, hw, hmem]
    · rw [hfail]; simp [q, hw, hlane]
    · have hwork : w.sameBut p [b.op.owner] := (Part.dropWork_sameBut _ _).trans howner (by simp)
      exact hsame.trans (hwork.mono (by simp)) (by simp)

/-! ## The end of a load (R48, R106, R107, R163, R168) -/

theorem Part.endLane_eq (r : Running) (res : OrderResult) (p : Part) : p.endLane r res =
    (p.finish r.bulk.order (res.remaining r.remaining)).modXu fun x => { x with lane := none } :=
  Part.finish_modXu ⟨rfl, rfl, rfl⟩ _ _

theorem Part.endLane_xu (r : Running) (res : OrderResult) (p : Part) : (p.endLane r res).xu = { p.xu with lane := none } := by
  simp [Part.endLane_eq]

theorem Part.endLane_sameBut (r : Running) (res : OrderResult) (p : Part) :
    (p.endLane r res).sameBut p [.xu, .tlu, .issued] := by
  simp [Part.sameBut_iff, Part.endLane_eq]

/-- The order of a load that has taken its last byte finishes with nothing remaining. -/
theorem Part.endLane_finished {p q : Part} {r : Running} {res : OrderResult} (hxu : q.xu.ReportsAs p.xu) (htlu : q.tlu = p.tlu)
    (hissued : q.issued = p.issued) (hmoved : r.moved = r.total) (hres : res.d4 = 0) :
    orderFinished p (q.endLane r res) (headOf r.bulk.order) res := by
  have hremaining : res.remaining r.remaining = res := by
    rw [Running.remaining, hmoved, Nat.sub_self]
    exact congrArg (fun d => { res with d4 := d }) hres.symm
  rw [Part.endLane_eq, hremaining]
  exact orderFinished_of_reports htlu hissued hxu (Part.finish_orderFinished _ _ _)

theorem Part.pairsWait_lpc (p : Part) : p.pairsWait.lpc = if p.lpc.loop = .stopped then
    { p.lpc with pairLive := p.lpc.pairShadow, pairWaiting := false } else { p.lpc with pairWaiting := true } :=
  apply_ite Part.lpc _ _ _

/-- The pairs that a load has kept become the shadow (R107). -/
theorem Part.completeActuatorLoad_pairs {l : ActuatorLoad} (hkind : l.kind = .pairs) (hbad : l.bad = none) (p : Part) :
    p.completeActuatorLoad l = ({ countedDone l.dropped with d2 := BitVec.ofNat 32 l.pairs.length },
      (p.modLpc fun c => { c with load := none, pairShadow := l.pairs }).pairsWait) := by
  unfold Part.completeActuatorLoad
  rw [hbad, hkind]
  rfl

end Sys2Proof.Machine
end

section
/-! SUPPORT. The head of the transfer queue starts (O45): loads from the host, and readbacks to it. -/

namespace Sys2Proof.Proofs

open Sys2Proof.Machine

/-! ## Loads -/

theorem startCheck_loadMatrix {p : Part} {b : Bulk} {k : BankIx} {n m e : Nat} {check : BitVec 32}
    (hop : b.op = .loadMatrix k n m e check) : p.startCheck b = p.startMatrix k b.length := by
  rw [Part.startCheck, hop]

theorem swapTarget_eq_false {p : Part} {k : BankIx} (h : ∀ w, p.mxs.pendingSwap = some w → w.target ≠ k) :
    p.swapTarget k = false := by
  unfold Part.swapTarget
  split
  · rfl
  · rename_i w hw
    simpa using h w hw

/-- A matrix load whose work is dropped as it begins leaves its bank EMPTY with the order's dimensions (R78, R81, R153). -/
theorem beginMatrix_dropped (p : Part) (k : BankIx) (n m e : Nat) (check : BitVec 32) :
    ((p.beginMatrix k n m e check).dropMatrixLoad k).mxs = { p.mxs with
      banks := p.mxs.banks.set k ⟨.empty, n, m, e, check, 0⟩
      load := none
      bursts := p.mxs.bursts.map loaderOrphaned } := by
  simp [Part.beginMatrix, Part.dropMatrixLoad, Part.modBank, Two.set_set, loaderOrphaned_eq]

/-- The load of no PAIRS completes as it starts (R107). -/
theorem startHead_noPairs {p : Part} {b : Bulk} {rest : List Bulk} (hlane : p.xu.lane = none) (hqueue : p.xu.queue = b :: rest)
    (hop : b.op = .loadPairs 0) (hlength : b.length = 0) :
    p.startHead.xu = { p.xu with queue := rest } ∧ orderFinished p p.startHead (headOf b.order) .done ∧
      p.startHead.lpc = (if p.lpc.loop = .stopped then
          { p.lpc with load := none, pairShadow := [], pairLive := [], pairWaiting := false }
        else { p.lpc with load := none, pairShadow := [], pairWaiting := true }) ∧
      p.startHead.sameBut p [.xu, .lpc, .tlu, .issued] := by
  let q := ((p.headBegun b rest 0).modLpc fun c => { c with load := none, pairShadow := [] }).pairsWait
  have hstart : p.startHead = q.endLane ⟨b, 0, 0, [], false⟩ .done := by
    have hload : (p.headBegun b rest 0).lpc.load = some ⟨.pairs, 0, 0, [], [], 0, 0, none⟩ := by
      rw [Part.headBegun, hop]; rfl
    rw [Part.startHead_reads (total := 0) hlane hqueue (by rw [Part.startCheck, hop, hlength]), if_pos rfl, Part.completeLoad, hop]
    simp only [hload]
    rw [Part.completeActuatorLoad_pairs rfl rfl]
    rfl
  have hbegun : (p.headBegun b rest 0).sameBut p [.xu, .lpc] := by
    simp [Part.sameBut_iff, Part.headBegun, hop, Part.beginWork]
  have hq : q.sameBut p [.xu, .lpc] := by
    simp only [Part.sameBut_iff] at hbegun ⊢
    simpa [q] using hbegun
  have hxu : q.xu = { p.xu with lane := some ⟨b, 0, 0, [], false⟩, queue := rest } := by simp [q, Part.headBegun]
  rw [hstart]
  refine ⟨by simp [Part.endLane_xu, hxu, hlane], Part.endLane_finished (by rw [hxu]; exact ⟨rfl, rfl, rfl⟩) (hq .tlu (by decide))
    (hq .issued (by decide)) rfl rfl, ?_, (Part.endLane_sameBut _ _ _).trans (hq.mono (by simp)) (by simp)⟩
  have hlpc : (q.endLane ⟨b, 0, 0, [], false⟩ .done).lpc = q.lpc := Part.endLane_sameBut _ _ _ .lpc (by decide)
  rw [hlpc, Part.pairsWait_lpc]
  simp [Part.headBegun, hop, Part.beginWork]

/-- The starts of loads (O45's first part). -/
theorem loadsStart_holds : loadsStart := by
  intro s
  have hexec : exec .transferStart s = .next { s with part := s.part.startHead } := rfl
  refine ⟨fun hidle => by rw [hexec, Part.startHead_idle hidle], fun b rest hlane hqueue => ⟨_, hexec, rfl, ?_⟩⟩
  have hrefused {r : Reason} := Part.startHead_refused hlane hqueue (r := r)
  refine ⟨fun k n m e check hop => ?_, fun n hlength => ?_, fun n hop hloop => hrefused ?_, fun hop hlength =>
    startHead_noPairs hlane hqueue hop hlength⟩
  · have hcheck := startCheck_loadMatrix (p := s.part) hop
    refine ⟨fun hstate => hrefused ?_, fun hstate => hrefused ?_, fun w hstate hw htarget => hrefused ?_,
      fun hstate hswap hlength => ?_⟩
    · rw [hcheck, Part.startMatrix, hstate]
    · rw [hcheck, Part.startMatrix, hstate]
    · simp [hcheck, Part.startMatrix, hstate, Part.swapTarget, hw, htarget]
    · have hreads : s.part.startCheck b = .reads b.length := by
        rcases hstate with hstate | hstate <;> simp [hcheck, Part.startMatrix, hstate, swapTarget_eq_false hswap]
      exact Part.startHead_loads hlane hqueue hop hreads hlength (fun t ht => ht .mxs (by decide))
        fun t ht => (ht .mxs (by decide)).trans (beginMatrix_dropped s.part k n m e check)
  · refine ⟨fun hop => ?_, fun hop => ?_, fun hop => ?_, fun hop => ?_, fun hop hloop => ?_⟩
    · exact Part.startHead_loads hlane hqueue hop (by rw [Part.startCheck, hop]) hlength (fun t ht => ht .scn (by decide))
        fun t ht => ht .scn (by decide)
    · exact Part.startHead_loads hlane hqueue hop (by rw [Part.startCheck, hop]) hlength (fun t ht => ht .scn (by decide))
        fun t ht => ht .scn (by decide)
    · exact Part.startHead_loads hlane hqueue hop (by rw [Part.startCheck, hop]) hlength (fun t ht => ht .lpc (by decide))
        fun t ht => ht .lpc (by decide)
    · exact Part.startHead_loads hlane hqueue hop (by rw [Part.startCheck, hop]) hlength (fun t ht => ht .lpc (by decide))
        fun t ht => ht .lpc (by decide)
    · have hreads : s.part.startCheck b = .reads b.length := by rw [Part.startCheck, hop]; exact if_pos hloop
      exact Part.startHead_loads hlane hqueue hop hreads hlength (fun t ht => ht .lpc (by decide)) fun t ht =>
        ht .lpc (by decide)
  · rw [Part.startCheck, hop]; exact if_neg hloop

/-! ## Readbacks and the snapshot copy -/

/-- A head with an image to write moves to the lane, and only its owning block begins. -/
theorem startHead_moves {p : Part} {b : Bulk} {rest : List Bulk} (hlane : p.xu.lane = none) (hqueue : p.xu.queue = b :: rest)
    {op : BulkOp} (hop : b.op = op) {total : Nat} (hcheck : p.startCheck b = .writes total) (htotal : 0 < total) :
    p.startHead.xu = { p.xu with lane := some ⟨b, total, 0, [], false⟩, queue := rest } ∧
      p.startHead.sameBut (p.beginWork op) [.xu] ∧ p.startHead.sameBut p [.xu, op.owner] := by
  subst hop
  rw [Part.startHead_writes hlane hqueue hcheck, if_neg htotal.ne']
  have hsame := p.headBegun_sameBut b rest total
  exact ⟨by simp [Part.headBegun], hsame, hsame.trans ((p.beginWork_sameBut b.op).mono (by simp)) (by simp)⟩

theorem fitting_refused {image size : Nat} (h : size < image) : fitting image size = .refused .badParameter := if_pos h

theorem fitting_writes {image size : Nat} (h : image ≤ size) : fitting image size = .writes image := if_neg (by omega)

/-- An empty table image is confirmed as its readback starts (R88, R169). -/
theorem startHead_confirms {p : Part} {b : Bulk} {rest : List Bulk} (hlane : p.xu.lane = none) (hqueue : p.xu.queue = b :: rest)
    {op : BulkOp} (hop : b.op = op) (hcheck : p.startCheck b = .writes 0) (hmem : p.xu.memRequests = true) :
    p.startHead.xu = { p.xu with lane := some ⟨b, 0, 0, [], true⟩, queue := rest } ∧
      p.startHead.issued = p.issued ++ [.hostRead (b.host + BitVec.ofNat 64 (b.length - 64)) 64] ∧
      p.startHead.sameBut (p.beginWork op) [.xu, .issued] ∧ p.startHead.sameBut p [.xu, op.owner, .issued] := by
  subst hop
  rw [Part.startHead_writes hlane hqueue hcheck, if_pos rfl]
  have hconfirm : (p.headBegun b rest 0).confirm ⟨b, 0, 0, [], false⟩ =
      ((p.headBegun b rest 0).modXu fun x => { x with lane := some ⟨b, 0, 0, [], true⟩ }).issue
        (.hostRead (b.host + BitVec.ofNat 64 (b.length - 64)) 64) := by
    simp [Part.confirm, Part.laneRead, Part.hostRead, Part.headBegun, hmem]
  have hsame : ((p.headBegun b rest 0).confirm ⟨b, 0, 0, [], false⟩).sameBut (p.beginWork b.op) [.xu, .issued] := by
    rw [hconfirm]; simp [Part.sameBut_iff, Part.headBegun]
  refine ⟨by rw [hconfirm]; simp [Part.headBegun], by rw [hconfirm]; simp [Part.headBegun, Part.issue], hsame,
    hsame.trans ((p.beginWork_sameBut b.op).mono (by simp)) (by simp)⟩

/-- The starts of readbacks and of the snapshot copy (O45's second part). -/
theorem readbacksStart_holds : readbacksStart := by
  intro s b rest hlane hqueue
  have hrefused {r : Reason} := Part.startHead_refused hlane hqueue (r := r)
  refine ⟨{ s with part := s.part.startHead }, rfl, rfl, fun k first columns hop => ?_, fun table shadow hop => ?_,
    fun hop hfilled => hrefused ?_, fun hop hfilled => ?_⟩
  · have hcheck : s.part.startCheck b = s.part.startReadBank k first columns b.length := by rw [Part.startCheck, hop]
    refine ⟨fun hstate => hrefused ?_, fun hstate => hrefused ?_, fun hstate => ?_⟩
    · rw [hcheck, Part.startReadBank, hstate]
    · rw [hcheck, Part.startReadBank, hstate]
    · have hfits : s.part.startCheck b = if (s.part.mxs.banks.get k).s < first + columns then .refused .badParameter
          else fitting (2 * columns * (s.part.mxs.banks.get k).a) b.length := by
        rcases hstate with hstate | hstate <;> rw [hcheck, Part.startReadBank, hstate]
      refine ⟨fun hbad => hrefused ?_, fun hcolumns himage hpos => ?_⟩
      · rw [hfits]
        split
        · rfl
        · rename_i hcolumns
          exact fitting_refused (hbad.resolve_left hcolumns)
      · rw [if_neg (Nat.not_lt.mpr hcolumns), fitting_writes himage] at hfits
        obtain ⟨hxu, hbegun, hsame⟩ := startHead_moves hlane hqueue hop hfits hpos
        exact ⟨hxu, hbegun .mxs (by decide), hsame⟩
  · have hcheck : s.part.startCheck b = fitting (s.part.tableImage table shadow).length b.length := by rw [Part.startCheck, hop]
    refine ⟨_, s.part.tableImage_imaged table shadow, fun hsmall => hrefused (hcheck.trans (fitting_refused hsmall)),
      fun hfits hpos => ?_, fun hfits hempty hmem => ?_⟩
    · obtain ⟨hxu, hbegun, hsame⟩ := startHead_moves hlane hqueue hop (hcheck.trans (fitting_writes hfits)) hpos
      exact ⟨hxu, hbegun .mxs (by decide), hsame⟩
    · rw [fitting_writes hfits, hempty] at hcheck
      obtain ⟨hxu, hissued, hbegun, hsame⟩ := startHead_confirms hlane hqueue hop hcheck hmem
      refine ⟨hxu, (hbegun .mxs (by decide)).trans ?_, hissued, hsame.mono (by simp [BulkOp.owner])⟩
      simp [Part.beginWork, List.length_eq_zero_iff.mp hempty]
  · rw [Part.startCheck, hop, hfilled]; rfl
  · have hcheck : s.part.startCheck b = .writes 65600 := by rw [Part.startCheck, hop, hfilled]; rfl
    obtain ⟨hxu, hbegun, hsame⟩ := startHead_moves hlane hqueue hop hcheck (by decide)
    exact ⟨hxu, hbegun .sns (by decide), hsame⟩

/-- Settles O45: the starts of loads, of readbacks and of the snapshot copy. -/
theorem transferStarts : Obligations.TransferStarts := ⟨loadsStart_holds, readbacksStart_holds⟩

end Sys2Proof.Proofs
end

section
/-! SUPPORT. Bytes from the host (O46): the running sum of a matrix load, and the entries of tables as they are gathered. -/

namespace Sys2Proof.Machine

/-! ## The running sum of a matrix load (R79) -/

/-- Bytes fed from an even place add their whole coefficients, and an odd last byte waits. -/
theorem SumState.feed_all (sum : BitVec 32) (all : List Byte) : all.foldl SumState.feed ⟨sum, none⟩ =
    ⟨(List.range (all.length / 2)).foldl (fun sum n => sum + (field16 all (2 * n)).signExtend 32) sum,
      if all.length % 2 = 1 then all.getLast? else none⟩ := by
  match all with
  | [] => rfl
  | [a] => simp [SumState.feed]
  | a :: b :: rest =>
    have hfirst : field16 (a :: b :: rest) 0 = b ++ a := by rw [field16_eq]; rfl
    have hnext (n : Nat) : field16 (a :: b :: rest) (2 * (n + 1)) = field16 rest (2 * n) := by
      rw [field16_eq, field16_eq, Nat.mul_succ]; rfl
    have hhalf : (a :: b :: rest).length / 2 = rest.length / 2 + 1 := by simp only [List.length_cons]; omega
    have hlow : (if (a :: b :: rest).length % 2 = 1 then (a :: b :: rest).getLast? else none) =
        if rest.length % 2 = 1 then rest.getLast? else none := by
      have hodd : (a :: b :: rest).length % 2 = rest.length % 2 := by simp only [List.length_cons]; omega
      rw [hodd]
      cases rest with
      | nil => simp
      | cons c rest => simp only [List.getLast?_cons_cons]
    have hstep : (a :: b :: rest).foldl SumState.feed ⟨sum, none⟩ =
        rest.foldl SumState.feed ⟨sum + (b ++ a : BitVec 16).signExtend 32, none⟩ := rfl
    rw [hstep, SumState.feed_all _ rest, hhalf, hlow, List.range_succ_eq_map, List.foldl_cons, List.foldl_map, Nat.mul_zero, hfirst]
    simp only [hnext]

/-- A byte left over is as if it came with the next piece. -/
theorem SumState.feed_low (sum : BitVec 32) (low : Option Byte) (bytes : List Byte) :
    bytes.foldl SumState.feed ⟨sum, low⟩ = (low.toList ++ bytes).foldl SumState.feed ⟨sum, none⟩ := by
  cases low <;> rfl

/-! ## Lists as they grow by entries -/

/-- The index of the first bad entry, after entries 0 to k - 1 behind the ones gathered before, stands as b' where it stood as b: an
earlier one stays, and otherwise it is that of the first entry whose code is above its bound (R47, R106). -/
def firstBadFound (code : Nat → Nat) (bound gathered : Nat) (b b' : Option Nat) (k : Nat) : Prop :=
  (b.isSome = true ∨ (∀ j < k, code j ≤ bound) → b' = b) ∧
  (∀ j < k, b = none → bound < code j → (∀ m < j, code m ≤ bound) → b' = some (gathered + j))

theorem firstBadFound_zero (code : Nat → Nat) (bound gathered : Nat) (b : Option Nat) :
    firstBadFound code bound gathered b b 0 :=
  ⟨fun _ => rfl, fun _ hj => absurd hj (Nat.not_lt_zero _)⟩

/-- One more entry is judged. -/
theorem firstBadFound.succ {code : Nat → Nat} {bound gathered : Nat} {b b' : Option Nat} {k : Nat}
    (h : firstBadFound code bound gathered b b' k) : firstBadFound code bound gathered b
      (if bound < code k ∧ b' = none then some (gathered + k) else b') (k + 1) := by
  obtain ⟨hstays, hfirst⟩ := h
  refine ⟨fun hgood => ?_, fun j hj hb hbad hbefore => ?_⟩
  · rw [hstays (hgood.imp_right fun hall j hj => hall j (by omega))]
    refine if_neg fun ⟨hbad, hb⟩ => ?_
    rcases hgood with hsome | hall
    · simp [hb] at hsome
    · exact absurd (hall k (by omega)) (by omega)
  · rcases Nat.lt_succ_iff_lt_or_eq.mp hj with hlt | rfl
    · rw [hfirst j hlt hb hbad hbefore]
      simp
    · rw [if_pos ⟨hbad, (hstays (.inr hbefore)).trans hb⟩]

/-- Entries from a function of their index, read back. -/
theorem getD_map_range {α : Type} (f : Nat → α) {k j : Nat} (h : j < k) (d : α) : ((List.range k).map f).getD j d = f j := by
  simp [List.getD_eq_getElem?_getD, h]

/-! ## REFERENCE entries (R47) -/

theorem referencesGathered_place {l : SlopeLoad} (hkind : l.kind = .reference) (all : List Byte) (k : Nat) :
    referencesGathered l ((chunks 2 k all).foldl SlopeLoad.place l) all k := by
  induction k with
  | zero => simp [referencesGathered, chunks]
  | succ k ih =>
    have hfield : field16 ((all.drop (2 * k)).take 2) 0 = field16 all (2 * k) := field16_chunk _ _ (by decide)
    rw [referencesGathered] at ih ⊢
    rw [chunks_succ, List.foldl_append, ih]
    simp [SlopeLoad.place, hkind, SlopeLoad.placeReference, hfield, List.range_succ, Nat.add_assoc]

/-! ## SENSORS entries (R47) -/

/-- The parameters that SENSORS entry j of a run spells, as it is placed. -/
def sensorEntry (all : List Byte) (j : Nat) : SensorParam :=
  ⟨field16 all (8 * j), field16 all (8 * j + 2), (policyOf (byteAt all (8 * j + 4))).getD .zero,
    clampTo 1 255 (field16 all (8 * j + 6)).toNat⟩

theorem sensorEntry_eq {all : List Byte} {j : Nat} (h : (byteAt all (8 * j + 4)).toNat ≤ 2) : sensorEntry all j =
    ⟨field16 all (8 * j), field16 all (8 * j + 2), if (byteAt all (8 * j + 4)).toNat = 0 then .keep
      else if (byteAt all (8 * j + 4)).toNat = 1 then .zero else .require, max 1 (min 255 (field16 all (8 * j + 6)).toNat)⟩ := by
  have h0 : byteAt all (8 * j + 4) = 0 ↔ (byteAt all (8 * j + 4)).toNat = 0 := by bv_omega
  have h1 : byteAt all (8 * j + 4) = 1 ↔ (byteAt all (8 * j + 4)).toNat = 1 := by bv_omega
  simp only [sensorEntry, policyOf_eq_some h, Option.getD_some, clampTo, h0, h1]

/-- One SENSORS entry is placed. -/
theorem SlopeLoad.placeSensors_chunk (l : SlopeLoad) (all : List Byte) (k : Nat) :
    l.placeSensors ((all.drop (8 * k)).take 8) = { l with
      got := l.got + 1
      params := l.params ++ [sensorEntry all k]
      adjusted := l.adjusted + if (field16 all (8 * k + 6)).toNat < 1 ∨ 255 < (field16 all (8 * k + 6)).toNat then 1 else 0
      bad := if 2 < (byteAt all (8 * k + 4)).toNat ∧ l.bad = none then some l.got else l.bad } := by
  have hpolicy : (policyOf (byteAt all (8 * k + 4))).isNone = true ↔ 2 < (byteAt all (8 * k + 4)).toNat := by
    by_cases h : (byteAt all (8 * k + 4)).toNat ≤ 2
    · simp [policyOf_eq_some h, Nat.not_lt.mpr h]
    · simp [policyOf_eq_none (Nat.not_le.mp h), Nat.not_le.mp h]
  have hentry : (⟨field16 ((all.drop (8 * k)).take 8) 0, field16 ((all.drop (8 * k)).take 8) 2,
      (policyOf (field8 ((all.drop (8 * k)).take 8) 4)).getD .zero,
      clampTo 1 255 (field16 ((all.drop (8 * k)).take 8) 6).toNat⟩ : SensorParam) = sensorEntry all k := by
    rw [field16_chunk _ _ (by decide), field16_chunk _ _ (by decide), field16_chunk _ _ (by decide), field8,
      byteAt_chunk _ _ (by decide)]
    rfl
  have hkeep : field16 ((all.drop (8 * k)).take 8) 6 = field16 all (8 * k + 6) := field16_chunk _ _ (by decide)
  have hcode : field8 ((all.drop (8 * k)).take 8) 4 = byteAt all (8 * k + 4) := byteAt_chunk _ _ (by decide)
  rw [SlopeLoad.placeSensors, hentry, hkeep, hcode]
  simp only [outside, Bool.and_eq_true, Bool.or_eq_true, decide_eq_true_eq, hpolicy, Option.isNone_iff_eq_none]
  congr 1
  split <;> rfl

/-- SENSORS entries in closed form. -/
theorem SlopeLoad.place_sensors {l : SlopeLoad} (hkind : l.kind = .sensors) (all : List Byte) (k : Nat) :
    ∃ b', firstBadFound (fun j => (byteAt all (8 * j + 4)).toNat) 2 l.got l.bad b' k ∧
      (chunks 8 k all).foldl SlopeLoad.place l = { l with
        got := l.got + k
        params := l.params ++ (List.range k).map (sensorEntry all)
        adjusted := l.adjusted + (List.range k).countP fun j =>
          decide ((field16 all (8 * j + 6)).toNat < 1 ∨ 255 < (field16 all (8 * j + 6)).toNat)
        bad := b' } := by
  induction k with
  | zero => exact ⟨l.bad, firstBadFound_zero _ _ _ _, by simp [chunks]⟩
  | succ k ih =>
    obtain ⟨b', hbad, hfold⟩ := ih
    refine ⟨_, hbad.succ, ?_⟩
    rw [chunks_succ, List.foldl_append, hfold]
    simp [SlopeLoad.place, hkind, SlopeLoad.placeSensors_chunk, List.range_succ, List.countP_append, List.countP_cons,
      Nat.add_assoc]

theorem parametersGathered_place {l : SlopeLoad} (hkind : l.kind = .sensors) (all : List Byte) (k : Nat) :
    parametersGathered l ((chunks 8 k all).foldl SlopeLoad.place l) all k := by
  obtain ⟨b', ⟨hstays, hfirst⟩, hfold⟩ := SlopeLoad.place_sensors hkind all k
  rw [hfold]
  exact ⟨(List.range k).map (sensorEntry all), by simp, fun j hj hcode => (getD_map_range _ hj _).trans (sensorEntry_eq hcode),
    rfl, hstays, hfirst⟩

/-! ## LIMITS entries (R106) -/

/-- A judged limits entry: hi raised to lo, flat within. -/
theorem judgedLimits_eq (lo hi flat : BitVec 16) (active : Bool) : judgedLimits lo hi flat active =
    ⟨lo, BitVec.ofNat 16 (max lo.toNat hi.toNat), BitVec.ofNat 16 (max lo.toNat (min (max lo.toNat hi.toNat) flat.toNat)),
      active⟩ := by
  have hhi : (if hi.toNat < lo.toNat then lo else hi) = BitVec.ofNat 16 (max lo.toNat hi.toNat) := by
    split
    · rw [Nat.max_eq_left (by omega)]; simp
    · rw [Nat.max_eq_right (by omega)]; simp
  have hmax : (BitVec.ofNat 16 (max lo.toNat hi.toNat)).toNat = max lo.toNat hi.toNat := by
    rw [BitVec.toNat_ofNat, Nat.mod_eq_of_lt (by omega)]
  simp only [judgedLimits, hhi, hmax]
  congr 1
  split
  · rw [Nat.max_eq_left (by omega)]; simp
  · split
    · rename_i habove
      rw [Nat.min_eq_left (Nat.le_of_lt habove), Nat.max_eq_right (Nat.le_max_left _ _)]
    · rw [Nat.min_eq_right (by omega), Nat.max_eq_right (by omega)]; simp

theorem ofNat_ne_iff {v : Nat} (hv : v < 65536) (x : BitVec 16) : BitVec.ofNat 16 v ≠ x ↔ v ≠ x.toNat := by
  rw [ne_eq, ← BitVec.toNat_inj, BitVec.toNat_ofNat, Nat.mod_eq_of_lt hv]

/-- The hi that LIMITS entry a of a run is given, and the flat. -/
def limitsEntryHi (all : List Byte) (a : Nat) : Nat := max (field16 all (8 * a)).toNat (field16 all (8 * a + 2)).toNat

/-- The flat that LIMITS entry a of a run is given. -/
def limitsEntryFlat (all : List Byte) (a : Nat) : Nat :=
  max (field16 all (8 * a)).toNat (min (limitsEntryHi all a) (field16 all (8 * a + 4)).toNat)

/-- The limits that LIMITS entry a of a run spells, as it is placed. -/
def limitsEntry (all : List Byte) (a : Nat) : Limits :=
  ⟨field16 all (8 * a), BitVec.ofNat 16 (limitsEntryHi all a), BitVec.ofNat 16 (limitsEntryFlat all a),
    (flagOf (byteAt all (8 * a + 6))).getD false⟩

theorem limitsEntry_eq {all : List Byte} {a : Nat} (h : (byteAt all (8 * a + 6)).toNat ≤ 1) : limitsEntry all a =
    ⟨field16 all (8 * a), BitVec.ofNat 16 (limitsEntryHi all a), BitVec.ofNat 16 (limitsEntryFlat all a),
      decide ((byteAt all (8 * a + 6)).toNat = 1)⟩ := by
  have h1 : byteAt all (8 * a + 6) = 1 ↔ (byteAt all (8 * a + 6)).toNat = 1 := by bv_omega
  simp only [limitsEntry, flagOf_eq_some h, Option.getD_some, h1]

/-- One LIMITS entry is placed. -/
theorem ActuatorLoad.placeLimits_chunk (l : ActuatorLoad) (all : List Byte) (k : Nat) :
    l.placeLimits ((all.drop (8 * k)).take 8) = { l with
      got := l.got + 1
      limits := l.limits ++ [limitsEntry all k]
      adjusted := l.adjusted + if limitsEntryHi all k ≠ (field16 all (8 * k + 2)).toNat ∨
        limitsEntryFlat all k ≠ (field16 all (8 * k + 4)).toNat then 1 else 0
      bad := if 1 < (byteAt all (8 * k + 6)).toNat ∧ l.bad = none then some l.got else l.bad } := by
  have hflag : (flagOf (byteAt all (8 * k + 6))).isNone = true ↔ 1 < (byteAt all (8 * k + 6)).toNat := by
    by_cases h : (byteAt all (8 * k + 6)).toNat ≤ 1
    · simp [flagOf_eq_some h, Nat.not_lt.mpr h]
    · simp [flagOf_eq_none (Nat.not_le.mp h), Nat.not_le.mp h]
  have hlo : field16 ((all.drop (8 * k)).take 8) 0 = field16 all (8 * k) := field16_chunk _ _ (by decide)
  have hhi : field16 ((all.drop (8 * k)).take 8) 2 = field16 all (8 * k + 2) := field16_chunk _ _ (by decide)
  have hflat : field16 ((all.drop (8 * k)).take 8) 4 = field16 all (8 * k + 4) := field16_chunk _ _ (by decide)
  have hcode : field8 ((all.drop (8 * k)).take 8) 6 = byteAt all (8 * k + 6) := byteAt_chunk _ _ (by decide)
  have hentry : judgedLimits (field16 all (8 * k)) (field16 all (8 * k + 2)) (field16 all (8 * k + 4))
      ((flagOf (byteAt all (8 * k + 6))).getD false) = limitsEntry all k := judgedLimits_eq _ _ _ _
  have hhiNe : (limitsEntry all k).hi ≠ field16 all (8 * k + 2) ↔ limitsEntryHi all k ≠ (field16 all (8 * k + 2)).toNat :=
    ofNat_ne_iff (by unfold limitsEntryHi; omega) _
  have hflatNe : (limitsEntry all k).flat ≠ field16 all (8 * k + 4) ↔
      limitsEntryFlat all k ≠ (field16 all (8 * k + 4)).toNat :=
    ofNat_ne_iff (by unfold limitsEntryFlat; omega) _
  simp only [ActuatorLoad.placeLimits, hlo, hhi, hflat, hcode, hentry, Bool.and_eq_true, Bool.or_eq_true, decide_eq_true_eq,
    hflag, Option.isNone_iff_eq_none, hhiNe, hflatNe]
  congr 1
  split <;> rfl

/-- LIMITS entries in closed form. -/
theorem ActuatorLoad.place_limits {l : ActuatorLoad} (hkind : l.kind = .limits) (count : Nat) (all : List Byte) (k : Nat) :
    ∃ b', firstBadFound (fun a => (byteAt all (8 * a + 6)).toNat) 1 l.got l.bad b' k ∧
      (chunks 8 k all).foldl (ActuatorLoad.place count) l = { l with
        got := l.got + k
        limits := l.limits ++ (List.range k).map (limitsEntry all)
        adjusted := l.adjusted + (List.range k).countP fun a => decide (limitsEntryHi all a ≠ (field16 all (8 * a + 2)).toNat ∨
          limitsEntryFlat all a ≠ (field16 all (8 * a + 4)).toNat)
        bad := b' } := by
  induction k with
  | zero => exact ⟨l.bad, firstBadFound_zero _ _ _ _, by simp [chunks]⟩
  | succ k ih =>
    obtain ⟨b', hbad, hfold⟩ := ih
    refine ⟨_, hbad.succ, ?_⟩
    rw [chunks_succ, List.foldl_append, hfold]
    simp [ActuatorLoad.place, hkind, ActuatorLoad.placeLimits_chunk, List.range_succ, List.countP_append, List.countP_cons,
      Nat.add_assoc]

theorem limitsGathered_place {l : ActuatorLoad} (hkind : l.kind = .limits) (count : Nat) (all : List Byte) (k : Nat) :
    limitsGathered l ((chunks 8 k all).foldl (ActuatorLoad.place count) l) all k := by
  obtain ⟨b', ⟨hstays, hfirst⟩, hfold⟩ := ActuatorLoad.place_limits hkind count all k
  rw [hfold]
  exact ⟨(List.range k).map (limitsEntry all), by simp, fun a ha hcode => (getD_map_range _ ha _).trans (limitsEntry_eq hcode),
    rfl, hstays, hfirst⟩

/-! ## PAIRS entries (R107) -/

/-- The pair that PAIRS entry j of a run spells. -/
def pairEntry (all : List Byte) (j : Nat) : ActuatorPair :=
  ⟨(field16 all (6 * j)).toNat, (field16 all (6 * j + 2)).toNat, (field16 all (6 * j + 4)).toNat⟩

/-- A pair that a load keeps, with so many actuators. -/
def ActuatorPair.kept (count : Nat) (x : ActuatorPair) : Bool := decide (x.p ≠ x.r ∧ x.p < count ∧ x.r < count ∧ 0 < x.d)

/-- One PAIRS entry is placed or dropped. -/
theorem ActuatorLoad.placePair_chunk (count : Nat) (l : ActuatorLoad) (all : List Byte) (k : Nat) :
    l.placePair count ((all.drop (6 * k)).take 6) =
      if (pairEntry all k).kept count then { l with got := l.got + 1, pairs := l.pairs ++ [pairEntry all k] }
      else { l with got := l.got + 1, dropped := l.dropped + 1 } := by
  have hp : field16 ((all.drop (6 * k)).take 6) 0 = field16 all (6 * k) := field16_chunk _ _ (by decide)
  have hr : field16 ((all.drop (6 * k)).take 6) 2 = field16 all (6 * k + 2) := field16_chunk _ _ (by decide)
  have hd : field16 ((all.drop (6 * k)).take 6) 4 = field16 all (6 * k + 4) := field16_chunk _ _ (by decide)
  have hkept : (pairEntry all k).kept count = true ↔ ¬ ((decide ((pairEntry all k).p = (pairEntry all k).r) ||
      decide (count ≤ (pairEntry all k).p) || decide (count ≤ (pairEntry all k).r) || decide ((pairEntry all k).d = 0)) =
        true) := by
    simp only [ActuatorPair.kept, Bool.or_eq_true, decide_eq_true_eq]
    omega
  simp only [ActuatorLoad.placePair, hp, hr, hd, hkept, ite_not]
  rfl

theorem pairsGathered_place {l : ActuatorLoad} (hkind : l.kind = .pairs) (p : Part) (all : List Byte) (k : Nat) :
    pairsGathered p l ((chunks 6 k all).foldl (ActuatorLoad.place p.geo.actuators) l) all k := by
  suffices h : (chunks 6 k all).foldl (ActuatorLoad.place p.geo.actuators) l = { l with
      got := l.got + k
      pairs := l.pairs ++ ((List.range k).map (pairEntry all)).filter (ActuatorPair.kept p.geo.actuators)
      dropped := l.dropped +
        (k - (((List.range k).map (pairEntry all)).filter (ActuatorPair.kept p.geo.actuators)).length) } from h
  induction k with
  | zero => simp [chunks]
  | succ k ih =>
    have hle : (((List.range k).map (pairEntry all)).filter (ActuatorPair.kept p.geo.actuators)).length ≤ k := by
      simpa using List.length_filter_le (ActuatorPair.kept p.geo.actuators) ((List.range k).map (pairEntry all))
    rw [chunks_succ, List.foldl_append, ih, List.foldl_cons, List.foldl_nil, List.range_succ, List.map_append, List.filter_append,
      ActuatorLoad.place, List.map_cons, List.map_nil]
    simp only [hkind, ActuatorLoad.placePair_chunk]
    by_cases hkept : (pairEntry all k).kept p.geo.actuators = true
    · rw [if_pos hkept, List.filter_cons_of_pos hkept]
      simp [Nat.add_assoc]
    · rw [if_neg hkept, List.filter_cons_of_neg hkept]
      simp [Nat.add_assoc, Nat.sub_add_comm hle]

end Sys2Proof.Machine
end

section
/-! SUPPORT. Ends of table loads and shapes (O46): the entries that a piece brings, the tables that a complete load leaves, and the
codes of a shape handed over. -/

namespace Sys2Proof.Machine

/-! ## A piece of bytes (R169) -/

theorem Running.expects_eq_true {r : Running} {bytes : List Byte} (hconfirming : r.confirming = false) (hbytes : bytes ≠ [])
    (hle : r.moved + bytes.length ≤ r.total) : r.expects bytes = true := by
  simp [Running.expects, hconfirming, List.length_pos_iff.mpr hbytes, hle]

/-- The part after a piece's whole entries have been placed. -/
def Part.entriesPlaced (p : Part) (r : Running) (bytes : List Byte) (size : Nat) : Part :=
  (p.modXu fun x => { x with lane := some (r.took bytes) }).placeEntries r.bulk.op
    (chunks size ((r.carry ++ bytes).length / size) (r.carry ++ bytes))

/-- A piece of a load that takes whole entries; its last one completes the load. -/
theorem Part.hostReadCompletion_entries {p : Part} {r : Running} {bytes : List Byte} {size : Nat} (hlane : p.xu.lane = some r)
    (hexpects : r.expects bytes = true) (hsize : entryBytes r.bulk.op = some size) :
    p.hostReadCompletion bytes = (if r.moved + bytes.length = r.total then
      (p.entriesPlaced r bytes size).completeLoad (r.took bytes) else p.entriesPlaced r bytes size) ∧
      r.took bytes = { r with
        moved := r.moved + bytes.length, carry := (r.carry ++ bytes).drop (size * ((r.carry ++ bytes).length / size)) } := by
  have hentry : r.bulk.op.entrySize = size := by
    revert hsize
    cases r.bulk.op <;> simp [entryBytes, BulkOp.entrySize]
  have htakes : p.hostReadCompletion bytes = p.takeEntries r bytes := by
    rw [Part.hostReadCompletion, hlane]
    dsimp only
    rw [if_pos hexpects]
    revert hsize
    cases r.bulk.op <;> simp [entryBytes]
  subst hentry
  exact ⟨htakes, rfl⟩

theorem Part.placeEntries_sameBut (op : BulkOp) (entries : List (List Byte)) (p : Part) :
    (p.placeEntries op entries).sameBut p [op.owner] := by
  cases op <;> simp [Part.sameBut_iff, Part.placeEntries, BulkOp.owner]

theorem Part.placeEntries_blocks (op : BulkOp) (entries : List (List Byte)) (p : Part) :
    (p.placeEntries op entries).xu = p.xu ∧
      (p.placeEntries op entries).scn = { p.scn with load := (p.placeEntries op entries).scn.load } ∧
      (p.placeEntries op entries).lpc = { p.lpc with
        load := (p.placeEntries op entries).lpc.load, shape := (p.placeEntries op entries).lpc.shape } := by
  cases op <;> exact ⟨rfl, rfl, rfl⟩

theorem Part.entriesPlaced_xu (p : Part) (r : Running) (bytes : List Byte) (size : Nat) :
    (p.entriesPlaced r bytes size).xu = { p.xu with lane := some (r.took bytes) } :=
  (Part.placeEntries_blocks _ _ _).1

theorem Part.entriesPlaced_sameBut (p : Part) (r : Running) (bytes : List Byte) (size : Nat) :
    (p.entriesPlaced r bytes size).sameBut p [.xu, r.bulk.op.owner] :=
  (Part.placeEntries_sameBut _ _ _).trans ((Part.modXu_sameBut _ p).mono (by simp)) (by simp)

/-- A slope-side piece reaches the load buffer. -/
theorem Part.entriesPlaced_scn {p : Part} {r : Running} {n : Nat}
    (hop : r.bulk.op = .loadReference n ∨ r.bulk.op = .loadSensors n) {l : SlopeLoad} (hload : p.scn.load = some l)
    (bytes : List Byte) (size : Nat) : (p.entriesPlaced r bytes size).scn = { p.scn with
      load := some ((chunks size ((r.carry ++ bytes).length / size) (r.carry ++ bytes)).foldl SlopeLoad.place l) } := by
  rcases hop with hop | hop <;> simp [Part.entriesPlaced, hop, Part.placeEntries, hload]

/-- An actuator-side piece reaches the load buffer. -/
theorem Part.entriesPlaced_lpc {p : Part} {r : Running} {n : Nat}
    (hop : r.bulk.op = .loadLimits n ∨ r.bulk.op = .loadPairs n) {l : ActuatorLoad} (hload : p.lpc.load = some l)
    (bytes : List Byte) (size : Nat) : (p.entriesPlaced r bytes size).lpc = { p.lpc with
      load := some ((chunks size ((r.carry ++ bytes).length / size) (r.carry ++ bytes)).foldl
        (ActuatorLoad.place p.geo.actuators) l) } := by
  rcases hop with hop | hop <;> simp [Part.entriesPlaced, hop, Part.placeEntries, hload]

/-- A shape's piece reaches the LPC. -/
theorem Part.entriesPlaced_shape {p : Part} {r : Running} {n : Nat} (hop : r.bulk.op = .applyShape n) (bytes : List Byte) :
    (p.entriesPlaced r bytes 2).lpc.shape = p.lpc.shape ++
      (List.range ((r.carry ++ bytes).length / 2)).map fun j => field16 (r.carry ++ bytes) (2 * j) := by
  have hfield (j : Nat) : field16 (((r.carry ++ bytes).drop (2 * j)).take 2) 0 = field16 (r.carry ++ bytes) (2 * j) :=
    field16_chunk _ _ (by decide)
  simp [Part.entriesPlaced, hop, Part.placeEntries, chunks_eq, hfield]

/-! ## A load that completes (R48, R106, R107, R163) -/

/-- A load's result after its last piece, where its completion changed only its owning block. -/
theorem Part.endLane_completed {p q : Part} {r : Running} {bytes : List Byte} {res : OrderResult} {owner : Block}
    (hq : q.sameBut p [.xu, owner]) (hxu : q.xu = { p.xu with lane := some (r.took bytes) })
    (howner : owner ≠ .tlu ∧ owner ≠ .issued) (hlast : r.moved + bytes.length = r.total) (hres : res.d4 = 0) :
    loadCompleted p (q.endLane (r.took bytes) res) r res ∧
      (q.endLane (r.took bytes) res).sameBut p [.xu, owner, .tlu, .issued] := by
  have htlu : q.tlu = p.tlu := hq .tlu (by simp [howner.1.symm])
  have hissued : q.issued = p.issued := hq .issued (by simp [howner.2.symm])
  exact ⟨⟨by rw [Part.endLane_xu, hxu], Part.endLane_finished (by rw [hxu]; exact ⟨rfl, rfl, rfl⟩) htlu hissued hlast hres⟩,
    (Part.endLane_sameBut _ _ _).trans (hq.mono (by simp)) (by simp)⟩

/-! ## Slope-side tables (R44, R47, R48) -/

theorem Part.referenceWaits_scn (p : Part) : p.referenceWaits.scn = if p.lpc.loop = .stopped then
    { p.scn with refLive := p.scn.refShadow, refWaiting := false } else { p.scn with refWaiting := true } :=
  apply_ite Part.scn _ _ _

theorem Part.parametersWait_scn (p : Part) : p.parametersWait.scn = if p.lpc.loop = .stopped then
    { p.scn with parLive := p.scn.parShadow, parWaiting := false } else { p.scn with parWaiting := true } :=
  apply_ite Part.scn _ _ _

theorem Part.completeSlopeLoad_sameBut (l : SlopeLoad) (p : Part) : (p.completeSlopeLoad l).2.sameBut p [.scn] := by
  simp [Part.sameBut_iff]

theorem Part.completeSlopeLoad_d4 (l : SlopeLoad) (p : Part) : (p.completeSlopeLoad l).1.d4 = 0 := by
  unfold Part.completeSlopeLoad
  split <;> rfl

theorem Part.completeSlopeLoad_bad {l : SlopeLoad} {i : Nat} (hbad : l.bad = some i) (p : Part) :
    p.completeSlopeLoad l = (badEntry i, p.modScn fun c => { c with load := none }) := by
  rw [Part.completeSlopeLoad, hbad]

/-- The reference vector with a load's entries over the live ones (R48). -/
def Scn.loadedReference (c : Scn) (refs : List (BitVec 16)) : Sparse (BitVec 16) :=
  Sparse.setAll 0 c.refLive (List.range refs.length) fun j => refs.getD j 0

/-- Entries of a list laid over a table. -/
theorem Sparse.get_setAll_range {α : Type} [DecidableEq α] (d : α) (t : Sparse α) (l : List α) (d' : α) (j : Nat) :
    Sparse.get d (Sparse.setAll d t (List.range l.length) fun j => l.getD j d') j = l.getD j (Sparse.get d t j) := by
  rw [Sparse.get_setAll]
  by_cases h : j < l.length <;> simp [h, List.getD_eq_getElem?_getD]

theorem Part.completeSlopeLoad_reference {l : SlopeLoad} (hkind : l.kind = .reference) (hbad : l.bad = none) (p : Part) :
    p.completeSlopeLoad l = (countedDone l.adjusted,
      (p.modScn fun c => { c with load := none, refShadow := c.loadedReference l.refs }).referenceWaits) := by
  rw [Part.completeSlopeLoad, hbad, hkind]
  rfl

theorem Part.completeSlopeLoad_sensors {l : SlopeLoad} (hkind : l.kind = .sensors) (hbad : l.bad = none) (p : Part) :
    p.completeSlopeLoad l = (countedDone l.adjusted,
      (p.modScn fun c => { c with load := none, parShadow := loadedParameters c.parLive l.params }).parametersWait) := by
  rw [Part.completeSlopeLoad, hbad, hkind]
  rfl

/-- A slope-side load takes its last bytes: it completes with the load buffer as the last entries leave it. -/
theorem Part.lastBytes_slope {p : Part} {r : Running} {bytes : List Byte} {size : Nat} {l : SlopeLoad} (hlane : p.xu.lane = some r)
    (hexpects : r.expects bytes = true) (hsize : entryBytes r.bulk.op = some size) (hlast : r.moved + bytes.length = r.total)
    {n : Nat} (hop : r.bulk.op = .loadReference n ∨ r.bulk.op = .loadSensors n) (hload : p.scn.load = some l) :
    ∃ (q : Part) (l' : SlopeLoad),
      l' = (chunks size ((r.carry ++ bytes).length / size) (r.carry ++ bytes)).foldl SlopeLoad.place l ∧
      q.scn = { p.scn with load := some l' } ∧ q.lpc = p.lpc ∧
      loadCompleted p (p.hostReadCompletion bytes) r (q.completeSlopeLoad l').1 ∧
      (p.hostReadCompletion bytes).scn = (q.completeSlopeLoad l').2.scn ∧
      (p.hostReadCompletion bytes).sameBut p [.xu, .scn, .tlu, .issued] := by
  obtain ⟨hcompletes, -⟩ := Part.hostReadCompletion_entries hlane hexpects hsize
  rw [if_pos hlast] at hcompletes
  have howner : r.bulk.op.owner = .scn := by rcases hop with hop | hop <;> rw [hop] <;> rfl
  let q := p.entriesPlaced r bytes size
  let l' := (chunks size ((r.carry ++ bytes).length / size) (r.carry ++ bytes)).foldl SlopeLoad.place l
  have hq : q.sameBut p [.xu, .scn] := howner ▸ p.entriesPlaced_sameBut r bytes size
  have hscn : q.scn = { p.scn with load := some l' } := Part.entriesPlaced_scn hop hload bytes size
  have hconclude : p.hostReadCompletion bytes = (q.completeSlopeLoad l').2.endLane (r.took bytes) (q.completeSlopeLoad l').1 := by
    have hqload : q.scn.load = some l' := by rw [hscn]
    rw [hcompletes]
    rcases hop with hop | hop <;> simp only [Part.completeLoad, Running.took, hop, q] at hqload ⊢ <;> rw [hqload] <;> rfl
  have hdone := (Part.completeSlopeLoad_sameBut l' q).trans hq (by simp)
  obtain ⟨hcompleted, hsame⟩ := Part.endLane_completed (bytes := bytes) hdone
    ((Part.completeSlopeLoad_sameBut l' q .xu (by decide)).trans (p.entriesPlaced_xu r bytes size)) (by decide) hlast
    (Part.completeSlopeLoad_d4 l' q)
  rw [hconclude]
  exact ⟨q, l', rfl, hscn, hq .lpc (by decide), hcompleted, Part.endLane_sameBut _ _ _ .scn (by decide), hsame⟩

/-! ## Actuator-side tables (R105 to R107) -/

theorem Part.limitsWait_lpc (p : Part) : p.limitsWait.lpc = if p.lpc.loop = .stopped then
    { p.lpc with limLive := p.lpc.limShadow, limWaiting := false, u := bringAll p.lpc.limShadow p.lpc.u }
    else { p.lpc with limWaiting := true } :=
  apply_ite Part.lpc _ _ _

/-- Every actuator of a limits table, listed or not, is brought within it (R105). -/
theorem get_bringAll (limits : Sparse Limits) (u : Sparse Nat) (a : Nat) :
    Sparse.get integratorPowerOn (bringAll limits u) a =
      bringWithin (Sparse.get Limits.powerOn limits a) (Sparse.get integratorPowerOn u a) := by
  rw [bringAll, Sparse.get_setAll]
  split
  · rfl
  · rename_i hunlisted
    rw [List.mem_append, not_or] at hunlisted
    rw [Sparse.get_of_not_listed hunlisted.1, Sparse.get_of_not_listed hunlisted.2]
    rfl

theorem Part.completeActuatorLoad_sameBut (l : ActuatorLoad) (p : Part) : (p.completeActuatorLoad l).2.sameBut p [.lpc] := by
  simp [Part.sameBut_iff]

theorem Part.completeActuatorLoad_d4 (l : ActuatorLoad) (p : Part) : (p.completeActuatorLoad l).1.d4 = 0 := by
  unfold Part.completeActuatorLoad
  split
  · rfl
  · split <;> rfl

theorem Part.completeActuatorLoad_bad {l : ActuatorLoad} {i : Nat} (hbad : l.bad = some i) (p : Part) :
    p.completeActuatorLoad l = (badEntry i, p.modLpc fun c => { c with load := none }) := by
  rw [Part.completeActuatorLoad, hbad]

/-- The limits table with a load's entries over the live ones (R106). -/
def Lpc.loadedLimits (c : Lpc) (limits : List Limits) : Sparse Limits :=
  Sparse.setAll Limits.powerOn c.limLive (List.range limits.length) fun a => limits.getD a Limits.powerOn

theorem Part.completeActuatorLoad_limits {l : ActuatorLoad} (hkind : l.kind = .limits) (hbad : l.bad = none) (p : Part) :
    p.completeActuatorLoad l = (countedDone l.adjusted,
      (p.modLpc fun c => { c with load := none, limShadow := c.loadedLimits l.limits }).limitsWait) := by
  rw [Part.completeActuatorLoad, hbad, hkind]
  rfl

/-- An actuator-side load takes its last bytes: it completes with the load buffer as the last entries leave it. -/
theorem Part.lastBytes_actuator {p : Part} {r : Running} {bytes : List Byte} {size : Nat} {l : ActuatorLoad}
    (hlane : p.xu.lane = some r) (hexpects : r.expects bytes = true) (hsize : entryBytes r.bulk.op = some size)
    (hlast : r.moved + bytes.length = r.total) {n : Nat} (hop : r.bulk.op = .loadLimits n ∨ r.bulk.op = .loadPairs n)
    (hload : p.lpc.load = some l) :
    ∃ (q : Part) (l' : ActuatorLoad), l' = (chunks size ((r.carry ++ bytes).length / size) (r.carry ++ bytes)).foldl
        (ActuatorLoad.place p.geo.actuators) l ∧
      q.lpc = { p.lpc with load := some l' } ∧
      loadCompleted p (p.hostReadCompletion bytes) r (q.completeActuatorLoad l').1 ∧
      (p.hostReadCompletion bytes).lpc = (q.completeActuatorLoad l').2.lpc ∧
      (p.hostReadCompletion bytes).sameBut p [.xu, .lpc, .tlu, .issued] := by
  obtain ⟨hcompletes, -⟩ := Part.hostReadCompletion_entries hlane hexpects hsize
  rw [if_pos hlast] at hcompletes
  have howner : r.bulk.op.owner = .lpc := by rcases hop with hop | hop <;> rw [hop] <;> rfl
  let q := p.entriesPlaced r bytes size
  let l' := (chunks size ((r.carry ++ bytes).length / size) (r.carry ++ bytes)).foldl (ActuatorLoad.place p.geo.actuators) l
  have hq : q.sameBut p [.xu, .lpc] := howner ▸ p.entriesPlaced_sameBut r bytes size
  have hlpc : q.lpc = { p.lpc with load := some l' } := Part.entriesPlaced_lpc hop hload bytes size
  have hconclude : p.hostReadCompletion bytes =
      (q.completeActuatorLoad l').2.endLane (r.took bytes) (q.completeActuatorLoad l').1 := by
    have hqload : q.lpc.load = some l' := by rw [hlpc]
    rw [hcompletes]
    rcases hop with hop | hop <;> simp only [Part.completeLoad, Running.took, hop, q] at hqload ⊢ <;> rw [hqload] <;> rfl
  have hdone := (Part.completeActuatorLoad_sameBut l' q).trans hq (by simp)
  obtain ⟨hcompleted, hsame⟩ := Part.endLane_completed (bytes := bytes) hdone
    ((Part.completeActuatorLoad_sameBut l' q .xu (by decide)).trans (p.entriesPlaced_xu r bytes size)) (by decide) hlast
    (Part.completeActuatorLoad_d4 l' q)
  rw [hconclude]
  exact ⟨q, l', rfl, hlpc, hcompleted, Part.endLane_sameBut _ _ _ .lpc (by decide), hsame⟩

/-! ## Shaping and hand-over (R116 to R119, R129) -/

theorem passPair_length (limits : Sparse Limits) (a : Nat) (s : PassState) (x : ActuatorPair) :
    (passPair limits a s x).codes.length = s.codes.length := by
  unfold passPair
  dsimp only
  split
  · rfl
  · simp

theorem neighbourPass_length (limits : Sparse Limits) (pairs : List ActuatorPair) (a : Nat) (codes : List Nat) :
    (neighbourPass limits pairs a codes).codes.length = codes.length := by
  suffices h : ∀ s, (pairs.foldl (passPair limits a) s).codes.length = s.codes.length from h ⟨codes, 0⟩
  induction pairs with
  | nil => exact fun _ => rfl
  | cons x rest ih => exact fun s => (ih _).trans (passPair_length limits a s x)

/-- Shaping keeps the vector's length. -/
theorem shapeVector_length (limits : Sparse Limits) (pairs : List ActuatorPair) (w : List Nat) :
    (shapeVector limits pairs w).vector.length = w.length := by
  simp [shapeVector, neighbourPass_length]

theorem Part.endProbe_modXu {g : Xu → Xu} {p : Part} (h : (g p.xu).ReportsAs p.xu) (m : MirrorIx) (res : OrderResult) :
    (p.modXu g).endProbe m res = (p.endProbe m res).modXu g := by
  unfold Part.endProbe
  rw [Part.modXu_mlt]
  split
  · rfl
  · have hmirror (f : MirrorLink → MirrorLink) : (p.modXu g).modMirror m f = (p.modMirror m f).modXu g := rfl
    rw [hmirror, Part.finish_modXu (p := p.modMirror m _) (by simpa using h)]

/-- A hand-over does not read or change what the lane holds. -/
theorem Part.handOver_modXu {g : Xu → Xu} {p : Part} (h : (g p.xu).ReportsAs p.xu) (m : MirrorIx) (codes : List Nat) :
    ((p.modXu g).handOver m codes).part = (p.handOver m codes).part.modXu g := by
  have hidle : (p.modXu g).leaveIdle m = (p.leaveIdle m).modXu g := by
    rw [Part.leaveIdle, Part.endProbe_modXu h]
    rfl
  unfold Part.handOver
  dsimp only
  rw [Part.modXu_mlt, hidle]
  cases (p.mlt.get m).state with
  | running => exact (apply_ite HandOver.part _ _ _).trans (by split <;> rfl)
  | off | checking | idle | blocked | fault => rfl

theorem Part.handShape_modXu {g : Xu → Xu} {p : Part} (h : (g p.xu).ReportsAs p.xu) (codes : List Nat) :
    (p.modXu g).handShape codes = (p.handShape codes).modXu g := by
  have hone (m : MirrorIx) (q : Part) (hq : q.xu = p.xu) (c : Prop) [Decidable c] (l : List Nat) :
      (if c then ((q.modXu g).handOver m l).part else q.modXu g) = (if c then (q.handOver m l).part else q).modXu g := by
    rw [Part.handOver_modXu (by rw [hq]; exact h)]
    split <;> rfl
  unfold Part.handShape
  dsimp only
  rw [Part.modXu_geo]
  have hgoes (m : MirrorIx) : (p.modXu g).shapeGoes m = p.shapeGoes m := rfl
  rw [hgoes 0, hgoes 1, hone 0 p rfl, hone 1 _ (by split <;> simp)]

/-- The links that take a shape's codes. -/
theorem Part.shapeGoes_iff (p : Part) (m : MirrorIx) : p.shapeGoes m = true ↔ shapeGoesTo p m := by
  simp [Part.shapeGoes, MirrorLink.takesShape, shapeGoesTo]

/-- A shape's codes handed over, as the statements name it. -/
theorem Part.handShape_handedOver (p : Part) (codes : List Nat) : shapeHandedOver p (p.handShape codes) codes := by
  refine ⟨_, rfl, ?_⟩
  simp only [Part.handShape, Part.shapeGoes_iff]
  rfl

/-- A list's entries with their indices. -/
theorem map_zipIdx {α β : Type} (f : α × Nat → β) (l : List α) (d : α) :
    l.zipIdx.map f = (List.range l.length).map fun a => f (l.getD a d, a) := by
  apply List.ext_getElem
  · simp
  · intro a h _
    have ha : a < l.length := by simpa using h
    simp [List.getD_eq_getElem?_getD, ha]

end Sys2Proof.Machine
end

section
/-! SUPPORT. Bytes that a host read returns (O46), for each kind of load. -/

namespace Sys2Proof.Proofs

open Sys2Proof.Machine

theorem exec_hostRead (bytes : List Byte) (s : State) :
    exec (.hostReadCompletion bytes) s = .next { s with part := s.part.hostReadCompletion bytes } := rfl

/-! ## A matrix load -/

/-- The bytes of a matrix load (O46's first part). -/
theorem matrixBytesArrive_holds : matrixBytesArrive := by
  intro s bytes r hlane hconfirming hbytes hle p k n m e check l hop hload
  have htakes : p.hostReadCompletion bytes = p.takeMatrixBytes r bytes := by
    simp only [Part.hostReadCompletion, p, hlane, if_pos (Running.expects_eq_true hconfirming hbytes hle), hop]
  have htaken : p.takeMatrixBytes r bytes = if 512 < l.buffer.length + bytes.length then p else
      (p.modXu fun x => { x with lane := some { r with moved := r.moved + bytes.length } }).modMxs fun x =>
        { x with load := some (l.feed bytes) } := by
    simp only [Part.takeMatrixBytes, hload]
  rw [exec_hostRead, htakes, htaken]
  refine ⟨fun hfull => by rw [if_pos hfull], fun hroom => ?_⟩
  rw [if_neg (Nat.not_lt.mpr hroom)]
  refine ⟨_, rfl, rfl, rfl, ?_, by simp [Part.sameBut_iff, p]⟩
  have hfeed := (SumState.feed_low l.sum l.low bytes).trans (SumState.feed_all _ _)
  rw [MatrixLoad.feed, hfeed]
  rfl

/-! ## Entries short of the last one -/

/-- The bytes of a table or a shape before its last one (O46's second part). -/
theorem entriesGather_holds : entriesGather := by
  intro s bytes r size hlane hconfirming hbytes hlt hsize p all
  obtain ⟨hplaced, htook⟩ := Part.hostReadCompletion_entries (p := p) hlane
    (Running.expects_eq_true hconfirming hbytes (Nat.le_of_lt hlt)) hsize
  rw [if_neg hlt.ne] at hplaced
  obtain ⟨hxu, hscn, hlpc⟩ := Part.placeEntries_blocks r.bulk.op (chunks size (all.length / size) all)
    (p.modXu fun x => { x with lane := some (r.took bytes) })
  refine ⟨_, exec_hostRead bytes s, rfl, ?_⟩
  dsimp only
  rw [hplaced]
  refine ⟨by rw [Part.entriesPlaced_xu, htook], hscn, hlpc, fun n l hop hload hkind => ?_, fun n l hop hload hkind => ?_,
    fun n l hop hload hkind => ?_, fun n l hop hload hkind => ?_, fun n hop => ?_, ?_⟩
  · obtain rfl : 2 = size := by simpa [hop, entryBytes] using hsize
    exact ⟨_, congrArg (·.load) (Part.entriesPlaced_scn (.inl hop) hload bytes _), referencesGathered_place hkind _ _⟩
  · obtain rfl : 8 = size := by simpa [hop, entryBytes] using hsize
    exact ⟨_, congrArg (·.load) (Part.entriesPlaced_scn (.inr hop) hload bytes _), parametersGathered_place hkind _ _⟩
  · obtain rfl : 8 = size := by simpa [hop, entryBytes] using hsize
    exact ⟨_, congrArg (·.load) (Part.entriesPlaced_lpc (.inl hop) hload bytes _), limitsGathered_place hkind p.geo.actuators _ _⟩
  · obtain rfl : 6 = size := by simpa [hop, entryBytes] using hsize
    exact ⟨_, congrArg (·.load) (Part.entriesPlaced_lpc (.inr hop) hload bytes _), pairsGathered_place hkind p _ _⟩
  · obtain rfl : 2 = size := by simpa [hop, entryBytes] using hsize
    exact Part.entriesPlaced_shape hop bytes
  · refine (p.entriesPlaced_sameBut r bytes size).mono ?_
    revert hsize
    cases r.bulk.op <;> simp [entryBytes, BulkOp.owner]

/-! ## Tables that complete -/

/-- The last bytes of the slope-side loads (O46's third part). -/
theorem slopeLoadsComplete_holds : slopeLoadsComplete := by
  intro s bytes r n l hlane hconfirming hbytes hlast hload p all
  have hexpects := Running.expects_eq_true hconfirming hbytes hlast.le
  refine ⟨fun hop hkind hbad hadjusted => ?_, fun hop hkind => ?_⟩
  · obtain ⟨q, l', hl', hscn, hlpc, hcompleted, htscn, hsame⟩ :=
      Part.lastBytes_slope (p := p) hlane hexpects (by rw [hop]; rfl) hlast (.inl hop) hload
    have hgathered : referencesGathered l l' all (all.length / 2) := hl' ▸ referencesGathered_place hkind all _
    obtain ⟨hkind', hbad', hadjusted'⟩ : l'.kind = .reference ∧ l'.bad = none ∧ l'.adjusted = 0 := by
      rw [hgathered]; exact ⟨hkind, hbad, hadjusted⟩
    rw [Part.completeSlopeLoad_reference hkind' hbad', hadjusted'] at hcompleted
    rw [Part.completeSlopeLoad_reference hkind' hbad', Part.referenceWaits_scn] at htscn
    refine ⟨_, p.scn.loadedReference l'.refs, l', exec_hostRead bytes s, rfl, hgathered,
      fun j => Sparse.get_setAll_range 0 p.scn.refLive l'.refs 0 j, ?_, hcompleted, hsame⟩
    simpa [hscn, hlpc, Scn.loadedReference] using htscn
  · obtain ⟨q, l', hl', hscn, hlpc, hcompleted, htscn, hsame⟩ :=
      Part.lastBytes_slope (p := p) hlane hexpects (by rw [hop]; rfl) hlast (.inr hop) hload
    have hgathered : parametersGathered l l' all (all.length / 8) := hl' ▸ parametersGathered_place hkind all _
    have hkind' : l'.kind = .sensors := by
      obtain ⟨new, -, -, heq, -⟩ := hgathered
      rw [heq]; exact hkind
    refine ⟨_, l', exec_hostRead bytes s, rfl, hgathered, fun j hbad => ?_, fun hbad => ?_, hsame⟩
    · rw [Part.completeSlopeLoad_bad hbad] at hcompleted htscn
      exact ⟨by simpa [hscn] using htscn, hcompleted⟩
    · rw [Part.completeSlopeLoad_sensors hkind' hbad] at hcompleted
      rw [Part.completeSlopeLoad_sensors hkind' hbad, Part.parametersWait_scn] at htscn
      exact ⟨loadedParameters p.scn.parLive l'.params, fun i => Four.get_make _ i, by simpa [hscn, hlpc] using htscn, hcompleted⟩

/-- The last bytes of the actuator-side loads (O46's fourth part). -/
theorem actuatorLoadsComplete_holds : actuatorLoadsComplete := by
  intro s bytes r n l hlane hconfirming hbytes hlast hload p all
  have hexpects := Running.expects_eq_true hconfirming hbytes hlast.le
  refine ⟨fun hop hkind => ?_, fun hop hkind hbad => ?_⟩
  · obtain ⟨q, l', hl', hlpc, hcompleted, htlpc, hsame⟩ :=
      Part.lastBytes_actuator (p := p) hlane hexpects (by rw [hop]; rfl) hlast (.inl hop) hload
    have hgathered : limitsGathered l l' all (all.length / 8) := hl' ▸ limitsGathered_place hkind _ all _
    have hkind' : l'.kind = .limits := by
      obtain ⟨new, -, -, heq, -⟩ := hgathered
      rw [heq]; exact hkind
    refine ⟨_, l', exec_hostRead bytes s, rfl, hgathered, fun a hbad => ?_, fun hbad => ?_, hsame⟩
    · rw [Part.completeActuatorLoad_bad hbad] at hcompleted htlpc
      exact ⟨by simpa [hlpc] using htlpc, hcompleted⟩
    · rw [Part.completeActuatorLoad_limits hkind' hbad] at hcompleted
      rw [Part.completeActuatorLoad_limits hkind' hbad, Part.limitsWait_lpc] at htlpc
      let v := p.lpc.loadedLimits l'.limits
      have ht : (p.hostReadCompletion bytes).lpc = if p.lpc.loop = .stopped then
          { p.lpc with load := none, limShadow := v, limLive := v, limWaiting := false, u := bringAll v p.lpc.u }
          else { p.lpc with load := none, limShadow := v, limWaiting := true } := by
        simpa [hlpc, v, Lpc.loadedLimits] using htlpc
      refine ⟨v, fun a => Sparse.get_setAll_range _ p.lpc.limLive l'.limits _ a, ?_, fun hstopped a => ?_, hcompleted⟩
      · dsimp only
        rw [ht]
        split <;> rfl
      · dsimp only
        rw [ht, if_pos hstopped]
        exact get_bringAll v p.lpc.u a
  · obtain ⟨q, l', hl', hlpc, hcompleted, htlpc, hsame⟩ :=
      Part.lastBytes_actuator (p := p) hlane hexpects (by rw [hop]; rfl) hlast (.inr hop) hload
    have hgathered : pairsGathered p l l' all (all.length / 6) := hl' ▸ pairsGathered_place hkind p all _
    obtain ⟨hkind', hbad'⟩ : l'.kind = .pairs ∧ l'.bad = none := by
      rw [hgathered]; exact ⟨hkind, hbad⟩
    rw [Part.completeActuatorLoad_pairs hkind' hbad'] at hcompleted
    rw [Part.completeActuatorLoad_pairs hkind' hbad', Part.pairsWait_lpc] at htlpc
    exact ⟨_, l', exec_hostRead bytes s, rfl, hgathered, by simpa [hlpc] using htlpc, hcompleted, hsame⟩

/-! ## A shape that completes -/

/-- The codes of a shape with those that its last piece brings. -/
def shapeCodes (p : Part) (r : Running) (bytes : List Byte) : List (BitVec 16) :=
  p.lpc.shape ++ (List.range ((r.carry ++ bytes).length / 2)).map fun j => field16 (r.carry ++ bytes) (2 * j)

/-- The part as an APPLY_SHAPE is judged: its codes have left the LPC, and its last bytes are handed over. -/
def shapeTaken (p : Part) (r : Running) : Part :=
  (p.modLpc fun l => { l with shape := [] }).modXu fun x => { x with lane := some r }

theorem shapeTaken_sameBut (p : Part) (r : Running) : (shapeTaken p r).sameBut p [.xu, .lpc] := by
  simp [Part.sameBut_iff, shapeTaken]

/-- The last bytes of an APPLY_SHAPE have it judged. -/
theorem lastBytes_shape {p : Part} {r : Running} {bytes : List Byte} {count : Nat} (hlane : p.xu.lane = some r)
    (hexpects : r.expects bytes = true) (hlast : r.moved + bytes.length = r.total) (hop : r.bulk.op = .applyShape count) :
    p.hostReadCompletion bytes =
      Part.conclude (r.took bytes) ((shapeTaken p (r.took bytes)).judgeShape (shapeCodes p r bytes)) := by
  obtain ⟨hcompletes, -⟩ := Part.hostReadCompletion_entries (p := p) (size := 2) hlane hexpects (by rw [hop]; rfl)
  have hpart : (p.entriesPlaced r bytes 2).modLpc (fun l => { l with shape := [] }) = shapeTaken p (r.took bytes) := by
    rw [Part.entriesPlaced, hop]
    rfl
  have hop' : (r.took bytes).bulk.op = .applyShape count := hop
  rw [hcompletes, if_pos hlast, Part.completeLoad, hop', Part.completeShape, hpart, Part.entriesPlaced_shape hop]
  rfl

/-- An APPLY_SHAPE that its judgement refuses ends with its codes dropped (R123). -/
theorem shape_refused {p : Part} {r : Running} {bytes : List Byte} {why : Reason} {codes : List (BitVec 16)}
    (hlast : r.moved + bytes.length = r.total)
    (hjudge : (shapeTaken p (r.took bytes)).judgeShape codes = (.failed why, shapeTaken p (r.took bytes))) :
    let t := Part.conclude (r.took bytes) ((shapeTaken p (r.took bytes)).judgeShape codes)
    loadCompleted p t r (.failed why) ∧ t.sameBut p [.xu, .lpc, .tlu, .issued] ∧ t.lpc = { p.lpc with shape := [] } := by
  obtain ⟨hcompleted, hsame⟩ := Part.endLane_completed (bytes := bytes) (res := .failed why)
    (shapeTaken_sameBut p (r.took bytes)) rfl (by decide) hlast rfl
  rw [hjudge]
  exact ⟨hcompleted, hsame, Part.endLane_sameBut _ _ _ .lpc (by decide)⟩

/-- The part with a shaped vector in its integrator and no shape in the LPC. -/
def shapePut (p : Part) (v : List Nat) : Part := { p with lpc := { p.lpc with
  shape := []
  u := Sparse.setAll integratorPowerOn p.lpc.u (List.range v.length) fun a => v.getD a 0 } }

/-- An APPLY_SHAPE of as many codes as actuators in OPEN: the shaped vector is put in place, and its codes are handed over (R119,
R123). -/
theorem judgeShape_drives {p : Part} {r : Running} {codes : List (BitVec 16)} (hloop : p.lpc.loop = .opened)
    (hcount : codes.length = p.geo.a0 + p.geo.a1) :
    let s := shapeVector p.lpc.limLive p.lpc.pairLive (p.shapeVectorOf codes)
    (shapeTaken p r).judgeShape codes = ({ OrderResult.done with
        d1 := BitVec.ofNat 32 s.clamps, d2 := BitVec.ofNat 32 s.neighbours },
      ((shapePut p s.vector).handShape s.codes).modXu fun x => { x with lane := some r }) := by
  intro s
  have hdriven : (shapeTaken p r).driveShape (p.shapeVectorOf codes) =
      ((shapePut p s.vector).modXu fun x => { x with lane := some r }).handShape s.codes := rfl
  have hjudge : (shapeTaken p r).judgeShape codes = ((shapeTaken p r).shapeResult (p.shapeVectorOf codes),
      (shapeTaken p r).driveShape (p.shapeVectorOf codes)) :=
    (if_neg (not_not.mpr hloop)).trans (if_neg (not_not.mpr hcount))
  rw [hjudge, hdriven, Part.handShape_modXu ⟨rfl, rfl, rfl⟩]
  rfl

/-- The last bytes of an APPLY_SHAPE (O46's fifth part). -/
theorem shapeCompletes_holds : shapeCompletes := by
  intro s bytes r count hlane hconfirming hbytes hlast hop p all codes n l shaped refused
  have hjudged := lastBytes_shape (p := p) hlane (Running.expects_eq_true hconfirming hbytes hlast.le) hlast hop
  refine ⟨_, exec_hostRead bytes s, rfl, ?_⟩
  dsimp only
  rw [hjudged]
  refine ⟨fun hloop => shape_refused hlast (if_pos hloop), fun hloop hn => shape_refused hlast ?_, fun hloop hn => ?_⟩
  · exact (if_neg (not_not.mpr hloop)).trans (if_pos hn)
  · have hshaped : shapeVector p.lpc.limLive p.lpc.pairLive (p.shapeVectorOf codes) = shaped :=
      congrArg (shapeVector p.lpc.limLive p.lpc.pairLive) (map_zipIdx _ codes 0)
    have hlength : shaped.vector.length = n := by simp [shaped, shapeVector_length]
    have hdrives := judgeShape_drives (r := r.took bytes) hloop hn
    rw [hshaped] at hdrives
    let q := (shapePut p shaped.vector).handShape shaped.codes
    let w := q.modXu fun x => { x with lane := some (r.took bytes) }
    have hq : q.lpc = (shapePut p shaped.vector).lpc ∧ q.xu = p.xu := ⟨by simp [q], by simp [q, shapePut]⟩
    have hlpc (res : OrderResult) : (w.endLane (r.took bytes) res).lpc = (shapePut p shaped.vector).lpc :=
      (Part.endLane_sameBut _ _ _ .lpc (by decide)).trans hq.1
    rw [show (shapeTaken p (r.took bytes)).judgeShape (shapeCodes p r bytes) = _ from hdrives, Part.conclude]
    dsimp only
    rw [hlpc]
    refine ⟨fun a => ?_, rfl, by rw [Part.endLane_xu, Part.modXu_xu, hq.2], q, Part.handShape_handedOver _ _, ?_, ?_⟩
    · exact (Sparse.get_setAll _ _ _ _ a).trans (by simp [hlength, Lpc.value])
    · exact Part.endLane_finished ⟨rfl, rfl, rfl⟩ rfl rfl hlast rfl
    · exact (Part.endLane_sameBut _ _ _).trans ((Part.modXu_sameBut _ _).mono (by simp)) (by simp)

/-- Settles O46: the bytes of matrix loads, of tables and of shapes, before the last one and with it. -/
theorem hostBytesArrive : Obligations.HostBytesArrive :=
  ⟨matrixBytesArrive_holds, entriesGather_holds, slopeLoadsComplete_holds, actuatorLoadsComplete_holds, shapeCompletes_holds⟩

end Sys2Proof.Proofs
end

section
/-! SUPPORT. The store arbiter (O22): which columns have a burst to come, when each requester requests, which of them a grant goes
to, and what the granted burst leaves. -/

namespace Sys2Proof.Machine

/-! ## Requests (R62, R79, R87, R89) -/

/-- A column's next block begins before the column's end as long as fewer blocks than it touches are granted (R62, R75). -/
theorem hasBurst_iff (p : Part) (i : SlotIx) (slope granted : Nat) :
    hasBurst p i slope granted ↔ granted < columnBursts (p.slotRecord i).a slope := by
  change 128 * (slope * (p.slotRecord i).a / 128 + granted) < slope * (p.slotRecord i).a + (p.slotRecord i).a ↔ _
  unfold columnBursts
  split
  · next ha => rw [ha]; omega
  · next ha => generalize slope * (p.slotRecord i).a = first; omega

/-- The column served next is the first in the stream list that has a burst to come (R62). -/
theorem Part.nextColumn_eq_some {p : Part} {before after : List StreamEntry} {e : StreamEntry}
    (hlist : p.rca.stream = before ++ e :: after) (hbefore : ∀ y ∈ before, ¬ hasBurst p y.slot y.slope y.granted)
    (he : hasBurst p e.slot e.slope e.granted) : p.nextColumn = some e := by
  refine List.find?_eq_some_iff_append.mpr ⟨by simpa [hasBurst_iff] using he, before, after, hlist, fun y hy => ?_⟩
  simpa [hasBurst_iff] using hbefore y hy

theorem Part.requesting_stream (p : Part) : p.requesting .stream = true ↔
    p.mxs.outstanding .stream < 2 ∧ ∃ e ∈ p.rca.stream, hasBurst p e.slot e.slope e.granted := by
  simp [Part.requesting, Part.nextColumn, hasBurst_iff]

theorem Part.requesting_loader (p : Part) : p.requesting .loader = true ↔
    p.mxs.outstanding .loader < 2 ∧ ∃ l, p.mxs.load = some l ∧ 0 < p.nextBlock l ∧ p.nextBlock l ≤ l.buffer.length := by
  cases hload : p.mxs.load <;> simp [Part.requesting, hload]

theorem Part.requesting_reader (p : Part) : p.requesting .reader = true ↔
    p.mxs.outstanding .reader < 2 ∧ ∃ b, p.mxs.readback = some b ∧ b.next < b.stop := by
  cases hback : p.mxs.readback <;> simp [Part.requesting, hback]

/-! ## The choice (R89, R90) -/

theorem Part.streamUrgent_iff (p : Part) : p.streamUrgent = true ↔ ∃ k, (p.slot k).state = .assembling := by
  simp [Part.streamUrgent, Fin.exists_fin_two, Part.slot, Two.get]

/-- The second half of a pair is due, and LOADER requests (R90). -/
def Part.pairDue (p : Part) : Prop := p.mxs.pairMode = true ∧ p.mxs.pairNext = true ∧ p.requesting .loader = true

/-- An urgent STREAM requests (R89, R90). -/
def Part.urgentDue (p : Part) : Prop := p.requesting .stream = true ∧ ∃ k, (p.slot k).state = .assembling

/-- What R90 asks of a grant. -/
structure Part.Chosen (p : Part) (g : Grant) : Prop where
  requests : p.requesting g.requester = true
  paired : g.paired = true ↔ p.pairDue
  pair : p.pairDue → g.requester = .loader
  urgent : ¬ p.pairDue → p.urgentDue → g.requester = .stream
  highest : ¬ p.pairDue → ¬ p.urgentDue →
    ∀ q, p.requesting q = true → p.mxs.rotation.idxOf g.requester ≤ p.mxs.rotation.idxOf q

/-- A LOADER grant gives rise to a pair in pair mode, unless it is the second half of one (R90, R91). -/
theorem Part.Chosen.pairNext_iff {p : Part} {g : Grant} (h : p.Chosen g) :
    (p.mxs.pairMode = true ∧ g.requester = .loader) ∧ g.paired = false ↔
      p.mxs.pairMode = true ∧ g.requester = .loader ∧ (p.mxs.pairNext = true → p.requesting .loader = false) := by
  have hpaired : g.paired = false ↔ ¬ p.pairDue := by simp [← h.paired]
  rw [hpaired, Part.pairDue, and_assoc]
  refine and_congr_right fun hmode => and_congr_right fun _ => ?_
  simp [hmode]

/-- The first element of a list that satisfies a predicate stands before every other that does. -/
theorem idxOf_le_of_find? {l : List Requester} {f : Requester → Bool} {r q : Requester} (h : l.find? f = some r)
    (hq : f q = true) : l.idxOf r ≤ l.idxOf q := by
  obtain ⟨hr, before, after, rfl, hbefore⟩ := List.find?_eq_some_iff_append.mp h
  have hnot {x : Requester} (hx : f x = true) : x ∉ before := fun hmem => by simpa [hx] using hbefore x hmem
  rw [List.idxOf_append_of_notMem (hnot hr), List.idxOf_append_of_notMem (hnot hq), List.idxOf_cons_self]
  omega

/-- The three steps of R90, in order. -/
theorem Part.chooseGrant_eq (p : Part) :
    (p.pairDue → p.chooseGrant = some ⟨.loader, true⟩) ∧
    (¬ p.pairDue → p.urgentDue → p.chooseGrant = some ⟨.stream, false⟩) ∧
    (¬ p.pairDue → ¬ p.urgentDue →
      p.chooseGrant = (p.mxs.rotation.find? fun r => p.requesting r).map fun r => ⟨r, false⟩) := by
  have hpair : (p.mxs.pairMode && p.mxs.pairNext && p.requesting .loader) = true ↔ p.pairDue := by
    simp [Part.pairDue, and_assoc]
  have hurgent : (p.requesting .stream && p.streamUrgent) = true ↔ p.urgentDue := by
    simp [Part.urgentDue, Part.streamUrgent_iff]
  rw [← hpair, ← hurgent]
  exact ⟨fun h => if_pos h, fun h hu => (if_neg h).trans (if_pos hu), fun h hu => (if_neg h).trans (if_neg hu)⟩

/-- With each requester in the rotation order and one requesting, the arbiter chooses as R90 says. -/
theorem Part.chooseGrant_chosen {p : Part} (hall : ∀ r, r ∈ p.mxs.rotation) (hsome : ∃ r, p.requesting r = true) :
    ∃ g, p.chooseGrant = some g ∧ p.Chosen g := by
  obtain ⟨hpaired, hurgent, hrotation⟩ := p.chooseGrant_eq
  by_cases hp : p.pairDue
  · exact ⟨_, hpaired hp, ⟨hp.2.2, by simp [hp], fun _ => rfl, absurd hp, absurd hp⟩⟩
  by_cases hu : p.urgentDue
  · exact ⟨_, hurgent hp hu, ⟨hu.1, by simp [hp], fun h => absurd h hp, fun _ _ => rfl, fun _ h => absurd hu h⟩⟩
  obtain ⟨q, hq⟩ := hsome
  obtain ⟨r, hr⟩ := Option.isSome_iff_exists.mp
    (List.find?_isSome (p := fun r => p.requesting r) |>.mpr ⟨q, hall q, hq⟩)
  exact ⟨⟨r, false⟩, by rw [hrotation hp hu, hr]; rfl,
    ⟨List.find?_some (p := fun r => p.requesting r) hr, by simp [hp], fun h => absurd h hp, fun _ h => absurd h hu,
      fun _ _ q hq => idxOf_le_of_find? hr hq⟩⟩

/-- With no requester requesting, the arbiter chooses none. -/
theorem Part.chooseGrant_none {p : Part} (h : ∀ r, p.requesting r = false) : p.chooseGrant = none := by
  simp [Part.chooseGrant, h]

/-! ## The granted burst (R62, R79, R87, R90, R91) -/

/-- The rotation order moves, and a LOADER grant may give rise to a pair (R90, R91). -/
def Part.passTurn (g : Grant) (p : Part) : Part := p.modMxs fun x =>
  { x with
    rotation := rotate g.requester x.rotation
    pairNext := x.pairMode && g.requester = .loader && !g.paired }

theorem Part.arbiterGrant_eq {p : Part} {g : Grant} (h : p.chooseGrant = some g) :
    p.arbiterGrant = (p.grantTo g.requester).passTurn g := by
  simp [Part.arbiterGrant, h, Part.passTurn]

/-- A requester that requests is granted one burst of its own, and of the store beside the bursts only its load and readback
move. -/
theorem Part.grantTo_burst {p : Part} {r : Requester} (h : p.requesting r = true) : ∃ (b : Burst) (load : Option MatrixLoad)
    (readback : Option BankReadback), b.requester = r ∧
      (p.grantTo r).mxs = { p.mxs with bursts := p.mxs.bursts ++ [b], load := load, readback := readback } := by
  cases r with
  | stream =>
    have hnext : p.nextColumn.isSome = true := (Bool.and_eq_true_iff.mp h).2
    obtain ⟨e, he⟩ := Option.isSome_iff_exists.mp hnext
    rw [Part.grantTo, Part.grantStream, he]
    exact ⟨_, _, _, rfl, rfl⟩
  | loader =>
    obtain ⟨_, l, hl, _⟩ := p.requesting_loader.mp h
    rw [Part.grantTo, Part.grantLoader, hl]
    exact ⟨_, _, _, rfl, rfl⟩
  | reader =>
    obtain ⟨_, b, hb, _⟩ := p.requesting_reader.mp h
    rw [Part.grantTo, Part.grantReader, hb]
    exact ⟨_, _, _, rfl, rfl⟩

/-- The store after a grant: the burst is the last in progress, the load or the readback has moved, the rotation order too, and a
pair may be due; the rest stands. -/
theorem Part.passTurn_mxs {p : Part} {g : Grant} (h : p.requesting g.requester = true) : ∃ (b : Burst)
    (load : Option MatrixLoad) (readback : Option BankReadback), b.requester = g.requester ∧
      ((p.grantTo g.requester).passTurn g).mxs = { p.mxs with
        bursts := p.mxs.bursts ++ [b]
        load := load
        readback := readback
        rotation := rotate g.requester p.mxs.rotation
        pairNext := p.mxs.pairMode && g.requester = .loader && !g.paired } := by
  obtain ⟨b, load, readback, hb, hmxs⟩ := Part.grantTo_burst h
  exact ⟨b, load, readback, hb, by simp [Part.passTurn, hmxs]⟩

/-- A burst of a requester is one burst more of that requester, and none of another. -/
theorem outstanding_append {x y : Mxs} {b : Burst} (h : y.bursts = x.bursts ++ [b]) (q : Requester) :
    y.outstanding q = x.outstanding q + if q = b.requester then 1 else 0 := by
  simp [Mxs.outstanding, h, List.countP_append, List.countP_singleton, eq_comm]

theorem bankBase_eq (b : BankIx) : bankBase b = if b = 0 then 0 else 268435456 := by
  fin_cases b <;> rfl

/-- The burst that a grant makes, and what it leaves of the requester's own work (R62, R79, R87). -/
theorem Part.grantTo_burstGranted (p : Part) (g : Grant) (r : Requester) :
    burstGranted p ((p.grantTo r).passTurn g) r := by
  cases r with
  | stream =>
    intro before e after hlist hbefore he
    have hnext := Part.nextColumn_eq_some hlist (fun y hy => (hbefore y hy).1) he
    have hstream := modStream_append (fun y => { y with granted := y.granted + 1 }) (fun y hy => (hbefore y hy).2)
      ⟨rfl, rfl⟩ after
    rw [Part.grantTo, Part.grantStream, hnext]
    refine ⟨rfl, ?_⟩
    rw [← hstream, ← hlist]
    rfl
  | loader =>
    intro l hload
    rw [Part.grantTo, Part.grantLoader, hload, ← bankBase_eq]
    exact ⟨rfl, rfl⟩
  | reader =>
    intro b hback
    rw [Part.grantTo, Part.grantReader, hback]
    exact ⟨rfl, rfl⟩

/-- A grant is a matter of the store and the stream list. -/
theorem Part.arbiterGrant_sameBut (p : Part) : p.arbiterGrant.sameBut p [.mxs, .rca] := by
  simp [Part.sameBut_iff]

end Sys2Proof.Machine

namespace Sys2Proof.Proofs

open Sys2Proof.Machine

/-- When each requester requests (O22's first part). -/
theorem requestersRequest_holds : requestersRequest :=
  fun p => ⟨p.requesting_stream, p.requesting_loader, p.requesting_reader⟩

/-- Which requester a grant goes to, and what it makes (O22's second part). -/
theorem grantGoesByRotation_holds : grantGoesByRotation := by
  intro s hall p
  have hexec : exec .arbiterGrant s = .next { s with part := p.arbiterGrant } := rfl
  refine ⟨fun hnone => ?_, fun hsome => ?_⟩
  · rw [hexec, Part.arbiterGrant, Part.chooseGrant_none hnone]
  · obtain ⟨g, hchoose, hchosen⟩ := Part.chooseGrant_chosen hall hsome
    obtain ⟨b, load, readback, hb, hmxs⟩ := Part.passTurn_mxs hchosen.requests
    have hsame := p.arbiterGrant_sameBut
    rw [Part.arbiterGrant_eq hchoose] at hexec hsame
    refine ⟨_, g.requester, hexec, rfl, hchosen.requests, fun hm hn hl => hchosen.pair ⟨hm, hn, hl⟩,
      fun hpair => ⟨fun hs hk => hchosen.urgent hpair ⟨hs, hk⟩, hchosen.highest hpair⟩, congrArg Mxs.rotation hmxs,
      fun q => ?_, ?_, p.grantTo_burstGranted g g.requester, by rw [hmxs], by rw [hmxs], hsame⟩
    · rw [outstanding_append (congrArg Mxs.bursts hmxs) q, hb]
    · rw [hmxs]
      simpa using hchosen.pairNext_iff

/-- Settles O22: when each requester requests, the choice of R90, and the burst that the grant makes. -/
theorem grantGoesByRotation : Obligations.GrantGoesByRotation :=
  ⟨requestersRequest_holds, grantGoesByRotation_holds⟩

end Sys2Proof.Proofs
end

section
/-! SUPPORT. The laws of the matrix store (O59): what each operation does to the banks' ACTIVE states, the rotation order and the
store's bytes. A swap makes one bank ACTIVE after the other is retired, a grant rotates the order, a loader burst writes bytes; no
other operation makes a bank ACTIVE, reorders the requesters or lists a byte. -/

namespace Sys2Proof.Machine

/-! ## How the store may move on -/

/-- The matrix store y comes from x by steps that keep its laws: each law that holds of x holds of y (R75, R76, R82, R90). -/
structure Mxs.Follows (y x : Mxs) : Prop where
  active : ¬ (x.banks.t0.state = .active ∧ x.banks.t1.state = .active) →
    ¬ (y.banks.t0.state = .active ∧ y.banks.t1.state = .active)
  rotation : x.rotation.Perm [.stream, .loader, .reader] → y.rotation.Perm [.stream, .loader, .reader]
  form : Memory.wf x.store = true → Memory.wf y.store = true

theorem Mxs.Follows.refl (x : Mxs) : x.Follows x := ⟨id, id, id⟩

/-- A store that has no bank ACTIVE beyond those of y, and y's rotation order and bytes. -/
theorem Mxs.Follows.of_le {x y z : Mxs} (h : y.Follows x)
    (hle : (∀ b, (z.banks.get b).state = .active → (y.banks.get b).state = .active) ∧ z.rotation = y.rotation ∧
      z.store = y.store) : z.Follows x := by
  obtain ⟨hbanks, hrotation, hstore⟩ := hle
  exact ⟨fun hx hz => h.active hx ⟨hbanks 0 hz.1, hbanks 1 hz.2⟩, hrotation ▸ h.rotation, hstore ▸ h.form⟩

theorem Mxs.Follows.of_eq {x y z : Mxs} (h : y.Follows x) (hz : z = y) : z.Follows x := hz ▸ h

/-- A change of one bank's record that does not make the bank ACTIVE. -/
theorem Mxs.Follows.modBank {x : Mxs} {p : Part} (h : p.mxs.Follows x) (b : BankIx) (g : BankRecord → BankRecord)
    (hg : (g (p.mxs.banks.get b)).state = .active → (p.mxs.banks.get b).state = .active) : (p.modBank b g).mxs.Follows x := by
  refine h.of_le ⟨fun k hk => ?_, rfl, rfl⟩
  rw [Part.modBank, Part.modMxs_mxs, Two.get_set] at hk
  split at hk
  · next hkb => exact hkb ▸ hg hk
  · exact hk

/-! ## Swaps (R82 to R85) -/

/-- A swap leaves its target alone ACTIVE (R82, R83). -/
theorem Mxs.Follows.makeActive {x : Mxs} {p : Part} (h : p.mxs.Follows x) (b : BankIx) : (p.makeActive b).mxs.Follows x := by
  have hother : ((p.makeActive b).mxs.banks.get (other b)).state ≠ .active := by
    rw [(p.makeActive_banks b).2]
    dsimp only
    split <;> simp_all
  refine ⟨fun _ hboth => hother ?_, h.rotation, h.form⟩
  match b with
  | 0 => exact hboth.2
  | 1 => exact hboth.1

theorem Mxs.Follows.swapAtOpen {x : Mxs} {p : Part} (h : p.mxs.Follows x) : p.swapAtOpen.mxs.Follows x := by
  unfold Part.swapAtOpen
  split
  · exact h
  · rename_i w _
    have hdrop : p.dropSwap.mxs.Follows x := h.of_le ⟨fun _ => id, rfl, rfl⟩
    exact (hdrop.makeActive w.target).of_eq (by simp)

theorem Mxs.Follows.cancelSwap {x : Mxs} {p : Part} (h : p.mxs.Follows x) (r : Reason) : (p.cancelSwap r).mxs.Follows x := by
  unfold Part.cancelSwap
  split
  · exact h
  · exact h.of_le (by simp [Part.dropSwap])

theorem Mxs.Follows.swapMatrix {x : Mxs} {p : Part} (h : p.mxs.Follows x) (target : Byte) (ref : OrderRef) :
    (p.swapMatrix target ref).2.mxs.Follows x := by
  unfold Part.swapMatrix
  dsimp only
  (repeat' split)
  · exact h
  · exact h
  · exact h
  · exact h
  · exact h
  · exact h.makeActive _
  · exact h.of_le ⟨fun _ => id, rfl, rfl⟩

theorem Mxs.Follows.setGeometry {x : Mxs} {p : Part} (h : p.mxs.Follows x) (g : GeometryParams) :
    (p.setGeometry g).2.mxs.Follows x := by
  unfold Part.setGeometry Part.judgeSwap
  (repeat' split)
  · exact h
  · exact h
  · exact h
  · exact h
  · exact Mxs.Follows.cancelSwap (p := p.modGeo fun _ => newGeometry g) h _

/-! ## Frames (R24 to R29, R41, R63) -/

theorem Mxs.Follows.openFrame {x : Mxs} {p : Part} (h : p.mxs.Follows x) (i : SlotIx) (f : Serial) :
    (p.openFrame i f).mxs.Follows x := by
  have hcommits : (p.openCommits i).mxs.Follows x := by
    unfold Part.openCommits
    split
    · exact h
    · exact (h.of_eq (z := p.commitSlopeSide.mxs) (by simp)).swapAtOpen
  exact hcommits.of_eq (by simp [Part.openFrame])

theorem Mxs.Follows.placeSegment {x : Mxs} {p : Part} (h : p.mxs.Follows x) (seg : Segment) :
    (p.placeSegment seg).mxs.Follows x := by
  unfold Part.placeSegment Part.admitNew
  (repeat' split)
  · exact h.of_eq (by simp)
  · rename_i i _
    exact (h.openFrame i seg.frame).of_eq (by simp)
  · exact h.of_eq (by simp)
  · exact h.of_eq (by simp)

theorem Mxs.Follows.admitSegment {x : Mxs} {p : Part} (h : p.mxs.Follows x) : p.admitSegment.mxs.Follows x := by
  unfold Part.admitSegment
  (repeat' split)
  · exact h
  · exact h
  · exact h
  · exact Mxs.Follows.placeSegment (h.of_eq (by simp)) _

/-- A discard of slots drops the data of their bursts, and leaves the store's banks, order and bytes (R71). -/
theorem Mxs.Follows.stopLoop {x : Mxs} {p : Part} (h : p.mxs.Follows x) : p.stopLoop.mxs.Follows x := by
  have hd := (p.putLoop .stopped).discardAll_discards.mxs
  exact h.of_le (by simp [Part.stopLoop, hd])

theorem Mxs.Follows.columnBurstArrival {x : Mxs} {p : Part} (h : p.mxs.Follows x) : p.columnBurstArrival.mxs.Follows x := by
  unfold Part.columnBurstArrival
  split
  · dsimp only
    split
    · exact h.of_le ⟨fun _ => id, rfl, rfl⟩
    · exact h.of_le (by simp [Mxs.dropBurst])
  · exact h
  · exact h
  · exact h

/-! ## Grants (R89, R90) -/

/-- The granted requester moves to the bottom, and the order still names each requester once (R90). -/
theorem rotate_perm {order : List Requester} (h : order.Perm [.stream, .loader, .reader]) (r : Requester) :
    (rotate r order).Perm [.stream, .loader, .reader] := by
  refine ((h.filter fun q => q ≠ r).append_right [r]).trans ?_
  cases r <;> decide

/-- A grant touches the bursts, the load, the readback and the turn. -/
theorem Part.grantTo_banks (r : Requester) (p : Part) : (p.grantTo r).mxs.banks = p.mxs.banks ∧
    (p.grantTo r).mxs.rotation = p.mxs.rotation ∧ (p.grantTo r).mxs.store = p.mxs.store := by
  cases r with
  | stream => rw [Part.grantTo, Part.grantStream]; split <;> exact ⟨rfl, rfl, rfl⟩
  | loader => rw [Part.grantTo, Part.grantLoader]; split <;> exact ⟨rfl, rfl, rfl⟩
  | reader => rw [Part.grantTo, Part.grantReader]; split <;> exact ⟨rfl, rfl, rfl⟩

theorem Mxs.Follows.arbiterGrant {x : Mxs} {p : Part} (h : p.mxs.Follows x) : p.arbiterGrant.mxs.Follows x := by
  unfold Part.arbiterGrant
  split
  · exact h
  · rename_i g _
    obtain ⟨hbanks, hrotation, hstore⟩ := p.grantTo_banks g.requester
    have hg : (p.grantTo g.requester).mxs.Follows x := h.of_le ⟨fun b => by rw [hbanks]; exact id, hrotation, hstore⟩
    exact ⟨hg.active, fun hx => rotate_perm (hg.rotation hx) g.requester, hg.form⟩

/-! ## The transfer lane (R78 to R81, R168 to R172) -/

theorem Mxs.Follows.dropWork {x : Mxs} {p : Part} (h : p.mxs.Follows x) (op : BulkOp) : (p.dropWork op).mxs.Follows x := by
  cases op with
  | loadMatrix b s a e check =>
    exact (h.modBank b (fun y => { y with state := .empty }) (by simp)).of_le ⟨fun _ => id, rfl, rfl⟩
  | readBank | readTable => exact h.of_le ⟨fun _ => id, rfl, rfl⟩
  | loadReference | loadSensors | loadLimits | loadPairs | applyShape | copySnapshot => exact h

theorem Mxs.Follows.endEarly {x : Mxs} {p : Part} (h : p.mxs.Follows x) (r : Running) (why : Reason) :
    (p.endEarly r why).mxs.Follows x := (h.dropWork r.bulk.op).of_eq (by simp [Part.endEarly])

theorem Mxs.Follows.failTransfer {x : Mxs} {p : Part} (h : p.mxs.Follows x) (r : Running) : (p.failTransfer r).mxs.Follows x :=
  (h.endEarly r .hostAccess).of_eq (by simp [Part.failTransfer])

theorem Mxs.Follows.laneRead {x : Mxs} {p : Part} (h : p.mxs.Follows x) (r : Running) (a : BitVec 64) (n : Nat) :
    (p.laneRead r a n).mxs.Follows x := by
  unfold Part.laneRead
  split
  · exact h.of_eq (by simp)
  · exact h.failTransfer r

theorem Mxs.Follows.confirm {x : Mxs} {p : Part} (h : p.mxs.Follows x) (r : Running) : (p.confirm r).mxs.Follows x :=
  Mxs.Follows.laneRead (p := p.modXu _) h _ _ _

/-- A load that begins takes its bank out of every state but LOADING (R78). -/
theorem Mxs.Follows.beginWork {x : Mxs} {p : Part} (h : p.mxs.Follows x) (op : BulkOp) : (p.beginWork op).mxs.Follows x := by
  cases op with
  | loadMatrix b s a e check =>
    exact (h.modBank b (fun _ => ⟨.loading, s, a, e, check, 0⟩) (by simp)).of_le ⟨fun _ => id, rfl, rfl⟩
  | readBank | readTable => exact h.of_le ⟨fun _ => id, rfl, rfl⟩
  | loadReference | loadSensors | loadLimits | loadPairs | applyShape | copySnapshot => exact h

theorem Mxs.Follows.runLane {x : Mxs} {p : Part} (h : p.mxs.Follows x) (r : Running) (reading : Bool) :
    (p.runLane r reading).mxs.Follows x := by
  have hb : ((p.modXu fun x => { x with lane := some r }).beginWork r.bulk.op).mxs.Follows x :=
    Mxs.Follows.beginWork (p := p.modXu _) h _
  unfold Part.runLane
  dsimp only
  (repeat' split)
  · exact hb.of_eq (by simp)
  · exact hb.laneRead _ _ _
  · exact hb.confirm _
  · exact hb

theorem Mxs.Follows.startHead {x : Mxs} {p : Part} (h : p.mxs.Follows x) : p.startHead.mxs.Follows x := by
  unfold Part.startHead
  split
  · rename_i b rest _ _
    have hq : (p.modXu fun x => { x with queue := rest }).mxs.Follows x := h
    unfold Part.startBulk
    split
    · exact hq.of_eq (by simp)
    · exact hq.runLane _ _
    · exact hq.runLane _ _
  · exact h

theorem Mxs.Follows.startHeads {x : Mxs} {p : Part} (h : p.mxs.Follows x) (n : Nat) : (Part.startHeads n p).mxs.Follows x := by
  induction n generalizing p with
  | zero => exact h
  | succ n ih => exact ih h.startHead

theorem Mxs.Follows.takeMatrixBytes {x : Mxs} {p : Part} (h : p.mxs.Follows x) (r : Running) (bytes : List Byte) :
    (p.takeMatrixBytes r bytes).mxs.Follows x := by
  unfold Part.takeMatrixBytes
  (repeat' split)
  · exact h
  · exact h
  · exact h.of_le ⟨fun _ => id, rfl, rfl⟩

theorem Mxs.Follows.hostReadCompletion {x : Mxs} {p : Part} (h : p.mxs.Follows x) (bytes : List Byte) :
    (p.hostReadCompletion bytes).mxs.Follows x := by
  unfold Part.hostReadCompletion
  split
  · exact h
  · rename_i r _
    split
    · cases r.bulk.op with
      | loadMatrix => exact h.takeMatrixBytes r bytes
      | loadReference | loadSensors | loadLimits | loadPairs | applyShape => exact h.of_eq (by simp)
      | readBank | readTable | copySnapshot => exact h
    · exact h

/-- A load that ends leaves its bank READY or EMPTY (R80). -/
theorem Mxs.Follows.endMatrix {x : Mxs} {p : Part} (h : p.mxs.Follows x) (r : Running) (l : MatrixLoad) :
    (p.endMatrix r l).mxs.Follows x := by
  have hb := h.modBank l.bank
    (fun y => { y with state := if l.sum = (p.mxs.banks.get l.bank).check then .ready else .empty })
    (by dsimp only; split <;> simp)
  exact hb.of_le (by simp [Part.endMatrix])

theorem Mxs.Follows.loadAdvances {x : Mxs} {p : Part} (h : p.mxs.Follows x) (count : Nat) :
    (p.loadAdvances count).mxs.Follows x := by
  unfold Part.loadAdvances
  split
  · exact h
  · rename_i l _
    dsimp only
    have hq := Mxs.Follows.modBank (p := p.modMxs fun x => { x with load := some { l with written := l.written + count } })
      (h.of_le ⟨fun _ => id, rfl, rfl⟩) l.bank (fun y => { y with progress := (l.written + count) / (2 * y.a) }) id
    (repeat' split)
    · exact hq.endMatrix _ _
    · exact hq
    · exact hq

/-- A loader burst writes its bytes, which keeps the store's form (R79). -/
theorem Mxs.Follows.loaderBurstComplete {x : Mxs} {p : Part} (h : p.mxs.Follows x) : p.loaderBurstComplete.mxs.Follows x := by
  unfold Part.loaderBurstComplete
  split
  · rename_i offset data live _ _
    have hq : ((p.modMxs Mxs.dropBurst).modMxs fun x => { x with store := Memory.writeAll x.store offset data }).mxs.Follows x :=
      ⟨h.active, h.rotation, fun hx => Memory.wf_writeAll _ _ _ (h.form hx)⟩
    dsimp only
    split
    · exact hq.loadAdvances _
    · exact hq
  · exact h
  · exact h
  · exact h

theorem Mxs.Follows.issueImage {x : Mxs} {p : Part} (h : p.mxs.Follows x) (r : Running) (bytes : List Byte) :
    (p.issueImage r bytes).mxs.Follows x := by
  unfold Part.issueImage
  dsimp only
  split
  · exact Mxs.Follows.confirm (h.of_eq (by simp)) _
  · exact h.of_eq (by simp)

theorem Mxs.Follows.readerBurstComplete {x : Mxs} {p : Part} (h : p.mxs.Follows x) : p.readerBurstComplete.mxs.Follows x := by
  have hq : (p.modMxs Mxs.dropBurst).mxs.Follows x := h.of_le ⟨fun _ => id, rfl, rfl⟩
  unfold Part.readerBurstComplete
  split
  · dsimp only
    (repeat' split)
    · exact hq
    · exact hq.issueImage _ _
    · exact hq
  · exact h
  · exact h
  · exact h

theorem Mxs.Follows.hostWriteRequest {x : Mxs} {p : Part} (h : p.mxs.Follows x) (length : Nat) :
    (p.hostWriteRequest length).mxs.Follows x := by
  unfold Part.hostWriteRequest
  (repeat' split)
  · exact h
  · exact h
  · exact h
  · exact h.issueImage _ _

theorem Mxs.Follows.endToHost {x : Mxs} {p : Part} (h : p.mxs.Follows x) (r : Running) : (p.endToHost r).mxs.Follows x := by
  unfold Part.endToHost
  cases r.bulk.op with
  | readBank | readTable => exact h.of_le (by simp)
  | copySnapshot => exact h.of_eq (by simp)
  | loadMatrix | loadReference | loadSensors | loadLimits | loadPairs | applyShape => exact h

theorem Mxs.Follows.confirmingReadCompletion {x : Mxs} {p : Part} (h : p.mxs.Follows x) :
    p.confirmingReadCompletion.mxs.Follows x := by
  unfold Part.confirmingReadCompletion
  (repeat' split)
  · exact h
  · exact h.endToHost _
  · exact h

theorem Mxs.Follows.hostAccessFailure {x : Mxs} {p : Part} (h : p.mxs.Follows x) (read : FailedRead) :
    (p.hostAccessFailure read).mxs.Follows x := by
  unfold Part.hostAccessFailure
  (repeat' split)
  · exact h.of_eq (by simp)
  · exact h
  · exact h.failTransfer _
  · exact h
  · exact h

/-! ## Orders (R158 to R160) -/

theorem Mxs.Follows.takeBulk {x : Mxs} {p : Part} (h : p.mxs.Follows x) (o : Order) (ref : OrderRef) (e : Except Reason Taken) :
    (p.takeBulk o ref e).mxs.Follows x := by
  unfold Part.takeBulk Part.enqueueBulk
  dsimp only
  (repeat' split)
  · exact h.of_eq (by simp)
  · exact Mxs.Follows.startHeads (p := p.modXu _) h _
  · exact h

theorem Mxs.Follows.abortTransfer {x : Mxs} {p : Part} (h : p.mxs.Follows x) (matchFlag ticket : Byte) :
    (p.abortTransfer matchFlag ticket).2.mxs.Follows x := by
  unfold Part.abortTransfer
  (repeat' split)
  · exact h
  · exact h
  · exact h
  · exact (h.endEarly _ _).startHeads _

theorem Mxs.Follows.finish {x : Mxs} {p : Part} (h : p.mxs.Follows x) (ref : OrderRef) (r : OrderResult) :
    (p.finish ref r).mxs.Follows x := h.of_eq (by simp)

/-- An order that is carried out: those that swap, stop the loop or move transfers by their own lemmas, SET_STORE because it sets
the pair mode alone, and the others because they do not touch the store. -/
theorem Mxs.Follows.carryOut {x : Mxs} {p : Part} (h : p.mxs.Follows x) (o : Order) (ref : OrderRef) :
    (p.carryOut o ref).mxs.Follows x := by
  cases o with
  | setGeometry g => exact (h.setGeometry g).finish _ _
  | loopStop =>
    refine Mxs.Follows.finish ?_ _ _
    unfold Part.loopStopOrder
    split
    · exact h
    · exact h.stopLoop
  | swapMatrix target => exact (h.swapMatrix target ref).of_eq (by simp [Part.carryOut])
  | setStore m =>
    refine Mxs.Follows.finish ?_ _ _
    unfold Part.setStore
    split
    · exact h
    · exact h.of_le ⟨fun _ => id, rfl, rfl⟩
  | abortTransfer matchFlag ticket => exact (h.abortTransfer matchFlag ticket).finish _ _
  | loadMatrix | readBack | loadTable | applyShape | copySnapshot => exact h.takeBulk _ _ _
  | _ => exact h.of_eq (by simp [Part.carryOut])

theorem Mxs.Follows.takeOrder {x : Mxs} {p : Part} (h : p.mxs.Follows x) (o : Order) (ref : OrderRef) :
    (p.takeOrder o ref).mxs.Follows x :=
  Mxs.Follows.carryOut (h.of_eq (by simp)) o ref

theorem Mxs.Follows.orderCommand {x : Mxs} {p : Part} (h : p.mxs.Follows x) (head : OrderHead) (o : Order) :
    (p.orderCommand head o).mxs.Follows x := by
  rcases p.orderCommand_cases head o with ⟨_, hc⟩ | ⟨_, hc⟩ <;> rw [hc]
  · exact h
  · exact h.takeOrder _ _

theorem Mxs.Follows.takeOrders {x : Mxs} {p : Part} (h : p.mxs.Follows x) (n : Nat) (eligible : List PostedSlot) :
    (Part.takeOrders n eligible p).mxs.Follows x := by
  induction n generalizing p eligible with
  | zero => exact h
  | succ n ih =>
    simp only [Part.takeOrders]
    split
    · exact h
    · rename_i posted losers _
      have hl : (losers.foldl (fun y l => y.loseDuplicate l) p).mxs.Follows x :=
        h.of_eq (foldl_view Part.mxs _ (by simp) _ _)
      split
      · exact hl
      · exact ih (hl.takeOrder _ _) _

theorem Mxs.Follows.sweepReadCompletion {x : Mxs} {p : Part} (h : p.mxs.Follows x) (consumed : BitVec 32)
    (slots : List (List Byte)) : (p.sweepReadCompletion consumed slots).mxs.Follows x := by
  unfold Part.sweepReadCompletion
  split
  · have hq : (p.acceptConsumed consumed).mxs.Follows x := h.of_eq (by simp)
    exact (hq.takeOrders 32 ((p.acceptConsumed consumed).eligibleSlots slots)).of_eq (by simp)
  · exact h

/-! ## Resets and registers (R92, R93, R172) -/

theorem Mxs.Follows.stopExchange {x : Mxs} {p : Part} (h : p.mxs.Follows x) : p.stopExchange.mxs.Follows x := by
  have hlane : (p.modXu fun x => { x with sweeping := false }).stopLane.mxs.Follows x := by
    unfold Part.stopLane
    split
    · exact h
    · exact Mxs.Follows.endEarly (p := p.modXu _) h _ _
  have hqueue : (p.modXu fun x => { x with sweeping := false }).stopLane.stopQueue.mxs.Follows x := hlane.of_eq (by simp)
  exact (hqueue.cancelSwap .exchangeStopped).of_eq (by simp [Part.stopExchange])

/-- The granted bursts that settle at a part reset write bytes or are dropped, which keeps the store's form (R93). -/
theorem Mxs.Follows.settle {x : Mxs} {p : Part} (h : p.mxs.Follows x) : p.settle.mxs.Follows x := by
  have hstart : p.reportSwap.cutLinks.mxs.Follows x := h.of_eq (by simp)
  unfold Part.settle
  generalize p.mxs.bursts = bursts
  generalize p.reportSwap.cutLinks = q at hstart
  induction bursts generalizing q with
  | nil => exact hstart
  | cons b rest ih =>
    refine ih _ ?_
    unfold Part.settleBurst
    cases b with
    | stream | reader => exact hstart
    | loader offset data live =>
      dsimp only
      split
      · exact ⟨hstart.active, hstart.rotation, fun hx => Memory.wf_writeAll _ _ _ (hstart.form hx)⟩
      · exact hstart

theorem Mxs.Follows.partReset {x : Mxs} {p : Part} (h : p.mxs.Follows x) : p.partReset.mxs.Follows x := by
  have hs := h.settle
  have hreset (b : BankRecord) : b.reset.state = .active → b.state = .active := by
    rw [BankRecord.reset_eq]
    dsimp only
    split
    · simp
    · exact id
  exact ⟨fun hx hboth => hs.active hx ⟨hreset _ hboth.1, hreset _ hboth.2⟩, fun _ => .refl _, hs.form⟩

theorem Part.powerUp_follows (p : Part) (x : Mxs) : p.powerUp.mxs.Follows x :=
  ⟨fun _ => by simp [Part.powerUp, Mxs.powerOn, Two.both, BankRecord.powerOn], fun _ => .refl _, fun _ => rfl⟩

theorem Mxs.Follows.controlWrite {x : Mxs} {p : Part} (h : p.mxs.Follows x) (exchEn reset : Bool) :
    (p.controlWrite exchEn reset).mxs.Follows x := by
  unfold Part.controlWrite
  (repeat' split)
  · exact h.partReset
  · exact h.of_eq (by simp)
  · exact h.stopExchange
  · exact h

theorem Mxs.Follows.registerWrite {x : Mxs} {p : Part} (h : p.mxs.Follows x) (offset : BitVec 12) (count : Nat)
    (value : BitVec 32) : (p.registerWrite offset count value).mxs.Follows x := by
  unfold Part.registerWrite Part.wholeWrite
  (repeat' split)
  · exact h
  · exact h.controlWrite _ _
  · exact h.of_eq (by simp)
  · exact h.of_eq (by simp)
  · exact h.of_eq (by simp)
  · exact h.of_eq (by simp)
  · exact h

/-! ## The commands -/

/-- Every command keeps the laws of the store: those that touch the store by their own lemmas, an order's command by what the order
does, and the other events because they leave the store alone. -/
theorem Mxs.Follows.after {x : Mxs} {p : Part} (h : p.mxs.Follows x) (c : Instr) : (p.after c).mxs.Follows x := by
  cases c with
  | powerOn => exact p.powerUp_follows x
  | partReset | functionLevelReset => exact h.partReset
  | exchEnStart | exchEnStop => exact h.controlWrite _ _
  | registerWriteIgnored offset count v => exact h.registerWrite offset count v
  | admitSegment => exact h.admitSegment
  | arbiterGrant => exact h.arbiterGrant
  | columnBurstArrival => exact h.columnBurstArrival
  | sweepReadCompletion consumed slots => exact h.sweepReadCompletion consumed slots
  | hostAccessFailure read => exact h.hostAccessFailure read
  | transferStart => exact h.startHead
  | hostReadCompletion bytes => exact h.hostReadCompletion bytes
  | loaderBurstComplete => exact h.loaderBurstComplete
  | readerBurstComplete => exact h.readerBurstComplete
  | confirmingReadCompletion => exact h.confirmingReadCompletion
  | hostWriteRequest length => exact h.hostWriteRequest length
  | exchBaseLoWrite | exchBaseHiWrite | eventsWrite | eventMaskWrite | timeLoRead | segmentArrival | quietTimerExpiry
  | deadlineExpiry | processEntry | handOnValue | sealDecision | substitutionEnd | extractionEnd | frameGapExpiry | updateBegin
  | sendPoint | mirrorPacketArrival | packetTransmitEnd | receiptTimerExpiry | sweepTimerExpiry | interlockEdge | snapEdge
  | markEdge | periodStart | pulseEnd | lineSample => exact h.of_eq (by simp [Part.after])
  | _ => exact h.orderCommand _ _

end Sys2Proof.Machine

namespace Sys2Proof.Proofs

open Sys2Proof.Machine

/-- At most one bank is ACTIVE, and the rotation order names each requester once (O59's first part). -/
theorem bankLawKept_holds : bankLawKept :=
  kept_of_after (fun p h => by simpa [Part.bankLaw, Part.activeLaw] using h) fun p c ⟨hactive, hrotation⟩ =>
    have hafter := (Mxs.Follows.refl p.mxs).after c
    ⟨hafter.active hactive, hafter.rotation hrotation⟩

/-- The store keeps its canonical form (O59's second part). -/
theorem storeFormKept_holds : storeFormKept :=
  kept_of_after (fun _ h => by simpa [Part.storeLaw] using h) fun p c h => ((Mxs.Follows.refl p.mxs).after c).form h

/-- Settles O59: every command leaves a matrix store that keeps the laws, and the passing of time does not touch it. -/
theorem matrixStoreLawsKept : Obligations.MatrixStoreLawsKept := ⟨bankLawKept_holds, storeFormKept_holds⟩

end Sys2Proof.Proofs
end

section
/-! SUPPORT. The laws right after reset (O52): no slot, no record, no transfer and no frame is there, and every table is at its
default. -/

namespace Sys2Proof.Machine

theorem Limits.powerOn_ordered : Limits.powerOn.ordered := by unfold Limits.ordered; decide

/-- No slot is in use, and nothing claims one. -/
theorem Part.slotLaw_powerOn : Part.powerOn.SlotLaw where
  distinct h := absurd h (by decide)
  extracting _ h := nomatch h
  substituting _ h := nomatch h
  waiting _ h := nomatch h
  updating _ h := nomatch h

theorem Part.capacities_powerOn : Part.powerOn.Capacities where
  fifo i := by simp [Part.powerOn, SensorLink.powerOn]
  work := Nat.zero_le _
  stream := Nat.zero_le _
  records := Nat.zero_le _
  transfers := Nat.zero_le _

/-- A link at power-on has sent nothing, and nothing is outstanding on it. -/
theorem Part.balanceLaw_powerOn : Part.powerOn.balanceLaw := by
  intro m
  have hm : Part.powerOn.mlt.get m = .powerOn := Two.get_both _ m
  rw [hm]
  exact ⟨by unfold MirrorLink.balanced; decide, by unfold MirrorLink.twoAtMost; decide⟩

/-- Every integrator value and every limits entry is the power-on one. -/
theorem Lpc.integratorLaw_powerOn : Lpc.powerOn.IntegratorLaw where
  within _ := by
    change Limits.powerOn.holds integratorPowerOn
    unfold Limits.holds
    decide
  liveForm := rfl
  shadowForm := rfl
  live _ := Limits.powerOn_ordered
  shadow _ := Limits.powerOn_ordered
  loading _ h := nomatch h
  running _ h := nomatch h

end Sys2Proof.Machine

namespace Sys2Proof.Proofs

open Sys2Proof.Machine

/-- Settles O52: each law by itself, the part right after reset being the part at power-on. -/
theorem lawsHoldAtReset : Obligations.LawsHoldAtReset :=
  ⟨fun h => absurd h (by decide), ⟨fun h => absurd h.1 (by decide), .refl _⟩, by unfold Part.ringLaw; decide,
    Part.slotLaw_powerOn, Part.capacities_powerOn, Part.balanceLaw_powerOn, Lpc.integratorLaw_powerOn, Memory.wf_reset⟩

end Sys2Proof.Proofs
end

section
/-! SUPPORT. SWAP_MATRIX (O21): the condition that decides, and what the order then does. -/

namespace Sys2Proof.Machine

/-- The target names no bank (R82). -/
theorem Part.swapMatrix_noBank {target : Byte} (h : 2 ≤ target.toNat) (ref : OrderRef) (p : Part) :
    p.swapMatrix target ref = (some (.failed .badParameter), p) := by
  simp [Part.swapMatrix, indexOf_eq_none h]

section

variable {p : Part} {target : Byte} {b : BankIx} (hb : target.toNat = b.val) (ref : OrderRef)

include hb

theorem Part.swapMatrix_active (h : (p.mxs.banks.get b).state = .active) : p.swapMatrix target ref = (some .done, p) := by
  simp [Part.swapMatrix, indexOf_eq_some hb, h]

theorem Part.swapMatrix_notReady (h : (p.mxs.banks.get b).state = .empty ∨ (p.mxs.banks.get b).state = .loading) :
    p.swapMatrix target ref = (some (.failed .bankNotReady), p) := by
  rcases h with h | h <;> simp [Part.swapMatrix, indexOf_eq_some hb, h]

/-- A READY target goes on to its dimensions, the pending swap and the loop state (R82). -/
theorem Part.swapMatrix_ready (h : (p.mxs.banks.get b).state = .ready) : p.swapMatrix target ref =
    if (p.mxs.banks.get b).matches p.geo = false then (some (.failed .geometryMismatch), p)
    else if p.mxs.pendingSwap.isSome then (some (.failed .swapPending), p)
    else if p.lpc.loop = .stopped then (some .done, p.makeActive b)
    else (none, p.modMxs fun x => { x with pendingSwap := some ⟨b, ref⟩ }) := by
  simp [Part.swapMatrix, indexOf_eq_some hb, h]

end

/-- A swap touches the store and the fresh-bank mark. -/
theorem Part.makeActive_sameBut (b : BankIx) (p : Part) : (p.makeActive b).sameBut p [.mxs, .fra] := by
  simp [Part.sameBut_iff]

end Sys2Proof.Machine

namespace Sys2Proof.Proofs

open Sys2Proof.Machine

/-- Settles O21: the conditions in their order, each with its answer; a swap that takes effect, and one that is pending. -/
theorem swapMatrixDecides : Obligations.SwapMatrixDecides := by
  intro s h target hready p answers
  have hexec := exec_control (c := .swapMatrix h target) (o := .swapMatrix target) rfl hready rfl
  set ref := p.orderRef h (.swapMatrix target)
  have hanswers {r : OrderResult} (hr : (orderTaken p h).swapMatrix target ref = (some r, orderTaken p h)) : answers r :=
    ⟨_, hexec, rfl, by rw [Part.carryOut, Part.finishIf, hr]; exact Part.answered_refused _ _ _ _⟩
  refine ⟨fun hbad => hanswers (Part.swapMatrix_noBank hbad _ _), ?_⟩
  intro b hb r fits
  have hfits : r.matches p.geo = true ↔ fits := BankRecord.matches_iff _ _
  have hdecides (hstate : r.state = .ready) := Part.swapMatrix_ready (p := orderTaken p h) hb ref hstate
  refine ⟨fun hstate => hanswers (Part.swapMatrix_active hb _ hstate),
    fun hstate => hanswers (Part.swapMatrix_notReady hb _ hstate), fun hstate hno => ?_, fun hstate hyes hpending => ?_,
    fun hstate hyes hnone hloop => ?_, fun hstate hyes hnone hloop => ?_⟩
  · exact hanswers ((hdecides hstate).trans (if_pos (by simpa [r] using mt hfits.mp hno)))
  · refine hanswers ((hdecides hstate).trans ?_)
    rw [if_neg (by simpa [r] using hfits.mpr hyes), if_pos (by simpa using hpending)]
  · have hdone : (orderTaken p h).swapMatrix target ref = (some .done, (orderTaken p h).makeActive b) := by
      rw [hdecides hstate, if_neg (by simpa [r] using hfits.mpr hyes), if_neg (by simp [p, hnone])]
      exact if_pos hloop
    rw [Part.carryOut, Part.finishIf, hdone] at hexec
    obtain ⟨htarget, hother⟩ := (orderTaken p h).makeActive_banks b
    have hmxs : (((orderTaken p h).makeActive b).finish ref .done).mxs = ((orderTaken p h).makeActive b).mxs := by simp
    refine ⟨_, hexec, rfl, Part.answered_of_sameBut ((orderTaken p h).makeActive_sameBut b) (by simp) (by simp) (by simp) _ _,
      ?_, ?_, ?_, by simp [p]⟩
    · rw [hmxs, htarget]; rfl
    · rw [hmxs, hother]; rfl
    · rw [hmxs]; rfl
  · have hpends : (orderTaken p h).swapMatrix target ref =
        (none, (orderTaken p h).modMxs fun x => { x with pendingSwap := some ⟨b, ref⟩ }) := by
      rw [hdecides hstate, if_neg (by simpa [r] using hfits.mpr hyes), if_neg (by simp [p, hnone])]
      exact if_neg hloop
    rw [Part.carryOut, Part.finishIf, hpends] at hexec
    exact ⟨_, hexec, rfl, rfl, rfl, fun hmem => by simp [orderTaken, p, hmem], by simp [Part.sameBut_iff, p, orderTaken]⟩

end Sys2Proof.Proofs
end

section
/-! SUPPORT. The write bursts of a matrix load (O23): the bytes that a burst leaves in the store, the progress of a load that still
runs, and the load's end. -/

namespace Sys2Proof.Machine

/-! ## A burst that completes (R79, R81) -/

/-- The part after the store's next burst, a write, has completed. -/
def Part.burstWritten (offset : Nat) (data : List Byte) (p : Part) : Part :=
  (p.modMxs Mxs.dropBurst).modMxs fun x => { x with store := Memory.writeAll x.store offset data }

theorem Part.loaderBurstComplete_eq {p : Part} {offset : Nat} {data : List Byte} {live : Bool} {more : List Burst}
    (h : p.mxs.bursts = .loader offset data live :: more) : p.loaderBurstComplete =
      if live then (p.burstWritten offset data).loadAdvances data.length else p.burstWritten offset data := by
  rw [Part.loaderBurstComplete, h]
  rfl

theorem Part.burstWritten_mxs {p : Part} {offset : Nat} {data : List Byte} {live : Bool} {more : List Burst}
    (h : p.mxs.bursts = .loader offset data live :: more) : (p.burstWritten offset data).mxs =
      { p.mxs with bursts := more, store := Memory.writeAll p.mxs.store offset data } := by
  simp [Part.burstWritten, Mxs.dropBurst, h]

theorem Part.burstWritten_sameBut (offset : Nat) (data : List Byte) (p : Part) :
    (p.burstWritten offset data).sameBut p [.mxs] := by
  simp [Part.sameBut_iff, Part.burstWritten]

/-- A byte of the store once a run has been written: one of the run's, or the byte as it was. -/
theorem Part.storeByte_written {p t : Part} {offset : Nat} {data : List Byte}
    (hstore : t.mxs.store = Memory.writeAll p.mxs.store offset data) (hepoch : t.mxs.epoch = p.mxs.epoch) (m : Nat) :
    t.storeByte m = if offset ≤ m ∧ m < offset + data.length then data.getD (m - offset) 0 else p.storeByte m := by
  rw [Part.storeByte, hstore, hepoch, Memory.read_writeAll]
  split <;> rfl

/-! ## The load goes on, or ends (R79, R80) -/

/-- The part after a running load has written so many bytes more. -/
def Part.loadProgressed (l : MatrixLoad) (count : Nat) (p : Part) : Part :=
  (p.modMxs fun x => { x with load := some { l with written := l.written + count } }).modBank l.bank fun x =>
    { x with progress := (l.written + count) / (2 * x.a) }

theorem Part.loadAdvances_eq {p : Part} {l : MatrixLoad} {r : Running} (hload : p.mxs.load = some l) (hlane : p.xu.lane = some r)
    (count : Nat) : p.loadAdvances count =
      if l.written + count = r.total then (p.loadProgressed l count).endMatrix r { l with written := l.written + count }
      else p.loadProgressed l count := by
  simp [Part.loadAdvances, hload, Part.loadProgressed, hlane]

theorem Part.loadProgressed_mxs (l : MatrixLoad) (count : Nat) (p : Part) : (p.loadProgressed l count).mxs = { p.mxs with
    load := some { l with written := l.written + count }
    banks := p.mxs.banks.set l.bank { p.mxs.banks.get l.bank with
      progress := (l.written + count) / (2 * (p.mxs.banks.get l.bank).a) } } := rfl

theorem Part.loadProgressed_sameBut (l : MatrixLoad) (count : Nat) (p : Part) :
    (p.loadProgressed l count).sameBut p [.mxs] := by
  simp [Part.sameBut_iff, Part.loadProgressed]

/-- The end of a load leaves its bank READY or EMPTY, by the check word (R80). -/
theorem Part.endMatrix_mxs (r : Running) (l : MatrixLoad) (p : Part) : (p.endMatrix r l).mxs = { p.mxs with
    load := none
    banks := p.mxs.banks.set l.bank { p.mxs.banks.get l.bank with
      state := if l.sum = (p.mxs.banks.get l.bank).check then .ready else .empty } } := by
  simp [Part.endMatrix, Part.modBank]

theorem Part.endMatrix_sameBut (r : Running) (l : MatrixLoad) (p : Part) :
    (p.endMatrix r l).sameBut p [.mxs, .xu, .tlu, .issued] := by
  simp [Part.sameBut_iff]

/-- The order of a load that has ended, all of its bytes handed over (R80, R163). -/
theorem Part.endMatrix_finished {r : Running} (hmoved : r.moved = r.total) (l : MatrixLoad) (p : Part) :
    orderFinished p (p.endMatrix r l) (headOf r.bulk.order) { OrderResult.done with
      reason := if l.sum = (p.mxs.banks.get l.bank).check then none else some .checkMismatch
      d1 := l.sum } := by
  have hresult : { (if l.sum = (p.mxs.banks.get l.bank).check then OrderResult.done else OrderResult.failed .checkMismatch)
      with d1 := l.sum } = { OrderResult.done with
        reason := if l.sum = (p.mxs.banks.get l.bank).check then none else some .checkMismatch, d1 := l.sum } := by
    split <;> rfl
  rw [← hresult, Part.endMatrix]
  dsimp only
  exact Part.endLane_finished ⟨rfl, rfl, rfl⟩ rfl rfl hmoved (by dsimp only; split <;> rfl)

/-- A load that goes on or ends leaves the bursts and the bytes of the store. -/
theorem Part.loadAdvances_store (count : Nat) (p : Part) : (p.loadAdvances count).mxs.store = p.mxs.store ∧
    (p.loadAdvances count).mxs.epoch = p.mxs.epoch ∧ (p.loadAdvances count).mxs.bursts = p.mxs.bursts := by
  cases hload : p.mxs.load with
  | none => simp [Part.loadAdvances, hload]
  | some l =>
    cases hlane : p.xu.lane with
    | none => simp [Part.loadAdvances, hload, hlane, Part.modBank]
    | some r =>
      rw [Part.loadAdvances_eq hload hlane]
      split
      · rw [Part.endMatrix_mxs]; exact ⟨rfl, rfl, rfl⟩
      · exact ⟨rfl, rfl, rfl⟩

end Sys2Proof.Machine

namespace Sys2Proof.Proofs

open Sys2Proof.Machine

/-- A loader burst that completes (O23's first part). -/
theorem loaderBurstWrites_holds : loaderBurstWrites := by
  intro s offset data live more hbursts
  have hexec : exec .loaderBurstComplete s = .next { s with part := s.part.loaderBurstComplete } := rfl
  rw [Part.loaderBurstComplete_eq hbursts] at hexec
  set q := s.part.burstWritten offset data
  have hmxs : q.mxs = { s.part.mxs with bursts := more, store := Memory.writeAll s.part.mxs.store offset data } :=
    Part.burstWritten_mxs hbursts
  have hsame : q.sameBut s.part [.mxs] := Part.burstWritten_sameBut _ _ _
  set t := if live then q.loadAdvances data.length else q with ht
  have hstore : t.mxs.store = q.mxs.store ∧ t.mxs.epoch = q.mxs.epoch ∧ t.mxs.bursts = q.mxs.bursts := by
    rw [ht]
    split
    · exact q.loadAdvances_store data.length
    · exact ⟨rfl, rfl, rfl⟩
  rw [hmxs] at hstore
  obtain ⟨hwritten, hepoch, hmore⟩ := hstore
  have hbyte := Part.storeByte_written hwritten hepoch
  refine ⟨_, hexec, rfl, hmore, fun n hn => ?_, fun m hm => ?_, ?_, ?_⟩
  · rw [hbyte, if_pos (by omega), Nat.add_sub_cancel_left]
  · exact (hbyte m).trans (if_neg fun h => hm (m - offset) (by omega) (by omega))
  · rintro rfl
    exact ⟨by rw [hwritten]; exact hmxs, hsame⟩
  · rintro l r rfl hload hlane hgoes
    have hgoesOn : t = q.loadProgressed l data.length := by
      have hadvances := Part.loadAdvances_eq (p := q) (l := l) (by rw [hmxs]; exact hload) hlane data.length
      rwa [if_neg hgoes] at hadvances
    refine ⟨?_, ?_⟩
    · rw [hwritten]
      change t.mxs = _
      rw [hgoesOn, Part.loadProgressed_mxs, hmxs]
    · exact hgoesOn ▸ (q.loadProgressed_sameBut l data.length).trans hsame (by simp)

/-- The last write burst of a matrix load (O23's second part). -/
theorem matrixLoadEnds_holds : matrixLoadEnds := by
  intro s offset data more l r hbursts hload hlane hlast hmoved b
  have hexec : exec .loaderBurstComplete s = .next { s with part := s.part.loaderBurstComplete } := rfl
  set q := s.part.burstWritten offset data with hq
  have hmxs : q.mxs = { s.part.mxs with bursts := more, store := Memory.writeAll s.part.mxs.store offset data } :=
    Part.burstWritten_mxs hbursts
  set l' : MatrixLoad := { l with written := l.written + data.length }
  set m := q.loadProgressed l data.length with hm
  have hends : s.part.loaderBurstComplete = m.endMatrix r l' := by
    rw [Part.loaderBurstComplete_eq hbursts, if_pos rfl,
      Part.loadAdvances_eq (p := q) (l := l) (by rw [hmxs]; exact hload) hlane, if_pos hlast]
  have hsame : m.sameBut s.part [.mxs] := (q.loadProgressed_sameBut l data.length).trans (Part.burstWritten_sameBut _ _ _) (by simp)
  have hbank : m.mxs.banks.get l.bank = { b with progress := r.total / (2 * b.a) } := by
    rw [hm, Part.loadProgressed_mxs, hmxs, Two.get_set_self, hlast]
  have hother : m.mxs.banks.get (other l.bank) = s.part.mxs.banks.get (other l.bank) := by
    rw [hm, Part.loadProgressed_mxs, hmxs, Two.get_set_other _ _ _ _ (other_ne _)]
  have hfinished := m.endMatrix_finished hmoved l'
  rw [hends] at hexec
  refine ⟨_, hexec, rfl, ?_⟩
  dsimp only
  rw [Part.endMatrix_mxs]
  have hcheck : (m.mxs.banks.get l.bank).check = b.check := by rw [hbank]
  refine ⟨fun hsum => ?_, fun hsum => ?_, ?_, ?_, ?_, ?_, ?_⟩
  · rw [Two.get_set_self, if_pos (hsum.trans hcheck.symm), hbank]
  · rw [Two.get_set_self, if_neg (fun h => hsum (h.trans hcheck)), hbank]
  · exact (Two.get_set_other _ _ _ _ (other_ne l.bank)).trans hother
  · rw [hm, Part.loadProgressed_mxs, hmxs]
  · simp [Part.endMatrix, Part.endLane_xu, hm, Part.loadProgressed, hq, Part.burstWritten]
  · rw [show (m.mxs.banks.get l'.bank).check = b.check from hcheck] at hfinished
    exact orderFinished_congr (hsame .tlu (by decide)) (hsame .issued (by decide)) (hsame .xu (by decide)) hfinished
  · exact (m.endMatrix_sameBut r l').trans (hsame.mono (by simp)) (by simp)

/-- Settles O23: a burst's bytes and its load's progress, and the load's end. -/
theorem matrixLoadWritesAndEnds : Obligations.MatrixLoadWritesAndEnds := ⟨loaderBurstWrites_holds, matrixLoadEnds_holds⟩

end Sys2Proof.Proofs
end

section
/-! SUPPORT. Bytes to the host (O47): a write of image bytes with the confirming read behind the last one, and the end of each kind of
transfer to the host. -/

namespace Sys2Proof.Machine

/-! ## A write of image bytes (R169) -/

/-- The confirming read is issued, and the transfer waits for it (R169). -/
theorem Part.confirm_eq {p : Part} (hmem : p.xu.memRequests = true) (r : Running) : p.confirm r =
    (p.modXu fun x => { x with lane := some { r with confirming := true } }).issue
      (.hostRead (r.bulk.host + BitVec.ofNat 64 (r.bulk.length - 64)) 64) := by
  simp [Part.confirm, Part.laneRead, Part.hostRead, hmem]

/-- Image bytes go to the next place of the buffer, and behind the last of them the confirming read (R169). -/
theorem Part.issueImage_sent {p : Part} (hmem : p.xu.memRequests = true) (r : Running) (bytes : List Byte) :
    (p.issueImage r bytes).issued = p.issued ++ [.hostWrite (r.bulk.host + BitVec.ofNat 64 r.moved) bytes] ++
        (if r.moved + bytes.length = r.total then
          [.hostRead (r.bulk.host + BitVec.ofNat 64 (r.bulk.length - 64)) 64] else []) ∧
      (p.issueImage r bytes).xu = { p.xu with lane := some { r with
        moved := r.moved + bytes.length
        confirming := decide (r.confirming = true ∨ r.moved + bytes.length = r.total) } } ∧
      (p.issueImage r bytes).sameBut p [.xu, .issued] := by
  set r' : Running := { r with moved := r.moved + bytes.length }
  set q := (p.hostWrite (r.bulk.host + BitVec.ofNat 64 r.moved) bytes).modXu fun x => { x with lane := some r' } with hq
  have himage : p.issueImage r bytes = if r.moved + bytes.length = r.total then q.confirm r' else q := rfl
  have hissued : q.issued = p.issued ++ [.hostWrite (r.bulk.host + BitVec.ofNat 64 r.moved) bytes] := by
    simp [hq, Part.hostWrite_issued, hmem]
  have hsame : q.sameBut p [.xu, .issued] := by simp [Part.sameBut_iff, hq]
  by_cases hlast : r.moved + bytes.length = r.total
  · rw [himage, if_pos hlast, if_pos hlast, Part.confirm_eq (by simp [hq, hmem]), ← hissued]
    exact ⟨rfl, by simp [hq, hlast, r'], Part.sameBut.trans (by simp [Part.sameBut_iff]) hsame (l := [.xu, .issued]) (by simp)⟩
  · rw [himage, if_neg hlast, if_neg hlast, hissued]
    exact ⟨by simp, by simp [hq, hlast, r'], hsame⟩

/-- The bytes that a store read returns (R87). -/
theorem Part.storeBytes_getD (p : Part) (offset count : Nat) : (p.storeBytes offset count).length = count ∧
    ∀ k < count, (p.storeBytes offset count).getD k 0 = p.storeByte (offset + k) :=
  ⟨by simp [Part.storeBytes], fun _ hk => getD_map_range _ hk 0⟩

/-- A request for image bytes that the transfer has left to issue is served (R88, R190). -/
theorem Part.hostWriteRequest_eq {p : Part} {r : Running} {length : Nat} {bytes : List Byte} (hlane : p.xu.lane = some r)
    (hconfirming : r.confirming = false) (hlength : 0 < length) (hle : r.moved + length ≤ r.total)
    (hbytes : p.nextImageBytes r length = some bytes) : p.hostWriteRequest length = p.issueImage r bytes := by
  simp [Part.hostWriteRequest, hlane, hconfirming, hlength.ne', Nat.not_lt.mpr hle, hbytes]

/-! ## The end of a transfer to the host (R87, R88, R169, R192) -/

/-- What a transfer to the host leaves when its confirming read has completed: the lane is empty, and its order finishes with
nothing remaining. -/
theorem Part.endLane_confirmed {p q : Part} {r : Running} {res : OrderResult} {owner : Block} (hq : q.sameBut p [owner])
    (howner : owner = .mxs ∨ owner = .sns) (hmoved : r.moved = r.total) (hres : res.d4 = 0) :
    (q.endLane r res).xu = { p.xu with lane := none } ∧ orderFinished p (q.endLane r res) (headOf r.bulk.order) res ∧
      (q.endLane r res).sameBut p [owner, .xu, .tlu, .issued] := by
  have hblock (b : Block) (hb : b = .xu ∨ b = .tlu ∨ b = .issued) : q.agrees p b :=
    hq b (by rcases howner with rfl | rfl <;> rcases hb with rfl | rfl | rfl <;> decide)
  have hxu : q.xu = p.xu := hblock .xu (by simp)
  refine ⟨by rw [Part.endLane_xu, hxu], ?_, ?_⟩
  · exact Part.endLane_finished (by rw [hxu]; exact ⟨rfl, rfl, rfl⟩) (hblock .tlu (by simp)) (hblock .issued (by simp)) hmoved hres
  · exact ((q.endLane_sameBut r res).mono (by simp)).trans (hq.mono (by simp)) (l := [owner, .xu, .tlu, .issued]) (fun _ => id)

theorem exec_confirmed {s : State} {r : Running} (hlane : s.part.xu.lane = some r) (hconfirming : r.confirming = true) :
    exec .confirmingReadCompletion s = .next { s with part := s.part.endToHost r } := by
  have hends : s.part.confirmingReadCompletion = s.part.endToHost r := by
    simp [Part.confirmingReadCompletion, hlane, hconfirming]
  rw [← hends]
  rfl

end Sys2Proof.Machine

namespace Sys2Proof.Proofs

open Sys2Proof.Machine

/-- Image bytes leave for the host (O47's first part). -/
theorem imageBytesLeave_holds : imageBytesLeave := by
  intro s r hlane hmem p sent
  refine ⟨fun offset count more hbursts => ?_, fun offset count more hbursts => ?_,
    fun length table shadow hop hconfirming hlength hle htotal => ?_, fun length hop hconfirming hlength hle => ?_⟩
  · set q := p.modMxs Mxs.dropBurst with hq
    have hreads : p.readerBurstComplete = q.issueImage r (q.storeBytes offset count) := by
      simp [Part.readerBurstComplete, hbursts, hq, show p.xu.lane = some r from hlane]
    obtain ⟨hcount, hbyte⟩ := q.storeBytes_getD offset count
    obtain ⟨hissued, hxu, hsame⟩ := Part.issueImage_sent (p := q) hmem r (q.storeBytes offset count)
    have hexec : exec .readerBurstComplete s = .next { s with part := p.readerBurstComplete } := rfl
    rw [hreads] at hexec
    exact ⟨_, _, hexec, rfl, hcount, hbyte, ⟨hissued, hxu⟩,
      (hsame .mxs (by decide)).trans (by simp [hq, Mxs.dropBurst, hbursts]),
      (hsame.mono (by simp)).trans (l := [.mxs, .xu, .issued]) (by simp [Part.sameBut_iff, hq]) (by simp)⟩
  · have hdrops : p.readerBurstComplete = p.modMxs Mxs.dropBurst := by simp [Part.readerBurstComplete, hbursts]
    have hexec : exec .readerBurstComplete s = .next { s with part := p.readerBurstComplete } := rfl
    rw [hdrops] at hexec
    exact ⟨_, hexec, rfl, by simp [Mxs.dropBurst, hbursts], by simp [Part.sameBut_iff]⟩
  · have hbytes : p.nextImageBytes r length = some ((p.mxs.tableImage.drop r.moved).take length) := by
      simp [Part.nextImageBytes, hop]
    have hexec : exec (.hostWriteRequest length) s = .next { s with part := p.hostWriteRequest length } := rfl
    rw [Part.hostWriteRequest_eq hlane hconfirming hlength hle hbytes] at hexec
    obtain ⟨hissued, hxu, hsame⟩ := Part.issueImage_sent hmem r ((p.mxs.tableImage.drop r.moved).take length)
    refine ⟨_, _, hexec, rfl, ?_, fun k hk => ?_, ⟨hissued, hxu⟩, hsame⟩
    · rw [List.length_take, List.length_drop, ← htotal]
      omega
    · simp [List.getD_eq_getElem?_getD, List.getElem?_drop, hk]
  · have hbytes : p.nextImageBytes r length = some (p.sns.imageBytes r.moved length) := by simp [Part.nextImageBytes, hop]
    have hexec : exec (.hostWriteRequest length) s = .next { s with part := p.hostWriteRequest length } := rfl
    rw [Part.hostWriteRequest_eq hlane hconfirming hlength hle hbytes] at hexec
    obtain ⟨hissued, hxu, hsame⟩ := Part.issueImage_sent hmem r (p.sns.imageBytes r.moved length)
    exact ⟨_, _, hexec, rfl, by simp, fun k hk => getD_map_range _ hk 0, ⟨hissued, hxu⟩, hsame⟩

/-- The confirming read's completion (O47's second part). -/
theorem confirmingReadEnds_holds : confirmingReadEnds := by
  intro s r hlane hconfirming hmoved p
  have hexec := exec_confirmed hlane hconfirming
  refine ⟨fun k first columns hop => ?_, fun table shadow hop => ?_, fun hop => ?_⟩
  · rw [Part.endToHost, hop] at hexec
    obtain ⟨hxu, hfinished, hsame⟩ := Part.endLane_confirmed (p := p) (q := p.modMxs fun x => { x with readback := none }) (r := r)
      (owner := .mxs) (res := { OrderResult.done with d1 := BitVec.ofNat 32 r.total }) (by simp [Part.sameBut_iff]) (.inl rfl)
      hmoved rfl
    exact ⟨_, hexec, rfl, by simp [p], hxu, hfinished, hsame⟩
  · rw [Part.endToHost, hop] at hexec
    obtain ⟨hxu, hfinished, hsame⟩ := Part.endLane_confirmed (p := p) (q := p.modMxs fun x => { x with tableImage := [] }) (r := r)
      (owner := .mxs) (res := { OrderResult.done with d1 := BitVec.ofNat 32 (tableDetail table r.total) })
      (by simp [Part.sameBut_iff]) (.inl rfl) hmoved rfl
    have hdetail : tableDetail table r.total = if table = .pairs then r.total / 6 else r.total := by cases table <;> rfl
    rw [hdetail] at hfinished
    exact ⟨_, hexec, rfl, by simp [p], hxu, hdetail ▸ hfinished, hsame⟩
  · rw [Part.endToHost, hop] at hexec
    have hframe : BitVec.ofNat 32 p.sns.frame.toNat = p.sns.frame.setWidth 32 := BitVec.ofNat_toNat _ _
    obtain ⟨hxu, hfinished, hsame⟩ := Part.endLane_confirmed (p := p) (q := p.modSns fun x =>
        { x with
          copying := false
          renewed := false
          filled := x.renewed
          overwritten := if x.renewed then x.overwritten else 0 }) (r := r) (owner := .sns)
      (res := { OrderResult.done with renewed := p.sns.renewed, d1 := p.sns.frame.setWidth 32 })
      (by simp [Part.sameBut_iff]) (.inr rfl) hmoved rfl
    exact ⟨_, hexec, rfl, by simp [Part.endCopy, p], hxu, hframe ▸ hfinished, hsame⟩

/-- Settles O47: the writes of image bytes, and the confirming read. -/
theorem bytesToTheHost : Obligations.BytesToTheHost := ⟨imageBytesLeave_holds, confirmingReadEnds_holds⟩

end Sys2Proof.Proofs
end

section
/-! SUPPORT. The exchange starts and stops (O5): orders that finish one after the other, and the steps of a stop in their order. -/

namespace Sys2Proof.Machine

/-! ## Orders that finish one after the other (R163) -/

/-- The orders of a list finish one after the other. -/
def Part.finishAll (l : List (OrderRef × OrderResult)) (p : Part) : Part := l.foldl (fun q x => q.finish x.1 x.2) p

theorem Part.finishAll_append (l l' : List (OrderRef × OrderResult)) (p : Part) :
    p.finishAll (l ++ l') = (p.finishAll l).finishAll l' := List.foldl_append

theorem Part.finishAll_finished (l : List (OrderRef × OrderResult)) (p : Part) : ordersFinished l p (p.finishAll l) := by
  induction l generalizing p with
  | nil => rfl
  | cons x rest ih => exact ⟨p.finish x.1 x.2, p.finish_orderFinished _ _, p.finish_sameBut _ _, ih _⟩

/-- The parts q and m report alike: they agree in the TLU and in what is issued, and place results alike. -/
structure Part.ReportsAlike (q m : Part) : Prop where
  tlu : q.tlu = m.tlu
  issued : q.issued = m.issued
  xu : q.xu.ReportsAs m.xu

theorem Part.ReportsAlike.finish {q m : Part} (h : q.ReportsAlike m) (ref : OrderRef) (r : OrderResult) :
    (q.finish ref r).ReportsAlike (m.finish ref r) := by
  obtain ⟨hqt, hqi⟩ := orderFinished_of_reports h.tlu h.issued h.xu (q.finish_orderFinished ref r)
  obtain ⟨hmt, hmi⟩ := m.finish_orderFinished ref r
  exact ⟨hqt.trans hmt.symm, hqi.trans hmi.symm, by simpa using h.xu⟩

/-- What an operation does to blocks that results do not rest on leaves two parts reporting alike. -/
theorem Part.ReportsAlike.of_same {q q' m : Part} (h : q.ReportsAlike m) (htlu : q'.tlu = q.tlu) (hissued : q'.issued = q.issued)
    (hxu : q'.xu.ReportsAs q.xu) : q'.ReportsAlike m :=
  ⟨htlu.trans h.tlu, hissued.trans h.issued, hxu.base.trans h.xu.base, hxu.mem.trans h.xu.mem, hxu.msi.trans h.xu.msi⟩

/-! ## The steps of a stop (R172) -/

/-- FAILED EXCHANGE_STOPPED with the bytes remaining, as the statement names it. -/
def stoppedResult (remaining : Nat) : OrderResult :=
  { OrderResult.done with reason := some .exchangeStopped, d4 := BitVec.ofNat 32 remaining }

theorem stoppedOrders_eq (p : Part) : stoppedOrders p =
    (p.xu.lane.toList.map fun r => (r.bulk.order, stoppedResult r.remaining)) ++
      (p.xu.queue.map fun b => (b.order, stoppedResult b.length)) ++
      (p.mxs.pendingSwap.toList.map fun w => (w.order, stoppedResult 0)) ++
      ((p.mlt.get 0).probe.toList.map fun x => (x.order, stoppedResult 0)) ++
      ((p.mlt.get 1).probe.toList.map fun x => (x.order, stoppedResult 0)) := rfl

/-- The running transfer's order finishes, if there is one (R172, step 2). -/
theorem Part.ReportsAlike.stopLane {q m : Part} (h : q.ReportsAlike m) : q.stopLane.ReportsAlike
    (m.finishAll (q.xu.lane.toList.map fun r => (r.bulk.order, stoppedResult r.remaining))) := by
  unfold Part.stopLane
  cases q.xu.lane with
  | none => exact h
  | some r =>
    have hxu : (q.dropWork r.bulk.op).xu = q.xu := by simp
    have hdropped : (q.dropWork r.bulk.op).ReportsAlike m := h.of_same (by simp) (by simp) (hxu ▸ ⟨rfl, rfl, rfl⟩)
    dsimp only
    rw [Part.endEarly_eq]
    exact (hdropped.finish r.bulk.order (stoppedResult r.remaining)).of_same rfl rfl ⟨rfl, rfl, rfl⟩

/-- The queued orders finish in queue order (R172, step 3). -/
theorem Part.ReportsAlike.stopQueue {q m : Part} (h : q.ReportsAlike m) :
    q.stopQueue.ReportsAlike (m.finishAll (q.xu.queue.map fun b => (b.order, stoppedResult b.length))) := by
  have hstart : (q.modXu fun x => { x with queue := [] }).ReportsAlike m := h.of_same rfl rfl ⟨rfl, rfl, rfl⟩
  unfold Part.stopQueue
  generalize q.xu.queue = queue
  generalize q.modXu _ = start at hstart
  clear h
  induction queue generalizing start m with
  | nil => exact hstart
  | cons b rest ih => exact ih _ (hstart.finish b.order (stoppedResult b.length))

/-- The pending swap's order finishes, if there is one (R85; R172, step 4). -/
theorem Part.ReportsAlike.cancelSwap {q m : Part} (h : q.ReportsAlike m) : (q.cancelSwap .exchangeStopped).ReportsAlike
    (m.finishAll (q.mxs.pendingSwap.toList.map fun w => (w.order, stoppedResult 0))) := by
  unfold Part.cancelSwap
  cases q.mxs.pendingSwap with
  | none => exact h
  | some w => exact (h.of_same (q' := q.dropSwap) rfl rfl ⟨rfl, rfl, rfl⟩).finish w.order (stoppedResult 0)

/-- The pending probe of a link finishes, if there is one (R146; R172, step 4). -/
theorem Part.ReportsAlike.endProbe {q m : Part} (h : q.ReportsAlike m) (k : MirrorIx) :
    (q.endProbe k (.failed .exchangeStopped)).ReportsAlike
      (m.finishAll ((q.mlt.get k).probe.toList.map fun x => (x.order, stoppedResult 0))) := by
  unfold Part.endProbe
  cases (q.mlt.get k).probe with
  | none => exact h
  | some x => exact (h.of_same (q' := q.modMirror k _) rfl rfl ⟨rfl, rfl, rfl⟩).finish x.order (stoppedResult 0)

/-! ## What a stop leaves in each block (R172) -/

/-- A mirror link after an exchange stop: a pending probe is gone with its timer, and its QUERY belongs to none (R146). -/
def MirrorLink.probeStopped (l : MirrorLink) : MirrorLink :=
  match l.probe with
  | none => l
  | some _ => { l with probe := none, timer := none, tx := l.tx.map TxPacket.forget }

theorem MirrorLink.probeStopped_probe (l : MirrorLink) : l.probeStopped.probe = none := by
  unfold MirrorLink.probeStopped
  split
  · assumption
  · rfl

theorem Part.endProbe_mlt (m k : MirrorIx) (r : OrderResult) (p : Part) :
    (p.endProbe m r).mlt.get k = if k = m then (p.mlt.get k).probeStopped else p.mlt.get k := by
  unfold Part.endProbe
  split
  · rename_i hnone
    split
    · next hk => subst hk; simp [MirrorLink.probeStopped, hnone]
    · rfl
  · rename_i x hsome
    rw [(Part.finish_sameBut _ _ _ .mlt (by decide) : (Part.finish _ _ _).mlt = _)]
    split
    · next hk => subst hk; simp [MirrorLink.probeStopped, hsome]
    · next hk => exact Part.modMirror_get_other _ _ _ _ hk

theorem Part.stopProbes_mlt (k : MirrorIx) (p : Part) : p.stopProbes.mlt.get k = (p.mlt.get k).probeStopped := by
  rw [Part.stopProbes, Part.endProbe_mlt, Part.endProbe_mlt]
  match k with
  | 0 | 1 => rfl

/-- A cancelled swap is gone from the store, which is otherwise as it was (R85). -/
theorem Part.cancelSwap_mxs (r : Reason) (p : Part) : (p.cancelSwap r).mxs = { p.mxs with pendingSwap := none } := by
  unfold Part.cancelSwap
  split
  · next hnone => rw [← hnone]
  · simp [Part.dropSwap]

theorem Part.stopQueue_xu (p : Part) : p.stopQueue.xu = { p.xu with queue := [] } :=
  (foldl_view Part.xu _ (by simp) _ _).trans rfl

/-- The part with the running transfer's work dropped, as at any early end (R172, step 2). -/
def Part.laneDropped (p : Part) : Part :=
  match p.xu.lane with
  | none => p
  | some r => p.dropWork r.bulk.op

theorem Part.laneDropped_none {p : Part} (h : p.xu.lane = none) : p.laneDropped = p := by simp [Part.laneDropped, h]

theorem Part.laneDropped_some {p : Part} {r : Running} (h : p.xu.lane = some r) : p.laneDropped = p.dropWork r.bulk.op := by
  simp [Part.laneDropped, h]

theorem Part.laneDropped_pendingSwap (p : Part) : p.laneDropped.mxs.pendingSwap = p.mxs.pendingSwap := by
  cases hlane : p.xu.lane with
  | none => rw [Part.laneDropped_none hlane]
  | some r => rw [Part.laneDropped_some hlane]; cases r.bulk.op <;> rfl

theorem Part.stopLane_sameBut (p : Part) : p.stopLane.sameBut p.laneDropped [.xu, .tlu, .issued] := by
  cases hlane : p.xu.lane with
  | none => simp [Part.sameBut_iff, Part.laneDropped_none hlane, Part.stopLane, hlane]
  | some r => simp [Part.sameBut_iff, Part.laneDropped_some hlane, Part.stopLane, hlane, Part.endEarly]

theorem Part.stopLane_xu (p : Part) : p.stopLane.xu = { p.xu with lane := none } := by
  unfold Part.stopLane
  split
  · next hnone => rw [← hnone]
  · simp [Part.endEarly_eq]

/-- The end of the sweep does not reach the running transfer's work. -/
theorem Part.laneDropped_sweep (p : Part) : (p.modXu fun x => { x with sweeping := false }).laneDropped =
    p.laneDropped.modXu fun x => { x with sweeping := false } := by
  cases hlane : p.xu.lane with
  | none =>
    rw [Part.laneDropped_none hlane]
    exact Part.laneDropped_none hlane
  | some r =>
    rw [Part.laneDropped_some hlane, ← Part.dropWork_modXu]
    exact Part.laneDropped_some hlane

/-- The part after the orders in flight have finished, with the sweep ended: all of a stop but its status block (R172). -/
def Part.ordersStopped (p : Part) : Part :=
  ((((p.modXu fun x => { x with sweeping := false }).stopLane).stopQueue).cancelSwap .exchangeStopped).stopProbes

theorem Part.stopExchange_eq (p : Part) : p.stopExchange =
    p.ordersStopped.writeStatus.modXu fun x => { x with exchEn := false, sweepTimer := none } := rfl

theorem Part.ordersStopped_xu (p : Part) : p.ordersStopped.xu = { p.xu with sweeping := false, lane := none, queue := [] } := by
  simp [Part.ordersStopped, Part.stopQueue_xu, Part.stopLane_xu]

/-- The lane's work is dropped and the pending swap is gone; nothing else of the blocks that hold transfers changes. -/
theorem Part.ordersStopped_work (p : Part) : p.ordersStopped.scn = p.laneDropped.scn ∧ p.ordersStopped.lpc = p.laneDropped.lpc ∧
    p.ordersStopped.sns = p.laneDropped.sns ∧ p.ordersStopped.mxs = { p.laneDropped.mxs with pendingSwap := none } := by
  have hlane := (p.modXu fun x => { x with sweeping := false }).stopLane_sameBut
  rw [Part.laneDropped_sweep] at hlane
  have hscn : (p.modXu _).stopLane.scn = p.laneDropped.scn := hlane .scn (by decide)
  have hlpc : (p.modXu _).stopLane.lpc = p.laneDropped.lpc := hlane .lpc (by decide)
  have hsns : (p.modXu _).stopLane.sns = p.laneDropped.sns := hlane .sns (by decide)
  have hmxs : (p.modXu _).stopLane.mxs = p.laneDropped.mxs := hlane .mxs (by decide)
  simp [Part.ordersStopped, Part.cancelSwap_mxs, hscn, hlpc, hsns, hmxs]

theorem Part.ordersStopped_mlt (k : MirrorIx) (p : Part) : p.ordersStopped.mlt.get k = (p.mlt.get k).probeStopped := by
  rw [Part.ordersStopped, Part.stopProbes_mlt]
  simp

/-- Each order in flight has finished, in the order that the statement gives (R172; log entry 37). -/
theorem Part.ordersStopped_reports (p : Part) : p.ordersStopped.ReportsAlike (p.finishAll (stoppedOrders p)) := by
  have hsweep : (p.modXu fun x => { x with sweeping := false }).ReportsAlike p := ⟨rfl, rfl, ⟨rfl, rfl, rfl⟩⟩
  set q := p.modXu fun x => { x with sweeping := false } with hq
  have hqueue : q.stopLane.xu.queue = p.xu.queue := by rw [Part.stopLane_xu]; rfl
  have hswap : q.stopLane.stopQueue.mxs.pendingSwap = p.mxs.pendingSwap := by
    have hmxs : q.stopLane.mxs = q.laneDropped.mxs := q.stopLane_sameBut .mxs (by decide)
    have hqueued : q.stopLane.stopQueue.mxs = q.stopLane.mxs := by simp
    rw [hqueued, hmxs, Part.laneDropped_pendingSwap]
    rfl
  have h := hsweep.stopLane.stopQueue.cancelSwap
  rw [hqueue, hswap] at h
  have hprobes := (h.endProbe 0).endProbe 1
  rw [Part.endProbe_mlt, if_neg (by decide)] at hprobes
  rw [stoppedOrders_eq, Part.finishAll_append, Part.finishAll_append, Part.finishAll_append, Part.finishAll_append]
  simpa [Part.ordersStopped, Part.stopProbes, hq] using hprobes

/-- The status block is written into the exchange area (R161, R162). -/
theorem Part.writeStatus_issued (p : Part) : p.writeStatus.issued = p.issued ++ (if p.xu.memRequests then
    [.hostWrite p.area p.summaryBytes, .hostWrite (p.area + 0x200) p.counterBytes] else []) := by
  cases h : p.xu.memRequests <;> simp [Part.writeStatus, Part.hostWrite_issued, h]

/-- With no order at any block that holds one, none is in flight (R155). -/
theorem Part.inFlight_eq_nil {p : Part} (hswap : p.mxs.pendingSwap = none) (hprobe : ∀ k, (p.mlt.get k).probe = none)
    (hlane : p.xu.lane = none) (hqueue : p.xu.queue = []) : p.inFlight = [] := by
  have h0 : p.mlt.t0.probe = none := hprobe 0
  have h1 : p.mlt.t1.probe = none := hprobe 1
  simp [Part.inFlight, Xu.bulkOrders, hswap, h0, h1, hlane, hqueue]

end Sys2Proof.Machine

namespace Sys2Proof.Proofs

open Sys2Proof.Machine

/-- The exchange starts (O5's first part). -/
theorem exchangeStarts_holds : exchangeStarts := by
  intro s
  have hexec : exec .exchEnStart s = .next { s with part := s.part.controlWrite true false } := rfl
  refine ⟨fun hrunning => ?_, fun hstopped => ?_⟩
  · rw [hexec, show s.part.controlWrite true false = s.part by simp [Part.controlWrite, hrunning]]
  · rw [show s.part.controlWrite true false = s.part.startExchange by simp [Part.controlWrite, hstopped]] at hexec
    exact ⟨_, hexec, rfl, rfl, rfl, by simp [Part.sameBut_iff]⟩

/-- The exchange stops (O5's second part). -/
theorem exchangeStops_holds : exchangeStops := by
  intro s
  have hexec : exec .exchEnStop s = .next { s with part := s.part.controlWrite false false } := rfl
  refine ⟨fun hstopped => ?_, fun hrunning => ?_⟩
  · rw [hexec, show s.part.controlWrite false false = s.part by simp [Part.controlWrite, hstopped]]
  · rw [show s.part.controlWrite false false = s.part.stopExchange by simp [Part.controlWrite, hrunning]] at hexec
    set p := s.part
    set last := p.ordersStopped
    have ht : p.stopExchange = last.writeStatus.modXu _ := p.stopExchange_eq
    have hxu : last.xu = { p.xu with sweeping := false, lane := none, queue := [] } := p.ordersStopped_xu
    have hreports := p.ordersStopped_reports
    obtain ⟨hscn, hlpc, hsns, hmxs⟩ := p.ordersStopped_work
    have hsame : p.stopExchange.sameBut last [.xu, .issued] := by rw [ht]; simp [Part.sameBut_iff]
    have hstopped : p.stopExchange.xu =
        { p.xu with exchEn := false, sweepTimer := none, sweeping := false, lane := none, queue := [] } := by
      rw [ht]
      simp [hxu]
    have hswap : p.stopExchange.mxs = { p.laneDropped.mxs with pendingSwap := none } := (hsame .mxs (by decide)).trans hmxs
    have hmlt (k : MirrorIx) : p.stopExchange.mlt.get k = (p.mlt.get k).probeStopped := by
      rw [show p.stopExchange.mlt = last.mlt from hsame .mlt (by decide)]
      exact p.ordersStopped_mlt k
    refine ⟨_, p.finishAll (stoppedOrders p), last, hexec, rfl, hstopped, ?_, p.finishAll_finished _,
      (hsame .tlu (by decide)).trans hreports.tlu, ?_, ?_, ?_, ⟨p.laneDropped, Part.laneDropped_none, fun r hlane => ?_,
        (hsame .scn (by decide)).trans hscn, (hsame .lpc (by decide)).trans hlpc, (hsame .sns (by decide)).trans hsns, hswap⟩,
      fun k => ?_, by simp [Part.sameBut_iff]⟩
    · exact Part.inFlight_eq_nil (by rw [hswap]) (fun k => by rw [hmlt]; exact MirrorLink.probeStopped_probe _)
        (by rw [hstopped]) (by rw [hstopped])
    · have harea : last.area = p.area := by simp [Part.area, hxu]
      rw [← hreports.issued, ← harea, ht, Part.modXu_issued, Part.writeStatus_issued, hxu]
    · rw [ht]
      simp [Part.sameBut_iff]
    · rw [hstopped, hxu]
      simp [hrunning]
    · rw [Part.laneDropped_some hlane]
      exact Part.dropWork_dropped _ _
    · rw [hmlt, MirrorLink.probeStopped]
      cases (p.mlt.get k).probe <;> rfl

/-- Settles O5: the two writes of EXCH_EN, and the orders that a stop finishes. -/
theorem exchangeStartsAndStops : Obligations.ExchangeStartsAndStops := ⟨exchangeStarts_holds, exchangeStops_holds⟩

end Sys2Proof.Proofs
end

section
/-! SUPPORT. The integrator step (O24) and shaping (O25): one actuator, one pair of the neighbour pass, and what the final clamp
leaves. -/

namespace Sys2Proof.Machine

/-! ## The integrator step of one actuator (R113) -/

/-- A quotient by 32,768, rounded half up. -/
theorem roundShift_fifteen (x : Int) :
    32768 * roundShift 15 x ≤ x + 16384 ∧ x + 16384 < 32768 * (roundShift 15 x + 1) := by
  have h : roundShift 15 x = (x + 16384) / 32768 := rfl
  omega

theorem integrate_inactive {l : Limits} (h : l.active = false) (u : Nat) (e : Int) (leak gain : Nat) :
    integrate l u e leak gain = l.flatFine ∧ integrateClamps l u e leak gain = false := by
  simp [integrate, integrateClamps, h]

/-- An active actuator takes the sum, brought within its limits; it counts where that changes the sum (R113). -/
theorem integrate_active {l : Limits} (h : l.active = true) (hle : l.lo.toNat ≤ l.hi.toNat) (u : Nat) (e : Int)
    (leak gain : Nat) :
    let z := integrated l u e leak gain
    ((l.loFine : Int) ≤ z → z ≤ l.hiFine → (integrate l u e leak gain : Int) = z ∧ integrateClamps l u e leak gain = false) ∧
    (z < l.loFine → integrate l u e leak gain = l.loFine ∧ integrateClamps l u e leak gain = true) ∧
    (l.hiFine < z → integrate l u e leak gain = l.hiFine ∧ integrateClamps l u e leak gain = true) := by
  have hfine : (l.loFine : Int) ≤ l.hiFine := Int.ofNat_le.mpr (Nat.mul_le_mul_left 256 hle)
  have hv : integrate l u e leak gain = (saturate l.loFine l.hiFine (integrated l u e leak gain)).toNat := if_pos h
  have hc : integrateClamps l u e leak gain = true ↔
      saturate l.loFine l.hiFine (integrated l u e leak gain) ≠ integrated l u e leak gain := by simp [integrateClamps, h]
  dsimp only
  rw [← Bool.not_eq_true, hc, hv]
  rcases saturate_cases hfine (integrated l u e leak gain) with ⟨hs, hlo, hhi⟩ | ⟨hs, hhi⟩ | ⟨hs, hlo⟩ <;> rw [hs] <;> omega

/-! ## One pair of the neighbour pass (R116) -/

/-- How far two codes are beyond their pair's allowed difference. -/
def PassState.excess (s : PassState) (x : ActuatorPair) : Nat :=
  max (s.codes.getD x.p 0) (s.codes.getD x.r 0) - min (s.codes.getD x.p 0) (s.codes.getD x.r 0) - x.d

/-- The pass leaves a pair as it is: beyond the actuators, of two inactive ones, or within its difference (R116). -/
def PassState.skips (t : Sparse Limits) (a : Nat) (s : PassState) (x : ActuatorPair) : Prop :=
  a ≤ x.p ∨ a ≤ x.r ∨ ((Sparse.get Limits.powerOn t x.p).active = false ∧ (Sparse.get Limits.powerOn t x.r).active = false) ∨
    s.excess x = 0

theorem passPair_skipped {t : Sparse Limits} {a : Nat} {s : PassState} {x : ActuatorPair} (h : s.skips t a x) :
    passPair t a s x = s := by
  refine if_pos ?_
  simpa [PassState.skips, PassState.excess, or_assoc] using h

/-- The actuator of the larger code of a pair is i, that of the smaller one j. -/
def PassState.ranks (s : PassState) (x : ActuatorPair) (i j : Nat) : Prop :=
  (i = x.p ∧ j = x.r ∧ s.codes.getD j 0 ≤ s.codes.getD i 0) ∨ (i = x.r ∧ j = x.p ∧ s.codes.getD j 0 < s.codes.getD i 0)

/-- By how much the larger code of an adjusted pair falls (R116). -/
def PassState.fall (t : Sparse Limits) (s : PassState) (x : ActuatorPair) (i j : Nat) : Nat :=
  if (Sparse.get Limits.powerOn t i).active && (Sparse.get Limits.powerOn t j).active then (s.excess x + 1) / 2
  else if (Sparse.get Limits.powerOn t i).active then s.excess x else 0

theorem passPair_eq {t : Sparse Limits} {a : Nat} {s : PassState} {x : ActuatorPair} (h : ¬ s.skips t a x) {i j : Nat}
    (hij : s.ranks x i j) : passPair t a s x =
      ⟨(s.codes.set i (s.codes.getD i 0 - s.fall t x i j)).set j (s.codes.getD j 0 + (s.excess x - s.fall t x i j)),
        s.adjusted + 1⟩ := by
  refine (if_neg (by simpa [PassState.skips, PassState.excess, or_assoc] using h)).trans ?_
  rcases hij with ⟨rfl, rfl, hle⟩ | ⟨rfl, rfl, hlt⟩
  · simp only [hle, if_true, PassState.fall, PassState.excess, max_eq_left, min_eq_right]
  · simp only [Nat.not_le.mpr hlt, if_false, PassState.fall, PassState.excess, max_eq_right hlt.le, min_eq_left hlt.le,
      Bool.and_comm]

theorem getD_set {α : Type} (l : List α) (i j : Nat) (v d : α) (h : i < l.length) :
    (l.set i v).getD j d = if j = i then v else l.getD j d := by
  by_cases hj : j = i
  · simp [hj, List.getD_eq_getElem?_getD, h]
  · simp [hj, List.getD_eq_getElem?_getD, List.getElem?_set_ne (Ne.symm hj)]

/-- An adjusted pair counts, and its two codes alone move: the larger falls by a part of the excess and the smaller rises by the
rest; the part is half of it, rounded up, for two active actuators, and an inactive one does not move (R116). -/
theorem passPair_adjusted {t : Sparse Limits} {a : Nat} {s : PassState} {x : ActuatorPair} (hlen : s.codes.length = a)
    (h : ¬ s.skips t a x) {i j : Nat} (hij : s.ranks x i j) :
    let act (n : Nat) := (Sparse.get Limits.powerOn t n).active
    let q (n : Nat) := s.codes.getD n 0
    let q' (n : Nat) := (passPair t a s x).codes.getD n 0
    q i = q j + x.d + s.excess x ∧ 0 < s.excess x ∧ (∀ n, n ≠ i → n ≠ j → q' n = q n) ∧
    ∃ fall ≤ s.excess x, q' i = q i - fall ∧ q' j = q j + (s.excess x - fall) ∧
      (act i = true → act j = true → fall = (s.excess x + 1) / 2) ∧
      (act i = false → fall = 0) ∧ (act j = false → fall = s.excess x) := by
  have hpass := passPair_eq h hij
  simp only [PassState.skips, not_or, not_le, not_and_or, Bool.not_eq_false] at h
  obtain ⟨hp, hr, hact, hexcess⟩ := h
  have hq : s.codes.getD i 0 = s.codes.getD j 0 + x.d + s.excess x := by
    rcases hij with ⟨rfl, rfl, hle⟩ | ⟨rfl, rfl, hlt⟩ <;> unfold PassState.excess at hexcess ⊢ <;> omega
  have hi : i < s.codes.length := by rcases hij with ⟨rfl, -⟩ | ⟨rfl, -⟩ <;> omega
  have hj : j < s.codes.length := by rcases hij with ⟨-, rfl, -⟩ | ⟨-, rfl, -⟩ <;> omega
  have hne : i ≠ j := fun he => by rw [he] at hq; omega
  have hactive : (Sparse.get Limits.powerOn t i).active = true ∨ (Sparse.get Limits.powerOn t j).active = true := by
    rcases hij with ⟨rfl, rfl, -⟩ | ⟨rfl, rfl, -⟩
    · exact hact
    · exact hact.symm
  have hget (n : Nat) : (passPair t a s x).codes.getD n 0 = if n = j then s.codes.getD j 0 + (s.excess x - s.fall t x i j)
      else if n = i then s.codes.getD i 0 - s.fall t x i j else s.codes.getD n 0 := by
    rw [hpass, getD_set _ _ _ _ _ (by simpa using hj), getD_set _ _ _ _ _ hi]
  refine ⟨hq, Nat.pos_of_ne_zero hexcess, fun n hni hnj => (hget n).trans ((if_neg hnj).trans (if_neg hni)), s.fall t x i j, ?_,
    (hget i).trans ((if_neg hne).trans (if_pos rfl)), (hget j).trans (if_pos rfl), ?_⟩
  · unfold PassState.fall
    split <;> [omega; split <;> omega]
  · unfold PassState.fall
    rcases hactive with h | h <;> simp +contextual [h]

/-- Some actuator of a pair has the larger code. -/
theorem PassState.exists_ranks (s : PassState) (x : ActuatorPair) : ∃ i j, s.ranks x i j := by
  by_cases hle : s.codes.getD x.r 0 ≤ s.codes.getD x.p 0
  · exact ⟨x.p, x.r, .inl ⟨rfl, rfl, hle⟩⟩
  · exact ⟨x.r, x.p, .inr ⟨rfl, rfl, by omega⟩⟩

/-- The neighbour pass does not move an inactive actuator (R116). -/
theorem passPair_inactive {t : Sparse Limits} {a : Nat} {s : PassState} (hlen : s.codes.length = a) (x : ActuatorPair)
    {n : Nat} (hn : (Sparse.get Limits.powerOn t n).active = false) :
    (passPair t a s x).codes.getD n 0 = s.codes.getD n 0 := by
  by_cases h : s.skips t a x
  · rw [passPair_skipped h]
  · obtain ⟨i, j, hij⟩ := s.exists_ranks x
    obtain ⟨-, -, hothers, fall, hle, hi, hj, -, hfalls, hrises⟩ := passPair_adjusted hlen h hij
    by_cases hni : n = i
    · subst hni
      simpa [hfalls hn] using hi
    · by_cases hnj : n = j
      · subst hnj
        simpa [hrises hn] using hj
      · exact hothers n hni hnj

theorem neighbourPass_inactive {t : Sparse Limits} (pairs : List ActuatorPair) (codes : List Nat) {n : Nat}
    (hn : (Sparse.get Limits.powerOn t n).active = false) :
    (neighbourPass t pairs codes.length codes).codes.getD n 0 = codes.getD n 0 := by
  suffices h : ∀ s : PassState, s.codes.length = codes.length →
      (pairs.foldl (passPair t codes.length) s).codes.getD n 0 = s.codes.getD n 0 from h ⟨codes, 0⟩ rfl
  induction pairs with
  | nil => exact fun _ _ => rfl
  | cons x rest ih =>
    exact fun s hs => (ih _ ((passPair_length t codes.length s x).trans hs)).trans (passPair_inactive hs x hn)

/-! ## The final clamp and write-back (R115, R117) -/

/-- The codes as the neighbour pass leaves them, beginning at the codes of the values. -/
def passCodes (t : Sparse Limits) (pairs : List ActuatorPair) (w : List Nat) : List Nat :=
  (neighbourPass t pairs w.length (w.map codeOf)).codes

theorem passCodes_length (t : Sparse Limits) (pairs : List ActuatorPair) (w : List Nat) :
    (passCodes t pairs w).length = w.length := (neighbourPass_length _ _ _ _).trans (List.length_map _)

/-- What the final clamp makes of the code of each actuator (R117). -/
theorem shapeVector_codes (t : Sparse Limits) (pairs : List ActuatorPair) (w : List Nat) :
    (shapeVector t pairs w).codes = (List.range w.length).map fun a => finalCode t a ((passCodes t pairs w).getD a 0) := by
  rw [← passCodes_length t pairs w]
  exact map_zipIdx (fun x => finalCode t x.2 x.1) _ 0

theorem shapeVector_code {t : Sparse Limits} (pairs : List ActuatorPair) {w : List Nat} {a : Nat} (ha : a < w.length) :
    (shapeVector t pairs w).codes.getD a 0 = finalCode t a ((passCodes t pairs w).getD a 0) := by
  rw [shapeVector_codes, getD_map_range _ ha]

theorem shapeVector_codes_length (t : Sparse Limits) (pairs : List ActuatorPair) (w : List Nat) :
    (shapeVector t pairs w).codes.length = w.length := by simp [shapeVector_codes]

/-- The value of an actuator is kept, or is that of its final code (R117). -/
theorem shapeVector_value {t : Sparse Limits} (pairs : List ActuatorPair) {w : List Nat} {a : Nat} (ha : a < w.length) :
    (shapeVector t pairs w).vector.getD a 0 = writeBack (w.getD a 0) ((shapeVector t pairs w).codes.getD a 0) := by
  have hcodes : a < (shapeVector t pairs w).codes.length := by rwa [shapeVector_codes_length]
  change (List.zipWith writeBack w (shapeVector t pairs w).codes).getD a 0 = _
  simp [List.getD_eq_getElem?_getD, ha, hcodes]

/-- A code is its value's: the kept value's by the choice, and the other's by the half added (R115, R117). -/
theorem codeOf_writeBack (w final : Nat) : codeOf (writeBack w final) = final := by
  unfold writeBack
  split
  · next h => exact h.symm
  · unfold codeOf; omega

/-- The final code lies within the limits (R117). -/
theorem finalCode_within {t : Sparse Limits} (ht : orderedTable t) (a q : Nat) :
    (Sparse.get Limits.powerOn t a).lo.toNat ≤ finalCode t a q ∧ finalCode t a q ≤ (Sparse.get Limits.powerOn t a).hi.toNat := by
  obtain ⟨hlo, hhi⟩ := ht a
  exact ⟨Nat.le_max_left _ _, Nat.max_le.mpr ⟨hlo.trans hhi, Nat.min_le_left _ _⟩⟩

theorem finalCode_of_within {t : Sparse Limits} {a q : Nat} (hlo : (Sparse.get Limits.powerOn t a).lo.toNat ≤ q)
    (hhi : q ≤ (Sparse.get Limits.powerOn t a).hi.toNat) : finalCode t a q = q :=
  (congrArg (max _) (Nat.min_eq_right hhi)).trans (Nat.max_eq_right hlo)

/-- A value within the limits, or one of a whole code, ends within the limits (R117). -/
theorem writeBack_holds {l : Limits} {w final : Nat} (hlo : l.lo.toNat ≤ final) (hhi : final ≤ l.hi.toNat)
    (hw : l.holds w ∨ w % 256 = 0) : l.holds (writeBack w final) := by
  unfold writeBack
  split
  · next hkept =>
    rcases hw with hw | hw
    · exact hw
    · unfold codeOf at hkept
      unfold Limits.holds Limits.loFine Limits.hiFine
      omega
  · unfold Limits.holds Limits.loFine Limits.hiFine
    omega

/-- Shaping leaves a value within the limits that started there or at a whole code (R117). -/
theorem shapeVector_holds {t : Sparse Limits} (ht : orderedTable t) (pairs : List ActuatorPair) {w : List Nat} {a : Nat}
    (ha : a < w.length) (hw : (Sparse.get Limits.powerOn t a).holds (w.getD a 0) ∨ w.getD a 0 % 256 = 0) :
    (Sparse.get Limits.powerOn t a).holds ((shapeVector t pairs w).vector.getD a 0) := by
  rw [shapeVector_value pairs ha, shapeVector_code pairs ha]
  obtain ⟨hlo, hhi⟩ := finalCode_within ht a ((passCodes t pairs w).getD a 0)
  exact writeBack_holds hlo hhi hw

/-- An inactive actuator that starts at flat ends there (R115 to R117). -/
theorem shapeVector_flat {t : Sparse Limits} (ht : orderedTable t) (pairs : List ActuatorPair) {w : List Nat} {a : Nat}
    (ha : a < w.length) (hact : (Sparse.get Limits.powerOn t a).active = false)
    (hw : w.getD a 0 = (Sparse.get Limits.powerOn t a).flatFine) :
    (shapeVector t pairs w).vector.getD a 0 = w.getD a 0 := by
  have hflat : codeOf (w.getD a 0) = (Sparse.get Limits.powerOn t a).flat.toNat := by
    rw [hw]
    unfold codeOf Limits.flatFine
    omega
  have hpass : (passCodes t pairs w).getD a 0 = codeOf (w.getD a 0) := by
    have h := neighbourPass_inactive pairs (w.map codeOf) hact
    rw [List.length_map] at h
    refine h.trans ?_
    simp [List.getD_eq_getElem?_getD, ha]
  rw [shapeVector_value pairs ha, shapeVector_code pairs ha, hpass,
    finalCode_of_within (hflat ▸ (ht a).1) (hflat ▸ (ht a).2)]
  exact if_pos rfl

/-- A list with its indices, entry by entry. -/
theorem zipIdx_eq (l : List Nat) : l.zipIdx = (List.range l.length).map fun a => (l.getD a 0, a) :=
  (List.map_id _).symm.trans (map_zipIdx id l 0)

end Sys2Proof.Machine

namespace Sys2Proof.Proofs

open Sys2Proof.Machine

/-- Settles O24: the two quotients are those of the statement, and the sum lies within, below or above the limits. -/
theorem integratorStep : Obligations.IntegratorStep := by
  intro l u e leak gain hle
  refine ⟨integrate_inactive (u := u) (e := e) (leak := leak) (gain := gain), fun hact => ?_⟩
  obtain ⟨hv, hv'⟩ := roundShift_fifteen (((u : Int) - 256 * l.flat.toNat) * leak)
  obtain ⟨ht, ht'⟩ := roundShift_fifteen (e * gain)
  exact ⟨_, _, hv, hv', ht, ht', integrate_active hact hle u e leak gain⟩

/-- One pair of the neighbour pass (O25's first part). -/
theorem pairAdjusted_holds : pairAdjusted := by
  intro t a s x hlen hne hd act q s' q' big small skipped
  have hskips : skipped ↔ s.skips t a x := by
    have : big ≤ small + x.d ↔ s.excess x = 0 := by
      simp only [PassState.excess, big, small, q]
      omega
    simp only [skipped, PassState.skips, this, act]
  refine ⟨fun h => passPair_skipped (hskips.mp h), fun h => ?_⟩
  rw [hskips] at h
  have hlength : s'.codes.length = a := (passPair_length t a s x).trans hlen
  have hcount : s'.adjusted = s.adjusted + 1 := by
    obtain ⟨i, j, hij⟩ := s.exists_ranks x
    simp only [s', passPair_eq h hij]
  have hbig : big = max (q x.p) (q x.r) := rfl
  have hsmall : small = min (q x.p) (q x.r) := rfl
  by_cases hle : q x.r ≤ q x.p
  · obtain ⟨hq, hpos, hothers, fall, hfall, hi, hj, hboth, hp0, hr0⟩ := passPair_adjusted hlen h (.inl ⟨rfl, rfl, hle⟩)
    have hq : q x.p = q x.r + x.d + s.excess x := hq
    have hp : q' x.p = q x.p - fall := hi
    have hr : q' x.r = q x.r + (s.excess x - fall) := hj
    refine ⟨hcount, hlength, hothers, by omega, by omega, fun hap har => ?_, fun hap => ?_, fun har => ?_⟩
    · have := hboth hap har
      omega
    · have := hp0 hap
      omega
    · have := hr0 har
      omega
  · obtain ⟨hq, hpos, hothers, fall, hfall, hi, hj, hboth, hr0, hp0⟩ :=
      passPair_adjusted hlen h (.inr ⟨rfl, rfl, Nat.not_le.mp hle⟩)
    have hq : q x.r = q x.p + x.d + s.excess x := hq
    have hr : q' x.r = q x.r - fall := hi
    have hp : q' x.p = q x.p + (s.excess x - fall) := hj
    refine ⟨hcount, hlength, fun n hnp hnr => hothers n hnr hnp, by omega, by omega, fun hap har => ?_, fun hap => ?_,
      fun har => ?_⟩
    · have := hboth har hap
      omega
    · have := hp0 hap
      omega
    · have := hr0 har
      omega

/-- The passes, the final clamp and the counts (O25's second part). -/
theorem shapingPassesAndClamps_holds : shapingPassesAndClamps := by
  intro t pairs w ht l pass s
  refine ⟨passCodes_length t pairs w, fun a ha => shapeVector_code pairs ha, ?_, rfl⟩
  change (passCodes t pairs w).zipIdx.countP (fun x => finalCode t x.2 x.1 ≠ x.1) = _
  rw [zipIdx_eq, List.countP_map, passCodes_length]
  exact List.countP_congr fun a ha => by
    simp only [Function.comp_apply, decide_eq_true_eq]
    rw [← shapeVector_code pairs (List.mem_range.mp ha)]
    rfl

/-- What shaping leaves (O25's third part). -/
theorem shapingLeavesLimits_holds : shapingLeavesLimits := by
  intro t pairs w ht l s
  refine ⟨shapeVector_length t pairs w, shapeVector_codes_length t pairs w, fun a ha => ?_⟩
  have hvalue := shapeVector_value (t := t) pairs ha
  have hcode := shapeVector_code (t := t) pairs ha
  obtain ⟨hlo, hhi⟩ := finalCode_within ht a ((passCodes t pairs w).getD a 0)
  exact ⟨hcode ▸ hlo, hcode ▸ hhi, hvalue ▸ codeOf_writeBack _ _, fun hkept => hvalue.trans (if_pos hkept),
    fun hmoved => hvalue.trans (if_neg hmoved), fun hw hw' => shapeVector_holds ht pairs ha (.inl ⟨hw, hw'⟩),
    fun hact hw => shapeVector_flat ht pairs ha hact hw⟩

/-- Settles O25. -/
theorem codesShaped : Obligations.CodesShaped := ⟨pairAdjusted_holds, shapingPassesAndClamps_holds, shapingLeavesLimits_holds⟩

end Sys2Proof.Proofs
end

section
/-! SUPPORT. The law of the CLOSED loop (O53): the operations that raise events or touch the TLU and leave the debounced INTERLOCK
as it is. -/

namespace Sys2Proof.Machine

/-! ## Events, results and time -/

/-- A flag that a finished order may set (R163). -/
@[simp] theorem Tlu.interlock_ite_events (c : Prop) [Decidable c] (l : Tlu) (events : BitVec 8) :
    (if c then { l with events := events } else l).interlock = l.interlock := by split <;> rfl

@[simp] theorem Part.setLoop_interlock (st : LoopState) (p : Part) : (p.setLoop st).tlu.interlock = p.tlu.interlock := by
  rcases p.setLoop_cases st with ⟨-, h⟩ | ⟨-, h⟩ <;> simp [h]

@[simp] theorem Part.clearEvents_interlock (v : BitVec 32) (p : Part) : (p.clearEvents v).tlu.interlock = p.tlu.interlock := rfl

@[simp] theorem Part.writeMask_interlock (v : BitVec 32) (p : Part) : (p.writeMask v).tlu.interlock = p.tlu.interlock := by
  simp only [Part.writeMask]; split <;> simp

@[simp] theorem Part.timeLoRead_interlock (first count : Nat) (p : Part) :
    (p.timeLoRead first count).tlu.interlock = p.tlu.interlock := rfl

/-! ## Records and swaps (R82, R177 to R182) -/

@[simp] theorem Part.writePoint_interlock (r : TelRecord) (p : Part) : (p.writePoint r).tlu.interlock = p.tlu.interlock := by
  rcases p.writePoint_cases r with ⟨-, h⟩ | ⟨-, h⟩ <;> simp [h, Part.writeRecord, Part.dropRecord]

@[simp] theorem Part.releaseRecords_interlock (n : Nat) (p : Part) :
    (Part.releaseRecords n p).tlu.interlock = p.tlu.interlock := by
  induction n generalizing p with
  | zero => rfl
  | succ n ih =>
    simp only [Part.releaseRecords]
    (repeat' split) <;> simp [ih]

@[simp] theorem Part.submitRecord_interlock (r : TelRecord) (p : Part) : (p.submitRecord r).tlu.interlock = p.tlu.interlock := by
  simp only [Part.submitRecord, Part.dropRecord]; (repeat' split) <;> simp

@[simp] theorem Part.setTelemetry_interlock (ring : BitVec 64) (capacity : BitVec 32) (p : Part) :
    (p.setTelemetry ring capacity).2.tlu.interlock = p.tlu.interlock := by
  simp only [Part.setTelemetry, Part.placeRing]; (repeat' split) <;> simp

@[simp] theorem Part.cancelSwap_interlock (r : Reason) (p : Part) : (p.cancelSwap r).tlu.interlock = p.tlu.interlock := by
  simp only [Part.cancelSwap]; split <;> simp

@[simp] theorem Part.setGeometry_interlock (g : GeometryParams) (p : Part) :
    (p.setGeometry g).2.tlu.interlock = p.tlu.interlock := by
  simp only [Part.setGeometry, Part.judgeSwap]; (repeat' split) <;> simp

/-! ## Frames and sensor links (R1 to R41) -/

@[simp] theorem Part.segmentArrival_interlock (i : LinkIx) (early : Bool) (packet : List Byte) (p : Part) :
    (p.segmentArrival i early packet).tlu.interlock = p.tlu.interlock := by
  simp only [Part.segmentArrival, Part.takePacket, Part.takeValid, Part.moveLink]; (repeat' split) <;> simp

@[simp] theorem Part.quietTimerExpiry_interlock (i : LinkIx) (p : Part) :
    (p.quietTimerExpiry i).tlu.interlock = p.tlu.interlock := by
  simp only [Part.quietTimerExpiry, Part.quietExpired, Part.moveLink]; (repeat' split) <;> simp

@[simp] theorem Part.setSensor_interlock (q : SensorOrderParams) (p : Part) :
    (p.setSensor q).2.tlu.interlock = p.tlu.interlock := by
  simp only [Part.setSensor, Part.applyLinkSettings, Part.restartLink]; (repeat' split) <;> simp

@[simp] theorem Part.openFrame_interlock (i : SlotIx) (f : Serial) (p : Part) :
    (p.openFrame i f).tlu.interlock = p.tlu.interlock := by
  simp only [Part.openFrame, Part.openCommits, Part.swapAtOpen]; (repeat' split) <;> simp

@[simp] theorem Part.admitSegment_interlock (p : Part) : p.admitSegment.tlu.interlock = p.tlu.interlock := by
  simp only [Part.admitSegment, Part.placeSegment, Part.admitNew]; (repeat' split) <;> simp

@[simp] theorem Part.deadlineExpiry_interlock (i : SlotIx) (p : Part) :
    (p.deadlineExpiry i).tlu.interlock = p.tlu.interlock := by
  simp only [Part.deadlineExpiry]; (repeat' split) <;> simp

/-! ## Lines and the pacer (R197 to R204) -/

@[simp] theorem Part.periodStart_interlock (p : Part) : p.periodStart.tlu.interlock = p.tlu.interlock := by
  simp only [Part.periodStart, Part.modPacer]; split <;> rfl

@[simp] theorem Part.pulseEnd_interlock (p : Part) : p.pulseEnd.tlu.interlock = p.tlu.interlock := by
  simp only [Part.pulseEnd, Part.modPacer]; split <;> rfl

@[simp] theorem Part.setPacer_interlock (q : PacerOrderParams) (p : Part) :
    (p.setPacer q).2.tlu.interlock = p.tlu.interlock := by
  simp only [Part.setPacer, Part.modPacer]; split <;> rfl

@[simp] theorem Part.judgeSnap_interlock (p : Part) : p.judgeSnap.tlu.interlock = p.tlu.interlock := by
  simp only [Part.judgeSnap]; split <;> rfl

@[simp] theorem Part.snapEdge_interlock (p : Part) : p.snapEdge.tlu.interlock = p.tlu.interlock := by
  simp only [Part.snapEdge]; (repeat' split) <;> simp [Part.takeSnap]

@[simp] theorem Part.markEdge_interlock (p : Part) : p.markEdge.tlu.interlock = p.tlu.interlock := by
  simp only [Part.markEdge]; split <;> rfl

/-! ## The transfer lane and the exchange (R157 to R172) -/

@[simp] theorem Part.refuse_interlock (o : Order) (r : Reason) (ref : OrderRef) (p : Part) :
    (p.refuse o r ref).tlu.interlock = p.tlu.interlock := by
  simp only [Part.refuse]; split <;> simp

@[simp] theorem Part.endLane_interlock (r : Running) (res : OrderResult) (p : Part) :
    (p.endLane r res).tlu.interlock = p.tlu.interlock := by simp [Part.endLane]

@[simp] theorem Part.loaderBurstComplete_interlock (p : Part) : p.loaderBurstComplete.tlu.interlock = p.tlu.interlock := by
  simp only [Part.loaderBurstComplete, Part.loadAdvances, Part.endMatrix]; (repeat' split) <;> simp

@[simp] theorem Part.confirmingReadCompletion_interlock (p : Part) :
    p.confirmingReadCompletion.tlu.interlock = p.tlu.interlock := by
  simp only [Part.confirmingReadCompletion, Part.endToHost, Part.endCopy]; (repeat' split) <;> simp

@[simp] theorem Part.abandonSweep_interlock (p : Part) : p.abandonSweep.tlu.interlock = p.tlu.interlock := by
  simp [Part.abandonSweep]

@[simp] theorem Part.sweepTimerExpiry_interlock (p : Part) : p.sweepTimerExpiry.tlu.interlock = p.tlu.interlock := by
  simp only [Part.sweepTimerExpiry, Part.sweepReads]; (repeat' split) <;> simp

@[simp] theorem Part.stopQueue_interlock (p : Part) : p.stopQueue.tlu.interlock = p.tlu.interlock :=
  (foldl_view (fun q => q.tlu.interlock) _ (by intro q b; simp [Part.stopQueued]) _ _).trans rfl

end Sys2Proof.Machine
end

section
/-! SUPPORT. The law of the integrator (O58) at the loop controller: the commits, the vectors that replace the integrator, the loads
of a limits table, and the vector that an update forms. -/

namespace Sys2Proof.Machine

/-! ## Values within limits (R102, R105, R113) -/

theorem bringWithin_holds {l : Limits} (h : l.ordered) (u : Nat) : l.holds (bringWithin l u) := by
  obtain ⟨hlo, hhi⟩ := h
  unfold bringWithin clampTo Limits.holds Limits.loFine Limits.hiFine Limits.flatFine
  split <;> omega

theorem flatFine_holds {l : Limits} (h : l.ordered) : l.holds l.flatFine :=
  ⟨Nat.mul_le_mul_left 256 h.1, Nat.mul_le_mul_left 256 h.2⟩

theorem integrate_holds {l : Limits} (h : l.ordered) (u : Nat) (e : Int) (leak gain : Nat) :
    l.holds (integrate l u e leak gain) := by
  cases hact : l.active with
  | false => rw [(integrate_inactive hact u e leak gain).1]; exact flatFine_holds h
  | true =>
    obtain ⟨hin, hlow, hhigh⟩ := integrate_active hact (h.1.trans h.2) u e leak gain
    have hfine : l.loFine ≤ l.hiFine := Nat.mul_le_mul_left 256 (h.1.trans h.2)
    unfold Limits.holds
    omega

theorem judgedLimits_ordered (lo hi flat : BitVec 16) (active : Bool) : (judgedLimits lo hi flat active).ordered := by
  unfold judgedLimits Limits.ordered
  dsimp only
  (repeat' split) <;> constructor <;> omega

/-! ## Changes of the loop controller that leave its values and tables -/

/-- No update that runs is closed throughout. -/
def Lpc.unclosed (l : Lpc) : Prop := ∀ u, l.update = some u → u.closed = false

theorem Lpc.IntegratorLaw.unclosed {l : Lpc} (h : l.IntegratorLaw) (hloop : l.loop ≠ .closed) : l.unclosed := fun u hu =>
  (Bool.not_eq_true _).mp fun hc => hloop (h.running u hu hc).1

/-- The values, the limits tables and the load stand as before, and so does the update, or nothing rests on it. -/
theorem Lpc.IntegratorLaw.of_same {l l' : Lpc} (h : l.IntegratorLaw)
    (hq : l'.u = l.u ∧ l'.limLive = l.limLive ∧ l'.limShadow = l.limShadow ∧ l'.load = l.load)
    (hrun : l'.unclosed ∨ (l'.update = l.update ∧ l'.loop = l.loop)) : l'.IntegratorLaw := by
  obtain ⟨hu, hlive, hshadow, hload⟩ := hq
  have hlimit (a : Nat) : l'.limit a = l.limit a := congrArg (Sparse.get _ · a) hlive
  refine ⟨fun a => ?_, hlive ▸ h.liveForm, hshadow ▸ h.shadowForm, hlive ▸ h.live, hshadow ▸ h.shadow, hload ▸ h.loading,
    fun v hv hc => ?_⟩
  · rw [hlimit, Lpc.value, hu]
    exact h.within a
  · rcases hrun with hun | ⟨hup, hloop⟩
    · exact absurd hc (by simp [hun v hv])
    · obtain ⟨hcl, hw⟩ := h.running v (hup ▸ hv) hc
      exact ⟨hloop ▸ hcl, fun a ha => by rw [hlimit]; exact hw a ha⟩

theorem Lpc.IntegratorLaw.setLoad {l : Lpc} (h : l.IntegratorLaw) (o : Option ActuatorLoad)
    (ho : ∀ x, o = some x → ∀ e ∈ x.limits, e.ordered) : { l with load := o }.IntegratorLaw :=
  ⟨h.within, h.liveForm, h.shadowForm, h.live, h.shadow, ho, h.running⟩

/-! ## The loop state (R94, R99) -/

theorem Part.putLoop_unclosed (st : LoopState) (p : Part) : (p.putLoop st).lpc.unclosed := by
  intro u hu
  obtain ⟨v, -, rfl⟩ := Option.map_eq_some_iff.mp hu
  rfl

theorem Lpc.IntegratorLaw.putLoop {p : Part} (h : p.lpc.IntegratorLaw) (st : LoopState) : (p.putLoop st).lpc.IntegratorLaw :=
  h.of_same ⟨rfl, rfl, rfl, rfl⟩ (.inl (p.putLoop_unclosed st))

theorem Lpc.IntegratorLaw.setLoop {p : Part} (h : p.lpc.IntegratorLaw) (st : LoopState) : (p.setLoop st).lpc.IntegratorLaw := by
  rcases p.setLoop_cases st with ⟨-, hs⟩ | ⟨-, hs⟩ <;> rw [hs]
  · exact h
  · simpa using h.putLoop st

theorem Lpc.IntegratorLaw.takeHold {p : Part} (h : p.lpc.IntegratorLaw) (c : HoldCause) : (p.takeHold c).lpc.IntegratorLaw := by
  unfold Part.takeHold
  split
  · exact h
  · exact h.of_same ⟨rfl, rfl, rfl, rfl⟩ (.inr ⟨rfl, rfl⟩)
  all_goals
    exact Lpc.IntegratorLaw.setLoop (p := p.modLpc _) (h.of_same ⟨rfl, rfl, rfl, rfl⟩ (.inr ⟨rfl, rfl⟩)) _

/-! ## Commits (R105, R111) -/

/-- New limits bring every value within them; a vector that was formed under the old ones is none to be sent (R105). -/
theorem Lpc.IntegratorLaw.commitLimits {l : Lpc} (h : l.IntegratorLaw) (hun : l.unclosed) :
    { l with limLive := l.limShadow, limWaiting := false, u := bringAll l.limShadow l.u }.IntegratorLaw where
  within a := by
    change (Sparse.get Limits.powerOn l.limShadow a).holds (Sparse.get integratorPowerOn (bringAll l.limShadow l.u) a)
    rw [get_bringAll]
    exact bringWithin_holds (h.shadow a) _
  liveForm := h.shadowForm
  shadowForm := h.shadowForm
  live := h.shadow
  shadow := h.shadow
  loading := h.loading
  running u hu hc := absurd hc (by simp [hun u hu])

theorem Lpc.IntegratorLaw.limitsWait {p : Part} (h : p.lpc.IntegratorLaw) : p.limitsWait.lpc.IntegratorLaw := by
  rw [Part.limitsWait_lpc]
  split
  · next hstop => exact h.commitLimits (h.unclosed (by simp [hstop]))
  · exact h.of_same ⟨rfl, rfl, rfl, rfl⟩ (.inr ⟨rfl, rfl⟩)

/-- The loop controller after the commit of the shadows that wait (R105, R111). -/
theorem Part.commitActuatorSide_lpc (p : Part) : p.commitActuatorSide.lpc = { committed p.lpc with
    u := if p.lpc.limWaiting then bringAll p.lpc.limShadow p.lpc.u else p.lpc.u } := by
  rcases p with ⟨geo, links, fra, scn, rca, mxs, l⟩
  rcases l with ⟨loop, causes, firstCause, u, limLive, limShadow, limWaiting, pairLive, pairShadow, pairWaiting, gainLive,
    gainShadow, gainWaiting⟩
  cases limWaiting <;> cases pairWaiting <;> cases gainWaiting <;> rfl

theorem Lpc.IntegratorLaw.commitActuatorSide {p : Part} (h : p.lpc.IntegratorLaw) (hun : p.lpc.unclosed) :
    p.commitActuatorSide.lpc.IntegratorLaw := by
  rw [Part.commitActuatorSide_lpc]
  cases hw : p.lpc.limWaiting with
  | false => exact h.of_same (by simp [committed, hw]) (.inr ⟨rfl, rfl⟩)
  | true => exact (h.commitLimits hun).of_same (by simp [committed, hw]) (.inr ⟨rfl, rfl⟩)

/-! ## Vectors (R117, R118, R121, R123) -/

/-- The value of an actuator after a vector has replaced the integrator's first values (R118). -/
theorem Part.putVector_value (v : List Nat) (p : Part) (a : Nat) :
    (p.putVector v).lpc.value a = if a < v.length then v.getD a 0 else p.lpc.value a :=
  (Sparse.get_setAll _ _ _ _ _).trans (if_congr List.mem_range rfl rfl)

/-- A vector within the live limits replaces the integrator's first values (R118, R121, R123). -/
theorem Lpc.IntegratorLaw.putVector {p : Part} (h : p.lpc.IntegratorLaw) {v : List Nat}
    (hv : ∀ a < v.length, (p.lpc.limit a).holds (v.getD a 0)) : (p.putVector v).lpc.IntegratorLaw where
  within a := by
    rw [Part.putVector_value]
    split
    · next ha => exact hv a ha
    · exact h.within a
  liveForm := h.liveForm
  shadowForm := h.shadowForm
  live := h.live
  shadow := h.shadow
  loading := h.loading
  running := h.running

/-- The integrator at flat (R121, R126). -/
theorem Lpc.flattened_value {l : Lpc} (h : Sparse.wf Limits.powerOn l.limLive = true) (a : Nat) :
    l.flattened.value a = (l.limit a).flatFine :=
  Sparse.get_mapTo (f := Limits.flatFine) (by decide) h a

theorem Lpc.IntegratorLaw.flattened {l : Lpc} (h : l.IntegratorLaw) : l.flattened.IntegratorLaw where
  within a := by
    rw [Lpc.flattened_value h.liveForm]
    exact flatFine_holds (h.live a)
  liveForm := h.liveForm
  shadowForm := h.shadowForm
  live := h.live
  shadow := h.shadow
  loading := h.loading
  running := h.running

/-- What shaping leaves lies within the live limits, where every value started there or at a whole code (R117). -/
theorem Lpc.IntegratorLaw.shape {p : Part} (h : p.lpc.IntegratorLaw) {w : List Nat}
    (hw : ∀ a < w.length, (p.lpc.limit a).holds (w.getD a 0) ∨ w.getD a 0 % 256 = 0) :
    ∀ a < (p.shape w).vector.length, (p.lpc.limit a).holds ((p.shape w).vector.getD a 0) := by
  intro a ha
  have ha : a < w.length := by rwa [Part.shape, shapeVector_length] at ha
  exact shapeVector_holds h.live _ ha (hw a ha)

/-- The flat values are such (R121). -/
theorem Lpc.IntegratorLaw.flatVector {p : Part} (h : p.lpc.IntegratorLaw) :
    ∀ a < p.flatVector.length, (p.lpc.limit a).holds (p.flatVector.getD a 0) := by
  intro a ha
  rw [Part.flatVector, getD_map_range _ (by simpa [Part.flatVector] using ha)]
  exact flatFine_holds (h.live a)

/-- The values of an APPLY_SHAPE are such: flat, or of a whole code (R123). -/
theorem Lpc.IntegratorLaw.shapeVectorOf {p : Part} (h : p.lpc.IntegratorLaw) (codes : List (BitVec 16)) :
    ∀ a < (p.shapeVectorOf codes).length, (p.lpc.limit a).holds ((p.shapeVectorOf codes).getD a 0) ∨
      (p.shapeVectorOf codes).getD a 0 % 256 = 0 := by
  intro a ha
  rw [Part.shapeVectorOf, map_zipIdx _ _ 0, getD_map_range _ (by simpa [Part.shapeVectorOf] using ha)]
  dsimp only
  split
  · exact .inr (Nat.mul_mod_right _ _)
  · exact .inl (flatFine_holds (h.live a))

/-- The update that a CLOSED loop forms has a vector within the live limits (R113 to R117). -/
theorem Lpc.IntegratorLaw.formUpdate {p : Part} (h : p.lpc.IntegratorLaw) (hloop : p.lpc.loop = .closed) (i : SlotIx)
    (clamps ramp : Nat) : { p.lpc with rampCount := ramp, update := some (p.formUpdate i clamps) }.IntegratorLaw where
  within := h.within
  liveForm := h.liveForm
  shadowForm := h.shadowForm
  live := h.live
  shadow := h.shadow
  loading := h.loading
  running u hu _ := by
    obtain rfl : p.formUpdate i clamps = u := Option.some.inj hu
    refine ⟨hloop, h.shape fun a ha => .inl ?_⟩
    rw [getD_map_range _ (by simpa using ha)]
    exact integrate_holds (h.live a) _ _ _ _

/-! ## Loads of tables (R106, R107) -/

theorem ActuatorLoad.place_ordered {l : ActuatorLoad} (h : ∀ e ∈ l.limits, e.ordered) (a : Nat) (entry : List Byte) :
    ∀ e ∈ (l.place a entry).limits, e.ordered := by
  cases hkind : l.kind with
  | limits =>
    intro e he
    rw [ActuatorLoad.place, hkind] at he
    rcases List.mem_append.mp he with he | he
    · exact h e he
    · obtain rfl := List.mem_singleton.mp he
      exact judgedLimits_ordered _ _ _ _
  | pairs =>
    rw [ActuatorLoad.place, hkind]
    dsimp only [ActuatorLoad.placePair]
    split <;> exact h

theorem ActuatorLoad.foldl_place_ordered {l : ActuatorLoad} (h : ∀ e ∈ l.limits, e.ordered) (a : Nat)
    (entries : List (List Byte)) : ∀ e ∈ (entries.foldl (ActuatorLoad.place a) l).limits, e.ordered := by
  induction entries generalizing l with
  | nil => exact h
  | cons x rest ih => exact ih (l.place_ordered h a x)

theorem loadedLimits_ordered {c : Lpc} (h : orderedTable c.limLive) {limits : List Limits} (hl : ∀ e ∈ limits, e.ordered) :
    orderedTable (c.loadedLimits limits) := by
  intro a
  rw [Lpc.loadedLimits, Sparse.get_setAll_range, List.getD_eq_getElem?_getD]
  cases he : limits[a]? with
  | none => exact h a
  | some e => exact hl e (List.mem_of_getElem? he)

theorem Lpc.IntegratorLaw.completeActuatorLoad {p : Part} (h : p.lpc.IntegratorLaw) {l : ActuatorLoad}
    (hl : ∀ e ∈ l.limits, e.ordered) : (p.completeActuatorLoad l).2.lpc.IntegratorLaw := by
  cases hbad : l.bad with
  | some i => rw [Part.completeActuatorLoad_bad hbad]; exact h.setLoad none (by simp)
  | none =>
    cases hkind : l.kind with
    | limits =>
      rw [Part.completeActuatorLoad_limits hkind hbad]
      exact Lpc.IntegratorLaw.limitsWait (p := p.modLpc _) ⟨h.within, h.liveForm, Sparse.wf_setAll _ _ _ _ h.liveForm, h.live,
        loadedLimits_ordered h.live hl, by simp, h.running⟩
    | pairs =>
      have hq : { p.lpc with load := none, pairShadow := l.pairs }.IntegratorLaw :=
        (h.setLoad none (by simp)).of_same ⟨rfl, rfl, rfl, rfl⟩ (.inr ⟨rfl, rfl⟩)
      rw [Part.completeActuatorLoad_pairs hkind hbad, Part.pairsWait_lpc]
      split <;> exact hq.of_same ⟨rfl, rfl, rfl, rfl⟩ (.inr ⟨rfl, rfl⟩)

/-! ## Part reset (R126) -/

theorem Lpc.IntegratorLaw.reset {l : Lpc} (h : l.IntegratorLaw) : l.reset.IntegratorLaw where
  within a := h.flattened.within a
  liveForm := h.liveForm
  shadowForm := h.shadowForm
  live := h.live
  shadow := h.shadow
  loading _ hx := nomatch hx
  running _ hx := nomatch hx

end Sys2Proof.Machine
end

section
/-! SUPPORT. The laws of the loop controller (O53, O58): what each operation does to a CLOSED loop with what may hold it, and to the
integrator with its limits. An operation that touches neither the loop controller, nor a mirror link, nor INTERLOCK keeps both; the
others have a lemma each. -/

namespace Sys2Proof.Machine

/-! ## How the loop controller may move on -/

/-- The part q comes from x by steps that keep the laws of the loop controller: each law that holds of x holds of q (R99, R102). -/
structure Part.LoopFollows (q x : Part) : Prop where
  closed : x.closedLaw → q.closedLaw
  integrator : x.lpc.IntegratorLaw → q.lpc.IntegratorLaw

theorem Part.LoopFollows.refl (x : Part) : x.LoopFollows x := ⟨id, id⟩

/-- No link that p has not in FAULT is in FAULT. -/
def Part.noNewFault (q p : Part) : Prop := ∀ k, q.inFault k = true → p.inFault k = true

theorem Part.noNewFault.of_mlt {q p : Part} (h : q.mlt = p.mlt) : q.noNewFault p := fun k => by
  rw [Part.inFault, Part.inFault, h]
  exact id

/-- A loop that is CLOSED only where it was, with INTERLOCK as it was or deasserted and no new FAULT. -/
theorem Part.closedLaw.of_le {p q : Part} (h : p.closedLaw) (hloop : q.lpc.loop = .closed → p.lpc.loop = .closed)
    (hlevel : p.tlu.interlock.level = false → q.tlu.interlock.level = false) (hfault : q.noNewFault p) : q.closedLaw := by
  intro hclosed
  obtain ⟨hl, hf⟩ := h (hloop hclosed)
  exact ⟨hlevel hl, fun k => (Bool.not_eq_true _).mp (mt (hfault k) (by simp [hf k]))⟩

theorem Part.closedLaw_of_not {q : Part} (h : q.lpc.loop ≠ .closed) : q.closedLaw := fun hclosed => absurd hclosed h

section

variable {x p q : Part}

/-- A step that touches neither the loop controller, nor the mirror links, nor INTERLOCK. -/
theorem Part.LoopFollows.of_same (h : p.LoopFollows x)
    (hq : q.lpc = p.lpc ∧ q.mlt = p.mlt ∧ q.tlu.interlock = p.tlu.interlock) : q.LoopFollows x := by
  obtain ⟨hlpc, hmlt, hline⟩ := hq
  exact ⟨fun hx => (h.closed hx).of_le (by rw [hlpc]; exact id) (by rw [hline]; exact id) (.of_mlt hmlt),
    fun hx => hlpc ▸ h.integrator hx⟩

/-- A step of the loop controller that closes nothing. -/
theorem Part.LoopFollows.of_lpc (h : p.LoopFollows x) (hq : q.mlt = p.mlt ∧ q.tlu.interlock = p.tlu.interlock)
    (hloop : q.lpc.loop = .closed → p.lpc.loop = .closed) (hlaw : p.lpc.IntegratorLaw → q.lpc.IntegratorLaw) :
    q.LoopFollows x :=
  ⟨fun hx => (h.closed hx).of_le hloop (by rw [hq.2]; exact id) (.of_mlt hq.1), fun hx => hlaw (h.integrator hx)⟩

/-- A step that leaves the loop in another state than CLOSED. -/
theorem Part.LoopFollows.of_not_closed (h : p.LoopFollows x) (hq : q.lpc.loop ≠ .closed)
    (hlaw : p.lpc.IntegratorLaw → q.lpc.IntegratorLaw) : q.LoopFollows x :=
  ⟨fun _ => Part.closedLaw_of_not hq, fun hx => hlaw (h.integrator hx)⟩

theorem Part.modMirror_inFault (m k : MirrorIx) (g : MirrorLink → MirrorLink) (p : Part) : (p.modMirror m g).inFault k =
    if k = m then (g (p.mlt.get m)).enable && (g (p.mlt.get m)).state = .fault else p.inFault k := by
  rw [Part.inFault, Part.modMirror, Part.modMlt_mlt, Two.get_set]
  split <;> rfl

/-- A change of one mirror link that leaves its enable and its state. -/
theorem Part.LoopFollows.modMirror (h : p.LoopFollows x) (m : MirrorIx) {g : MirrorLink → MirrorLink}
    (hg : ∀ l, (g l).enable = l.enable ∧ (g l).state = l.state) : (p.modMirror m g).LoopFollows x := by
  refine ⟨fun hx => (h.closed hx).of_le (by simp) (by simp) fun k hk => ?_, by simpa using h.integrator⟩
  rw [Part.modMirror_inFault, (hg _).1, (hg _).2] at hk
  split at hk
  · next hkm => rw [hkm]; exact hk
  · exact hk

/-- A mirror link that moves to another state than FAULT. -/
theorem Part.LoopFollows.moveMirror (h : p.LoopFollows x) (m : MirrorIx) {g : MirrorLink → MirrorLink}
    (hg : ∀ l, (g l).state ≠ .fault) : (p.modMirror m g).LoopFollows x := by
  refine ⟨fun hx => (h.closed hx).of_le (by simp) (by simp) fun k hk => ?_, by simpa using h.integrator⟩
  rw [Part.modMirror_inFault] at hk
  split at hk
  · simp [hg] at hk
  · exact hk

theorem Part.LoopFollows.countMirror (h : p.LoopFollows x) (m : MirrorIx) (g : MirrorCounters → MirrorCounters) :
    (p.countMirror m g).LoopFollows x := h.modMirror m (by simp)

theorem Part.LoopFollows.finish (h : p.LoopFollows x) (ref : OrderRef) (r : OrderResult) : (p.finish ref r).LoopFollows x :=
  h.of_same (by simp)

/-- A hold cause leaves the loop in another state than CLOSED, whatever gave it (R99). -/
theorem Part.LoopFollows.takeHold (h : p.LoopFollows x) (c : HoldCause) : (p.takeHold c).LoopFollows x :=
  h.of_not_closed (p.takeHold_not_closed c) fun hp => hp.takeHold c

end

/-! ## The mirror links (R127 to R149) -/

section

variable {x p : Part}

theorem Part.LoopFollows.issueQuery (h : p.LoopFollows x) (m : MirrorIx) (forProbe : Bool) :
    (p.issueQuery m forProbe).LoopFollows x :=
  Part.LoopFollows.countMirror (h.modMirror m (by simp)) m _

theorem Part.LoopFollows.sendFrame (h : p.LoopFollows x) (m : MirrorIx) (codes : List Nat) : (p.sendFrame m codes).LoopFollows x :=
  h.moveMirror m (by simp)

theorem Part.LoopFollows.startMirrorTimer (h : p.LoopFollows x) (m : MirrorIx) : (p.startMirrorTimer m).LoopFollows x :=
  h.modMirror m (by simp)

theorem Part.LoopFollows.endProbe (h : p.LoopFollows x) (m : MirrorIx) (r : OrderResult) : (p.endProbe m r).LoopFollows x := by
  unfold Part.endProbe
  split
  · exact h
  · exact (h.modMirror m (by simp)).finish _ _

theorem Part.LoopFollows.handOver (h : p.LoopFollows x) (m : MirrorIx) (codes : List Nat) :
    (p.handOver m codes).part.LoopFollows x := by
  have hskip : (p.skipFrame m).LoopFollows x := h.countMirror m _
  unfold Part.handOver
  dsimp only
  split
  · exact ((h.endProbe m _).modMirror m (by simp)).sendFrame m codes
  · split
    · exact h.sendFrame m codes
    · exact hskip
  · exact hskip
  · exact hskip
  · exact h
  · exact h

theorem Part.LoopFollows.handTo (h : p.LoopFollows x) (g : Geometry) (m : MirrorIx) (codes : List Nat) :
    (p.handTo g m codes).part.LoopFollows x := by
  unfold Part.handTo
  split
  · exact h
  · exact h.handOver m _

theorem Part.LoopFollows.handShape (h : p.LoopFollows x) (codes : List Nat) : (p.handShape codes).LoopFollows x := by
  have hfirst : (if p.shapeGoes 0 then (p.handOver 0 (p.geo.codesFor 0 codes)).part else p).LoopFollows x := by
    split
    · exact h.handOver 0 _
    · exact h
  unfold Part.handShape
  dsimp only
  split
  · exact hfirst.handOver 1 _
  · exact hfirst

theorem Part.LoopFollows.cutOff (h : p.LoopFollows x) (m : MirrorIx) : (p.cutOff m).LoopFollows x := by
  have hq : (p.modMirror m fun l => { l with tx := [] }).LoopFollows x := h.modMirror m (by simp)
  unfold Part.cutOff
  dsimp only
  split
  · exact hq
  · exact hq.of_same (by simp)

theorem Part.LoopFollows.enterBlocked (h : p.LoopFollows x) (m : MirrorIx) : (p.enterBlocked m).LoopFollows x := by
  have hq : (p.modMirror m fun l =>
      { l with
        state := .blocked
        blockCount := 0
        awaiting := false
        queryCount := 0
        timer := some (later p.now l.timeoutUs) }).LoopFollows x := h.moveMirror m (by simp)
  exact hq.of_same (by simp [Part.enterBlocked])

/-- A link that enters FAULT holds the loop (R143). -/
theorem Part.LoopFollows.enterFault (h : p.LoopFollows x) (m : MirrorIx) : (p.enterFault m).LoopFollows x :=
  h.of_not_closed (Part.takeHold_not_closed _ _) fun hp => by
    unfold Part.enterFault
    exact Lpc.IntegratorLaw.takeHold (by simpa using hp) _

/-- What judges a change of a link and may bring it to FAULT. -/
theorem Part.LoopFollows.ite_enterFault (h : p.LoopFollows x) (c : Prop) [Decidable c] (m : MirrorIx) :
    (if c then p.enterFault m else p).LoopFollows x := by
  split
  · exact h.enterFault m
  · exact h

theorem Part.LoopFollows.retire (h : p.LoopFollows x) (m : MirrorIx) (s : Serial) (st : ReceiptStatus) :
    (p.retire m s st).LoopFollows x := h.modMirror m (by simp)

theorem Part.LoopFollows.receiptAfter (h : p.LoopFollows x) (m : MirrorIx) : (p.receiptAfter m).LoopFollows x := by
  unfold Part.receiptAfter
  split
  · exact h.modMirror m (by simp)
  · split
    · exact h.moveMirror m (by simp)
    · exact h
  all_goals exact h

theorem Part.LoopFollows.judgeReceipt (h : p.LoopFollows x) (m : MirrorIx) (st : ReceiptStatus) (fault : Bool) :
    (p.judgeReceipt m st fault).LoopFollows x := by
  have hq : (p.modMirror m fun l => { l with rejectCount := rejectsAfter st l.rejectCount }).LoopFollows x :=
    h.modMirror m (by simp)
  unfold Part.judgeReceipt
  dsimp only
  (repeat' split)
  · exact h.enterFault m
  · exact hq.enterFault m
  · exact hq
  · exact hq.enterBlocked m
  · exact hq.receiptAfter m

theorem Part.LoopFollows.takeReceipt (h : p.LoopFollows x) (m : MirrorIx) (s : Serial) (st : ReceiptStatus) (fault : Bool) :
    (p.takeReceipt m s st fault).LoopFollows x := by
  unfold Part.takeReceipt
  dsimp only
  split
  · exact h.countMirror m _
  · exact (h.retire m s st).judgeReceipt m st fault

theorem Part.LoopFollows.reconcile (h : p.LoopFollows x) (m : MirrorIx) (y : Serial) : (p.reconcile m y).LoopFollows x :=
  h.modMirror m (by simp)

/-- A ready driver moves its link to RUNNING or IDLE (R139, R142). -/
theorem Part.readyState_ne_fault (p : Part) : p.readyState ≠ .fault := by
  unfold Part.readyState
  split <;> simp

theorem Part.LoopFollows.replyInChecking (h : p.LoopFollows x) (m : MirrorIx) (ready fault : Bool) (y : Serial) :
    (p.replyInChecking m ready fault y).LoopFollows x := by
  have hq : ((p.reconcile m y).modMirror m fun l => { l with queryCount := 0, timer := none }).LoopFollows x :=
    (h.reconcile m y).modMirror m (by simp)
  unfold Part.replyInChecking
  dsimp only
  (repeat' split)
  · exact hq.enterFault m
  · exact hq.moveMirror m (by simp [Part.readyState_ne_fault])
  · exact hq.enterBlocked m

theorem Part.LoopFollows.replyInBlocked (h : p.LoopFollows x) (m : MirrorIx) (ready fault : Bool) (y : Serial) :
    (p.replyInBlocked m ready fault y).LoopFollows x := by
  have hq : ((p.modMirror m fun l => { l with awaiting := false }).reconcile m y).LoopFollows x :=
    Part.LoopFollows.reconcile (h.modMirror m (by simp)) m y
  unfold Part.replyInBlocked
  dsimp only
  split
  · exact hq.enterFault m
  · split
    · exact hq.moveMirror m (by simp [Part.readyState_ne_fault])
    · exact Part.LoopFollows.ite_enterFault (hq.modMirror m (by simp)) _ m

theorem Part.LoopFollows.replyToProbe (h : p.LoopFollows x) (m : MirrorIx) (pr : Probe) (ready fault : Bool) (y : Serial) :
    (p.replyToProbe m pr ready fault y).LoopFollows x := by
  have hdrawn : (if pr.sendTime.isNone then p.drawFree else p).LoopFollows x := by
    split
    · exact h.of_same (by simp)
    · exact h
  exact (hdrawn.endProbe m _).ite_enterFault _ m

theorem Part.LoopFollows.takeReply (h : p.LoopFollows x) (m : MirrorIx) (ready fault : Bool) (y : Serial) :
    (p.takeReply m ready fault y).LoopFollows x := by
  have hstray : (p.countStray m).LoopFollows x := h.countMirror m _
  unfold Part.takeReply
  split
  · exact h.replyInChecking m ready fault y
  · exact h.replyInBlocked m ready fault y
  · split
    · exact h.replyToProbe m _ ready fault y
    · exact hstray
  all_goals exact hstray

theorem Part.LoopFollows.mirrorPacketArrival (h : p.LoopFollows x) (m : MirrorIx) (early : Bool) (packet : List Byte) :
    (p.mirrorPacketArrival m early packet).LoopFollows x := by
  unfold Part.mirrorPacketArrival Part.takeMirrorPacket
  (repeat' split)
  · exact h
  · exact h.countMirror m _
  · exact h.countMirror m _
  · exact h.countMirror m _
  · exact h.takeReceipt m _ _ _
  · exact h.takeReply m _ _ _

theorem Part.LoopFollows.packetTransmitEnd (h : p.LoopFollows x) (m : MirrorIx) : (p.packetTransmitEnd m).LoopFollows x := by
  have hq (rest : List TxPacket) : (p.modMirror m fun l => { l with tx := rest }).LoopFollows x :=
    h.modMirror m (by simp)
  unfold Part.packetTransmitEnd
  split
  · exact h
  · next seq codes rest _ =>
    have hsent : ((p.modMirror m fun l => { l with tx := rest }).issuePackets m (commandFrame m seq codes)).LoopFollows x :=
      (hq rest).of_same ⟨rfl, rfl, rfl⟩
    exact hsent.modMirror m (by simp)
  · next forProbe rest _ =>
    have hsent : ((p.modMirror m fun l => { l with tx := rest }).issue (.packet m (queryPacket m))).LoopFollows x :=
      (hq rest).of_same (by simp)
    unfold Part.querySent
    (repeat' split)
    · exact hsent.modMirror m (by simp)
    · exact hsent
    · exact hsent

theorem Part.LoopFollows.expiryInRunning (h : p.LoopFollows x) (m : MirrorIx) : (p.expiryInRunning m).LoopFollows x :=
  Part.LoopFollows.startMirrorTimer (Part.LoopFollows.issueQuery (h.moveMirror m (by simp)) m _) m

theorem Part.LoopFollows.expiryInChecking (h : p.LoopFollows x) (m : MirrorIx) : (p.expiryInChecking m).LoopFollows x := by
  unfold Part.expiryInChecking
  dsimp only
  split
  · exact Part.LoopFollows.startMirrorTimer (Part.LoopFollows.issueQuery (h.modMirror m (by simp)) m _) m
  · exact h.enterFault m

theorem Part.LoopFollows.expiryInBlocked (h : p.LoopFollows x) (m : MirrorIx) : (p.expiryInBlocked m).LoopFollows x := by
  have hq : (p.modMirror m fun l =>
      { l with blockCount := if l.awaiting then min 255 (l.blockCount + 1) else l.blockCount }).LoopFollows x :=
    h.modMirror m (by simp)
  unfold Part.expiryInBlocked
  dsimp only
  split
  · exact hq.enterFault m
  · exact Part.LoopFollows.startMirrorTimer (Part.LoopFollows.issueQuery (hq.modMirror m (by simp)) m _) m

theorem Part.LoopFollows.receiptTimerExpiry (h : p.LoopFollows x) (m : MirrorIx) : (p.receiptTimerExpiry m).LoopFollows x := by
  unfold Part.receiptTimerExpiry
  split
  · exact h
  · next t _ =>
    have hq : ((p.advanceTo t).modMirror m fun l => { l with timer := none }).LoopFollows x :=
      Part.LoopFollows.modMirror (h.of_same (by simp)) m (by simp)
    dsimp only
    split
    · exact hq.expiryInRunning m
    · exact hq.expiryInChecking m
    · exact hq.expiryInBlocked m
    · exact hq.endProbe m _
    · exact hq
    · exact hq

/-- SET_MIRROR leaves a link that it enables IDLE, and one that it disables OFF (R131). -/
theorem Part.LoopFollows.applySetMirror (h : p.LoopFollows x) (m : MirrorIx) (enable : Bool) (q : MirrorOrderParams) :
    (p.applySetMirror m enable q).LoopFollows x := by
  have hq : (p.modMirror m fun l =>
      { l with
        timeoutUs := clampTo 50 5000 q.timeoutUs.toNat
        queryLimit := clampTo 1 7 q.queryLimit.toNat
        blockLimit := clampTo 1 255 q.blockLimit.toNat
        rejectLimit := clampTo 1 15 q.rejectLimit.toNat }).LoopFollows x := h.modMirror m (by simp)
  unfold Part.applySetMirror
  dsimp only
  (repeat' split)
  · exact hq.moveMirror m (by simp)
  · exact hq
  · exact hq
  · exact ((hq.endProbe m _).cutOff m).moveMirror m (by simp)

theorem Part.LoopFollows.setMirror (h : p.LoopFollows x) (q : MirrorOrderParams) : (p.setMirror q).2.LoopFollows x := by
  unfold Part.setMirror
  (repeat' split)
  · exact h
  · exact h.applySetMirror _ _ q
  · exact h

theorem Part.LoopFollows.mirrorReset (h : p.LoopFollows x) (mirror : Byte) : (p.mirrorReset mirror).2.LoopFollows x := by
  unfold Part.mirrorReset
  (repeat' split)
  · exact h
  · exact h
  · next m _ _ =>
    have hq : ((p.endProbe m (.failed .aborted)).modMirror m fun l => { l.clearedOut with state := .idle }).LoopFollows x :=
      (h.endProbe m _).moveMirror m (by simp)
    exact hq

theorem Part.LoopFollows.mirrorProbe (h : p.LoopFollows x) (mirror : Byte) (ref : OrderRef) :
    (p.mirrorProbe mirror ref).2.LoopFollows x := by
  unfold Part.mirrorProbe
  (repeat' split)
  · exact h
  · exact h
  · exact h
  · exact Part.LoopFollows.issueQuery (h.modMirror _ (by simp)) _ _

end

/-! ## Updates and vectors (R105 to R123) -/

section

variable {x p : Part}

/-- An update that ends leaves the loop controller with no update, and everything else of it as it was (R120). -/
theorem Part.endUpdate_lpc (i : SlotIx) (g : Geometry) (u : UpdateReport) (ramp : Bool) (p : Part) :
    (p.endUpdate i g u ramp).lpc = { p.lpc with update := none } := by
  unfold Part.endUpdate
  dsimp only
  split <;> simp

theorem Part.LoopFollows.endUpdate (h : p.LoopFollows x) (i : SlotIx) (g : Geometry) (u : UpdateReport) (ramp : Bool) :
    (p.endUpdate i g u ramp).LoopFollows x := by
  refine h.of_lpc ?_ (by rw [Part.endUpdate_lpc]; exact id) fun hp => ?_
  · unfold Part.endUpdate
    dsimp only
    split <;> simp
  · rw [Part.endUpdate_lpc]
    exact hp.of_same ⟨rfl, rfl, rfl, rfl⟩ (.inl fun _ hu => nomatch hu)

/-- The commit of the waiting tables at the begin of an update (R111). -/
theorem Part.LoopFollows.commitActuatorSide (h : p.LoopFollows x) (hun : p.lpc.unclosed) : p.commitActuatorSide.LoopFollows x :=
  h.of_lpc (by simp) (by rw [Part.commitActuatorSide_lpc]; exact id) fun hp => hp.commitActuatorSide hun

theorem Part.LoopFollows.fullUpdate (h : p.LoopFollows x) (i : SlotIx) (hloop : p.lpc.loop = .closed)
    (hnone : p.lpc.update = none) : (p.fullUpdate i).LoopFollows x := by
  have hq := h.commitActuatorSide (by simp [Lpc.unclosed, hnone])
  have hclosed : p.commitActuatorSide.lpc.loop = .closed := by rw [Part.commitActuatorSide_lpc]; exact hloop
  have hr : (p.commitActuatorSide.modLpc fun l => { l with divCount := p.commitActuatorSide.guardCount i }).LoopFollows x :=
    hq.of_lpc ⟨rfl, rfl⟩ id fun hp => hp.of_same ⟨rfl, rfl, rfl, rfl⟩ (.inr ⟨rfl, rfl⟩)
  unfold Part.fullUpdate
  dsimp only
  split
  · exact (hr.takeHold _).endUpdate _ _ _ _
  · exact hr.of_lpc ⟨rfl, rfl⟩ id fun hp => hp.formUpdate hclosed i _ _

theorem Part.LoopFollows.updateBegin (h : p.LoopFollows x) : p.updateBegin.LoopFollows x := by
  unfold Part.updateBegin
  split
  · exact h
  · next hguard =>
    have hnone : p.lpc.update = none := by simp_all
    split
    · exact h
    · next i _ =>
      have hq : (p.modSlot i fun y => { y with state := .updating }).LoopFollows x := h.of_same (by simp)
      unfold Part.beginUpdate
      dsimp only
      split
      · next hloop => exact hq.fullUpdate i (by simpa using hloop) (by simpa using hnone)
      · exact hq.endUpdate _ _ _ _

theorem Part.LoopFollows.putVector (h : p.LoopFollows x) {v : List Nat}
    (hv : p.lpc.IntegratorLaw → ∀ a < v.length, (p.lpc.limit a).holds (v.getD a 0)) : (p.putVector v).LoopFollows x :=
  h.of_lpc ⟨rfl, rfl⟩ id fun hp => hp.putVector (hv hp)

theorem Part.LoopFollows.sendPoint (h : p.LoopFollows x) : p.sendPoint.LoopFollows x := by
  unfold Part.sendPoint
  split
  · exact h
  · next u hu =>
    split
    · next hclosed =>
      have hq : (p.putVector u.shaped).LoopFollows x := h.putVector fun hp => (hp.running u hu hclosed).2
      exact ((hq.handTo _ _ _).handTo _ _ _).endUpdate _ _ _ _
    · exact h.endUpdate _ _ _ _

/-- FLATTEN and APPLY_SHAPE drive what shaping leaves (R117, R121, R123). -/
theorem Part.LoopFollows.driveShape (h : p.LoopFollows x) {w : List Nat}
    (hw : p.lpc.IntegratorLaw → ∀ a < w.length, (p.lpc.limit a).holds (w.getD a 0) ∨ w.getD a 0 % 256 = 0) :
    (p.driveShape w).LoopFollows x :=
  (h.putVector fun hp => hp.shape (hw hp)).handShape _

theorem Part.LoopFollows.flattenOrder (h : p.LoopFollows x) : p.flattenOrder.2.LoopFollows x := by
  have hq : (p.modLpc Lpc.flattened).LoopFollows x := h.of_lpc ⟨rfl, rfl⟩ id fun hp => hp.flattened
  unfold Part.flattenOrder
  (repeat' split)
  · exact h
  · exact h
  · exact hq.driveShape fun hp a ha => .inl (hp.flatVector a ha)

theorem Part.LoopFollows.judgeShape (h : p.LoopFollows x) (codes : List (BitVec 16)) : (p.judgeShape codes).2.LoopFollows x := by
  unfold Part.judgeShape
  (repeat' split)
  · exact h
  · exact h
  · exact h.driveShape fun hp => hp.shapeVectorOf codes

end

/-! ## The loop orders (R95 to R101, R108, R124) -/

section

variable {x p : Part}

theorem Part.LoopFollows.loopOpenOrder (h : p.LoopFollows x) : p.loopOpenOrder.2.LoopFollows x := by
  have hopen : p.openLoop.LoopFollows x := by
    refine h.of_not_closed (by simp [Part.openLoop]) fun hp => ?_
    unfold Part.openLoop
    exact Lpc.IntegratorLaw.setLoop (hp.of_same (by simp) (.inr (by simp))) _
  unfold Part.loopOpenOrder
  (repeat' split)
  · exact h
  · exact h
  · exact hopen
  · exact h
  · exact hopen

/-- The checks of LOOP_CLOSE leave no enabled link in FAULT, and INTERLOCK deasserted (R97). -/
theorem Part.closeRefusal_none (h : p.closeRefusal = none) : p.tlu.interlock.level = false ∧ ∀ k, p.inFault k = false := by
  unfold Part.closeRefusal at h
  (repeat' split at h) <;> try contradiction
  next h0 h1 hline =>
    exact ⟨(Bool.not_eq_true _).mp hline, fun k => match k with
      | 0 => (Bool.not_eq_true _).mp h0
      | 1 => (Bool.not_eq_true _).mp h1⟩

theorem Part.LoopFollows.loopCloseOrder (h : p.LoopFollows x) (ramp : BitVec 16) : (p.loopCloseOrder ramp).2.LoopFollows x := by
  unfold Part.loopCloseOrder
  split
  · exact h
  · split
    · exact h
    · next hnone =>
      obtain ⟨hline, hfault⟩ := Part.closeRefusal_none hnone
      refine ⟨fun _ _ => ⟨?_, fun k => ?_⟩, fun hx => ?_⟩
      · simpa [Part.closeLoop] using hline
      · simpa [Part.closeLoop, Part.inFault] using hfault k
      · unfold Part.closeLoop
        exact Lpc.IntegratorLaw.setLoop ((h.integrator hx).of_same (by simp) (.inr (by simp))) _

theorem Part.LoopFollows.loopStopOrder (h : p.LoopFollows x) : p.loopStopOrder.2.LoopFollows x := by
  unfold Part.loopStopOrder
  split
  · exact h
  · have hlpc : p.stopLoop.lpc = { (p.putLoop .stopped).lpc with causes := .empty, firstCause := none, divCount := 0 } := by
      simp [Part.stopLoop, Part.flushFifos]
    refine h.of_not_closed (by simp [hlpc, Part.putLoop]) fun hp => ?_
    rw [hlpc]
    exact (hp.putLoop .stopped).of_same ⟨rfl, rfl, rfl, rfl⟩ (.inr ⟨rfl, rfl⟩)

theorem Part.LoopFollows.resumeOrder (h : p.LoopFollows x) : p.resumeOrder.2.LoopFollows x := by
  have hresume : p.resumeLoop.LoopFollows x := by
    refine h.of_not_closed (by simp [Part.resumeLoop]) fun hp => ?_
    unfold Part.resumeLoop
    exact Lpc.IntegratorLaw.setLoop (hp.of_same (by simp) (.inr (by simp))) _
  unfold Part.resumeOrder
  (repeat' split)
  · exact h
  · exact h
  · exact hresume

theorem Part.LoopFollows.setLoopOrder (h : p.LoopFollows x) (q : LoopOrderParams) : (p.setLoopOrder q).2.LoopFollows x :=
  h.of_lpc ⟨rfl, rfl⟩ id fun hp => hp.of_same ⟨rfl, rfl, rfl, rfl⟩ (.inr ⟨rfl, rfl⟩)

theorem Part.LoopFollows.setGains (h : p.LoopFollows x) (q : GainsOrderParams) : (p.setGains q).2.LoopFollows x := by
  unfold Part.setGains
  split
  · exact h
  · unfold Part.writeGains Part.gainsWait
    dsimp only
    split
    all_goals exact h.of_lpc ⟨rfl, rfl⟩ id fun hp => hp.of_same ⟨rfl, rfl, rfl, rfl⟩ (.inr ⟨rfl, rfl⟩)

end

/-! ## Frames and lines that hold the loop (R37, R38, R200 to R202) -/

section

variable {x p : Part}

theorem Part.LoopFollows.sealDecision (h : p.LoopFollows x) : p.sealDecision.LoopFollows x := by
  unfold Part.sealDecision
  split
  · exact h
  · unfold Part.decideSeal
    split
    · unfold Part.abandonFrame
      dsimp only
      split
      · exact Part.LoopFollows.takeHold (h.of_same (by simp)) _
      · exact h.of_same (by simp)
    · exact h.of_same (by simp)
    · exact h.of_same (by simp)
    · exact h

theorem Part.LoopFollows.frameGapExpiry (h : p.LoopFollows x) : p.frameGapExpiry.LoopFollows x := by
  unfold Part.frameGapExpiry
  split
  · exact h
  · exact Part.LoopFollows.takeHold (h.of_same (by simp)) _

/-- A rising INTERLOCK edge holds the loop, and a falling one deasserts the line (R202). -/
theorem Part.LoopFollows.interlockEdge (h : p.LoopFollows x) : p.interlockEdge.LoopFollows x := by
  unfold Part.interlockEdge
  split
  · dsimp only
    split
    · next hlevel =>
      exact ⟨fun hx => (h.closed hx).of_le (by simp) (by simp [hlevel]) (.of_mlt (by simp)), by simpa using h.integrator⟩
    · exact h.of_not_closed (Part.takeHold_not_closed _ _) fun hp => Lpc.IntegratorLaw.takeHold (by simpa using hp) _
  · exact h

theorem Line.sample_level (l : Line) (level : Bool) : (l.sample level).level = l.level := by
  unfold Line.sample
  (repeat' split) <;> rfl

theorem Part.LoopFollows.lineSample (h : p.LoopFollows x) (interlock snap mark : Bool) :
    (p.lineSample interlock snap mark).LoopFollows x := by
  unfold Part.lineSample
  split
  · exact h
  · exact ⟨fun hx => (h.closed hx).of_le (by simp) (by simp [Line.sample_level]) (.of_mlt (by simp)),
      by simpa using h.integrator⟩

theorem Part.LoopFollows.setLines (h : p.LoopFollows x) (q : LinesOrderParams) : (p.setLines q).2.LoopFollows x := by
  unfold Part.setLines
  split
  · exact ⟨fun hx => (h.closed hx).of_le id id (.of_mlt rfl), h.integrator⟩
  · exact h

end

end Sys2Proof.Machine
end

section
/-! SUPPORT. The laws of the loop controller (O53, O58), continued: the transfer lane, the orders, the sweep and the resets; and then
every command. -/

namespace Sys2Proof.Machine

variable {x p : Part}

/-! ## The transfer lane (R106, R107, R122, R123, R168 to R172) -/

/-- A load of an actuator-side table that holds ordered limits, or none. -/
theorem Part.LoopFollows.setLoad (h : p.LoopFollows x) (o : Option ActuatorLoad)
    (ho : p.lpc.IntegratorLaw → ∀ l, o = some l → ∀ e ∈ l.limits, e.ordered) :
    (p.modLpc fun l => { l with load := o }).LoopFollows x :=
  h.of_lpc ⟨rfl, rfl⟩ id fun hp => hp.setLoad o (ho hp)

theorem Part.LoopFollows.setShape (h : p.LoopFollows x) (codes : List (BitVec 16)) :
    (p.modLpc fun l => { l with shape := codes }).LoopFollows x :=
  h.of_lpc ⟨rfl, rfl⟩ id fun hp => hp.of_same ⟨rfl, rfl, rfl, rfl⟩ (.inr ⟨rfl, rfl⟩)

theorem Part.LoopFollows.setLane (h : p.LoopFollows x) (r : Running) : (p.modXu fun y => { y with lane := some r }).LoopFollows x :=
  h.of_same ⟨rfl, rfl, rfl⟩

theorem Part.LoopFollows.dropWork (h : p.LoopFollows x) (op : BulkOp) : (p.dropWork op).LoopFollows x := by
  cases op with
  | loadLimits | loadPairs => exact h.setLoad none fun _ _ hl => nomatch hl
  | applyShape => exact h.setShape []
  | loadMatrix | loadReference | loadSensors | readBank | readTable | copySnapshot =>
    exact h.of_same (by simp [Part.dropWork, Part.dropMatrixLoad])

theorem Part.LoopFollows.endLane (h : p.LoopFollows x) (r : Running) (res : OrderResult) : (p.endLane r res).LoopFollows x :=
  h.of_same (by simp)

theorem Part.LoopFollows.endEarly (h : p.LoopFollows x) (r : Running) (why : Reason) : (p.endEarly r why).LoopFollows x :=
  (h.dropWork r.bulk.op).endLane r _

theorem Part.LoopFollows.failTransfer (h : p.LoopFollows x) (r : Running) : (p.failTransfer r).LoopFollows x :=
  (h.endEarly r .hostAccess).of_same (by simp [Part.failTransfer])

theorem Part.LoopFollows.laneRead (h : p.LoopFollows x) (r : Running) (a : BitVec 64) (n : Nat) :
    (p.laneRead r a n).LoopFollows x := by
  unfold Part.laneRead
  split
  · exact h.of_same (by simp)
  · exact h.failTransfer r

theorem Part.LoopFollows.confirm (h : p.LoopFollows x) (r : Running) : (p.confirm r).LoopFollows x :=
  Part.LoopFollows.laneRead (h.of_same (by simp)) _ _ _

theorem Part.LoopFollows.beginWork (h : p.LoopFollows x) (op : BulkOp) : (p.beginWork op).LoopFollows x := by
  cases op with
  | loadLimits n => exact h.setLoad (some ⟨.limits, n, 0, [], [], 0, 0, none⟩) (by simp)
  | loadPairs n => exact h.setLoad (some ⟨.pairs, n, 0, [], [], 0, 0, none⟩) (by simp)
  | applyShape => exact h.setShape []
  | loadMatrix | loadReference | loadSensors | readBank | readTable | copySnapshot =>
    exact h.of_same (by simp [Part.beginWork, Part.beginMatrix, Part.beginReadBank])

/-- A load of a limits or a pair table that completes: its entries are ordered (R106, R107). -/
theorem Part.LoopFollows.completeActuatorLoad (h : p.LoopFollows x) {l : ActuatorLoad} (hload : p.lpc.load = some l) :
    (p.completeActuatorLoad l).2.LoopFollows x := by
  refine h.of_lpc ?_ ?_ fun hp => hp.completeActuatorLoad (hp.loading l hload)
  all_goals
    simp only [Part.completeActuatorLoad, Part.limitsWait, Part.pairsWait]
    (repeat' split) <;> simp [Part.commitLimits, Part.commitPairs]

theorem Part.LoopFollows.completeLoad (h : p.LoopFollows x) (r : Running) : (p.completeLoad r).LoopFollows x := by
  unfold Part.completeLoad Part.conclude
  cases r.bulk.op with
  | loadReference | loadSensors =>
    dsimp only
    split
    · exact Part.LoopFollows.endLane (h.of_same (by simp)) _ _
    · exact h
  | loadLimits | loadPairs =>
    dsimp only
    split
    · next hload => exact (h.completeActuatorLoad hload).endLane _ _
    · exact h
  | applyShape => exact ((h.setShape []).judgeShape _).endLane _ _
  | loadMatrix | readBank | readTable | copySnapshot => exact h

theorem Part.LoopFollows.runLane (h : p.LoopFollows x) (r : Running) (reading : Bool) : (p.runLane r reading).LoopFollows x := by
  have hb : ((p.modXu fun y => { y with lane := some r }).beginWork r.bulk.op).LoopFollows x :=
    (h.setLane r).beginWork _
  unfold Part.runLane
  dsimp only
  (repeat' split)
  · exact hb.completeLoad r
  · exact hb.laneRead _ _ _
  · exact hb.confirm _
  · exact hb

theorem Part.LoopFollows.startHead (h : p.LoopFollows x) : p.startHead.LoopFollows x := by
  unfold Part.startHead
  split
  · next b rest _ _ =>
    have hq : (p.modXu fun y => { y with queue := rest }).LoopFollows x := h.of_same ⟨rfl, rfl, rfl⟩
    unfold Part.startBulk
    split
    · exact hq.finish _ _
    · exact hq.runLane _ _
    · exact hq.runLane _ _
  · exact h

theorem Part.LoopFollows.startHeads (h : p.LoopFollows x) (n : Nat) : (Part.startHeads n p).LoopFollows x := by
  induction n generalizing p with
  | zero => exact h
  | succ n ih => exact ih h.startHead

theorem Part.LoopFollows.placeEntries (h : p.LoopFollows x) (op : BulkOp) (entries : List (List Byte)) :
    (p.placeEntries op entries).LoopFollows x := by
  cases op with
  | loadLimits | loadPairs =>
    refine h.setLoad (p.lpc.load.map fun l => entries.foldl (ActuatorLoad.place p.geo.actuators) l) fun hp l hl => ?_
    obtain ⟨y, hy, rfl⟩ := Option.map_eq_some_iff.mp hl
    exact ActuatorLoad.foldl_place_ordered (hp.loading y hy) _ _
  | applyShape => exact h.setShape (p.lpc.shape ++ entries.map fun e => field16 e 0)
  | loadReference | loadSensors => exact h.of_same ⟨rfl, rfl, rfl⟩
  | loadMatrix | readBank | readTable | copySnapshot => exact h

theorem Part.LoopFollows.takeEntries (h : p.LoopFollows x) (r : Running) (bytes : List Byte) :
    (p.takeEntries r bytes).LoopFollows x := by
  have hq (entries : List (List Byte)) :
      ((p.modXu fun y => { y with lane := some (r.took bytes) }).placeEntries r.bulk.op entries).LoopFollows x :=
    (h.setLane _).placeEntries _ _
  unfold Part.takeEntries
  dsimp only
  split
  · exact (hq _).completeLoad _
  · exact hq _

theorem Part.LoopFollows.hostReadCompletion (h : p.LoopFollows x) (bytes : List Byte) :
    (p.hostReadCompletion bytes).LoopFollows x := by
  unfold Part.hostReadCompletion
  split
  · exact h
  · next r _ =>
    split
    · cases r.bulk.op with
      | loadMatrix => exact h.of_same (by simp)
      | loadReference | loadSensors | loadLimits | loadPairs | applyShape => exact h.takeEntries r bytes
      | readBank | readTable | copySnapshot => exact h
    · exact h

theorem Part.LoopFollows.issueImage (h : p.LoopFollows x) (r : Running) (bytes : List Byte) :
    (p.issueImage r bytes).LoopFollows x := by
  unfold Part.issueImage
  dsimp only
  split
  · exact Part.LoopFollows.confirm (h.of_same (by simp)) _
  · exact h.of_same (by simp)

theorem Part.LoopFollows.readerBurstComplete (h : p.LoopFollows x) : p.readerBurstComplete.LoopFollows x := by
  have hq : (p.modMxs Mxs.dropBurst).LoopFollows x := h.of_same ⟨rfl, rfl, rfl⟩
  unfold Part.readerBurstComplete
  split
  · dsimp only
    (repeat' split)
    · exact hq
    · exact hq.issueImage _ _
    · exact hq
  all_goals exact h

theorem Part.LoopFollows.hostWriteRequest (h : p.LoopFollows x) (length : Nat) : (p.hostWriteRequest length).LoopFollows x := by
  unfold Part.hostWriteRequest
  (repeat' split)
  · exact h
  · exact h
  · exact h
  · exact h.issueImage _ _

theorem Part.LoopFollows.hostAccessFailure (h : p.LoopFollows x) (read : FailedRead) : (p.hostAccessFailure read).LoopFollows x := by
  unfold Part.hostAccessFailure
  (repeat' split)
  · exact h.of_same (by simp)
  · exact h
  · exact h.failTransfer _
  · exact h
  · exact h

/-! ## Orders (R158 to R160) -/

theorem Part.LoopFollows.takeBulk (h : p.LoopFollows x) (o : Order) (ref : OrderRef) (e : Except Reason Taken) :
    (p.takeBulk o ref e).LoopFollows x := by
  unfold Part.takeBulk Part.enqueueBulk
  dsimp only
  (repeat' split)
  · exact h.of_same (by simp)
  · exact Part.LoopFollows.startHeads (h.of_same (by simp)) _
  · exact h.of_same (by simp)

theorem Part.LoopFollows.abortTransfer (h : p.LoopFollows x) (matchFlag ticket : Byte) :
    (p.abortTransfer matchFlag ticket).2.LoopFollows x := by
  unfold Part.abortTransfer
  (repeat' split)
  · exact h
  · exact h
  · exact h
  · exact (h.endEarly _ _).startHeads _

theorem Part.LoopFollows.finishIf (h : p.LoopFollows x) (ref : OrderRef)
    (r : Option OrderResult) : (Part.finishIf ref (r, p)).LoopFollows x := by
  cases r with
  | none => exact h
  | some r => exact h.finish ref r

/-- SWAP_MATRIX touches the store alone, with the fresh-bank mark (R82). -/
theorem Part.swapMatrix_loopSide (target : Byte) (ref : OrderRef) (p : Part) :
    (p.swapMatrix target ref).2.lpc = p.lpc ∧ (p.swapMatrix target ref).2.mlt = p.mlt ∧
    (p.swapMatrix target ref).2.tlu.interlock = p.tlu.interlock := by
  unfold Part.swapMatrix
  dsimp only
  (repeat' split) <;> simp

/-- An order that is carried out: those that touch the loop controller, a mirror link or INTERLOCK by their own lemmas, and the others
because they do not. -/
theorem Part.LoopFollows.carryOut (h : p.LoopFollows x) (o : Order) (ref : OrderRef) : (p.carryOut o ref).LoopFollows x := by
  cases o with
  | setLoop q => exact (h.setLoopOrder q).finish _ _
  | setGains q => exact (h.setGains q).finish _ _
  | setMirror q => exact (h.setMirror q).finish _ _
  | loopOpen => exact h.loopOpenOrder.finish _ _
  | loopClose ramp => exact (h.loopCloseOrder ramp).finish _ _
  | loopStop => exact h.loopStopOrder.finish _ _
  | resume => exact h.resumeOrder.finish _ _
  | flatten => exact h.flattenOrder.finish _ _
  | mirrorReset mirror => exact (h.mirrorReset mirror).finish _ _
  | mirrorProbe mirror => exact (h.mirrorProbe mirror ref).finishIf _ _
  | abortTransfer matchFlag ticket => exact (h.abortTransfer matchFlag ticket).finish _ _
  | setLines q => exact (h.setLines q).finish _ _
  | swapMatrix target => exact Part.LoopFollows.finishIf (h.of_same (p.swapMatrix_loopSide target ref)) _ _
  | loadMatrix | readBack | loadTable | applyShape | copySnapshot => exact h.takeBulk _ _ _
  | setGeometry | setSensor | setStore | setWindow | setExchange | setTelemetry | capture | setPacer | unknownKind =>
    exact Part.LoopFollows.finish (h.of_same (by simp)) _ _

theorem Part.LoopFollows.takeOrder (h : p.LoopFollows x) (o : Order) (ref : OrderRef) : (p.takeOrder o ref).LoopFollows x :=
  Part.LoopFollows.carryOut (h.of_same (by simp)) o ref

theorem Part.LoopFollows.orderCommand (h : p.LoopFollows x) (head : OrderHead) (o : Order) :
    (p.orderCommand head o).LoopFollows x := by
  rcases p.orderCommand_cases head o with ⟨_, hc⟩ | ⟨_, hc⟩ <;> rw [hc]
  · exact h
  · exact h.takeOrder _ _

theorem Part.LoopFollows.loseDuplicates (h : p.LoopFollows x) (losers : List PostedSlot) :
    (losers.foldl (fun y l => y.loseDuplicate l) p).LoopFollows x := by
  induction losers generalizing p with
  | nil => exact h
  | cons l rest ih => exact ih (h.of_same (by simp [Part.loseDuplicate]))

theorem Part.LoopFollows.takeOrders (h : p.LoopFollows x) (n : Nat) (eligible : List PostedSlot) :
    (Part.takeOrders n eligible p).LoopFollows x := by
  induction n generalizing p eligible with
  | zero => exact h
  | succ n ih =>
    simp only [Part.takeOrders]
    split
    · exact h
    · next posted losers _ =>
      have hl := h.loseDuplicates losers
      split
      · exact hl
      · exact ih (hl.takeOrder _ _) _

theorem Part.LoopFollows.sweepReadCompletion (h : p.LoopFollows x) (consumed : BitVec 32) (slots : List (List Byte)) :
    (p.sweepReadCompletion consumed slots).LoopFollows x := by
  unfold Part.sweepReadCompletion
  split
  · have hq : (p.acceptConsumed consumed).LoopFollows x := h.of_same (by simp)
    exact (hq.takeOrders 32 ((p.acceptConsumed consumed).eligibleSlots slots)).of_same (by simp)
  · exact h

/-! ## Resets and registers (R126, R149, R151, R172) -/

theorem Part.LoopFollows.stopLane (h : p.LoopFollows x) : p.stopLane.LoopFollows x := by
  unfold Part.stopLane
  split
  · exact h
  · exact h.endEarly _ _

theorem Part.LoopFollows.stopExchange (h : p.LoopFollows x) : p.stopExchange.LoopFollows x := by
  have hlane : (p.modXu fun y => { y with sweeping := false }).stopLane.LoopFollows x :=
    Part.LoopFollows.stopLane (h.of_same ⟨rfl, rfl, rfl⟩)
  have hswap : ((p.modXu fun y => { y with sweeping := false }).stopLane.stopQueue.cancelSwap .exchangeStopped).LoopFollows x :=
    hlane.of_same (by simp)
  have hprobes := (hswap.endProbe 0 (.failed .exchangeStopped)).endProbe 1 (.failed .exchangeStopped)
  exact hprobes.of_same (by simp [Part.stopExchange, Part.stopProbes])

/-- A part reset leaves the loop STOPPED, the integrator flat and no update (R126). -/
theorem Part.LoopFollows.partReset (h : p.LoopFollows x) : p.partReset.LoopFollows x := by
  have hlpc : p.partReset.lpc = p.lpc.reset := congrArg Lpc.reset (p.settle_sameBut .lpc (by decide))
  refine h.of_not_closed (by simp [hlpc, Lpc.reset]) fun hp => ?_
  rw [hlpc]
  exact hp.reset

theorem Part.powerUp_loopFollows (p x : Part) : p.powerUp.LoopFollows x :=
  ⟨fun _ => Part.closedLaw_of_not (by simp [Part.powerUp, Part.powerOn, Lpc.powerOn]), fun _ => Lpc.integratorLaw_powerOn⟩

theorem Part.LoopFollows.controlWrite (h : p.LoopFollows x) (exchEn reset : Bool) : (p.controlWrite exchEn reset).LoopFollows x := by
  unfold Part.controlWrite
  (repeat' split)
  · exact h.partReset
  · exact h.of_same (by simp)
  · exact h.stopExchange
  · exact h

theorem Part.LoopFollows.registerWrite (h : p.LoopFollows x) (offset : BitVec 12) (count : Nat) (value : BitVec 32) :
    (p.registerWrite offset count value).LoopFollows x := by
  unfold Part.registerWrite Part.wholeWrite
  (repeat' split)
  · exact h
  · exact h.controlWrite _ _
  · exact h.of_same (by simp)
  · exact h.of_same (by simp)
  · exact h.of_same (by simp)
  · exact h.of_same (by simp)
  · exact h

/-! ## The commands -/

/-- Every command keeps the laws of the loop controller: those that touch it, a mirror link or INTERLOCK by their own lemmas, an
order's command by what the order does, and the other events because they touch none of these. -/
theorem Part.LoopFollows.after (h : p.LoopFollows x) (c : Instr) : (p.after c).LoopFollows x := by
  cases c with
  | powerOn => exact p.powerUp_loopFollows x
  | partReset | functionLevelReset => exact h.partReset
  | exchEnStart | exchEnStop => exact h.controlWrite _ _
  | registerWriteIgnored offset count v => exact h.registerWrite offset count v
  | sealDecision => exact h.sealDecision
  | frameGapExpiry => exact h.frameGapExpiry
  | updateBegin => exact h.updateBegin
  | sendPoint => exact h.sendPoint
  | mirrorPacketArrival mirror early packet => exact h.mirrorPacketArrival mirror early packet
  | packetTransmitEnd mirror => exact h.packetTransmitEnd mirror
  | receiptTimerExpiry mirror => exact h.receiptTimerExpiry mirror
  | sweepReadCompletion consumed slots => exact h.sweepReadCompletion consumed slots
  | hostAccessFailure read => exact h.hostAccessFailure read
  | transferStart => exact h.startHead
  | hostReadCompletion bytes => exact h.hostReadCompletion bytes
  | readerBurstComplete => exact h.readerBurstComplete
  | hostWriteRequest length => exact h.hostWriteRequest length
  | interlockEdge => exact h.interlockEdge
  | lineSample interlock snap mark => exact h.lineSample interlock snap mark
  | exchBaseLoWrite | exchBaseHiWrite | eventsWrite | eventMaskWrite | timeLoRead | segmentArrival | quietTimerExpiry
  | admitSegment | deadlineExpiry | processEntry | handOnValue | arbiterGrant | columnBurstArrival | substitutionEnd
  | extractionEnd | sweepTimerExpiry | loaderBurstComplete | confirmingReadCompletion | snapEdge | markEdge | periodStart
  | pulseEnd => exact h.of_same (by simp [Part.after])
  | _ => exact h.orderCommand _ _

end Sys2Proof.Machine

namespace Sys2Proof.Proofs

open Sys2Proof.Machine

/-- Settles O53: what brings a link to FAULT or asserts INTERLOCK holds the loop in the same step, and LOOP_CLOSE checks both. -/
theorem closedLoopLawKept : Obligations.ClosedLoopLawKept :=
  kept_of_after (fun p h => ((Part.LoopFollows.refl p).of_same (by simp)).closed h) fun p c h =>
    ((Part.LoopFollows.refl p).after c).closed h

/-- Settles O58: a commit brings the integrator within the new limits, a vector replaces it only shaped by the live ones, and no
commit comes between the two while the loop stays CLOSED. -/
theorem integratorLawKept : Obligations.IntegratorLawKept :=
  kept_of_after (fun p h => ((Part.LoopFollows.refl p).of_same (by simp)).integrator h) fun p c h =>
    ((Part.LoopFollows.refl p).after c).integrator h

end Sys2Proof.Proofs
end

section
/-! SUPPORT. LOOP_CLOSE and RESUME (O27, O28): their checks in order, and the loop that moves. -/

namespace Sys2Proof.Machine

/-! ## A loop order that moves the loop (R94) -/

theorem Part.setLoop_moves {p : Part} {st : LoopState} (h : p.lpc.loop ≠ st) :
    p.setLoop st = (p.putLoop st).raise .loopState := if_neg h

theorem Part.inFault_iff (p : Part) (m : MirrorIx) :
    p.inFault m = true ↔ (p.mlt.get m).enable = true ∧ (p.mlt.get m).state = .fault := by
  simp [Part.inFault]

/-! ## LOOP_CLOSE (R97) -/

/-- The five checks in their order, as the statement names them (R97). -/
theorem Part.closeRefusal_eq (p : Part) : p.closeRefusal =
    if 0 < p.geo.mirror 0 ∧ (p.mlt.get 0).enable = false then some (.failedWith .wrongState 1)
    else if 0 < p.geo.mirror 1 ∧ (p.mlt.get 1).enable = false then some (.failedWith .wrongState 2)
    else if (p.mlt.get 0).enable = true ∧ (p.mlt.get 0).state = .fault then some (.failedWith .wrongState 1)
    else if (p.mlt.get 1).enable = true ∧ (p.mlt.get 1).state = .fault then some (.failedWith .wrongState 2)
    else if p.tlu.interlock.level = true then some (.failed .interlock)
    else none := by
  simp only [← Part.inFault_iff]
  simp [Part.closeRefusal, Geometry.mirror, Two.get]

theorem Part.loopCloseOrder_not_opened {p : Part} (h : p.lpc.loop ≠ .opened) (k : BitVec 16) :
    p.loopCloseOrder k = (.failed .wrongState, p) := if_pos h

theorem Part.loopCloseOrder_refused {p : Part} (h : p.lpc.loop = .opened) {r : OrderResult} (hr : p.closeRefusal = some r)
    (k : BitVec 16) : p.loopCloseOrder k = (r, p) := by
  simp [Part.loopCloseOrder, h, hr]

theorem Part.loopCloseOrder_closes {p : Part} (h : p.lpc.loop = .opened) (hr : p.closeRefusal = none) (k : BitVec 16) :
    p.loopCloseOrder k = (.adjustedDone (1023 < k.toNat), p.closeLoop (min 1023 k.toNat)) := by
  simp [Part.loopCloseOrder, h, hr]

/-- The loop becomes CLOSED, with the ramp length and its counts, and LOOP_STATE is raised (R94, R97). -/
theorem Part.closeLoop_eq {p : Part} (h : p.lpc.loop = .opened) (k : Nat) : ∃ m : Part, p.closeLoop k = m.raise .loopState ∧
    m.lpc = { loopMoved p.lpc .closed with rampLength := k, rampCount := 0, divCount := 0 } ∧ m.sameBut p [.lpc] := by
  refine ⟨_, Part.setLoop_moves (by simp [h]), rfl, ?_⟩
  simp [Part.sameBut_iff, Part.putLoop]

/-! ## RESUME (R101) -/

/-- The three checks in their order, as the statement names them (R101). -/
theorem Part.resumeRefusal_eq (p : Part) : p.resumeRefusal =
    if p.tlu.interlock.level = true then some (.failedWith .causePresent 1)
    else if (p.mlt.get 0).enable = true ∧ (p.mlt.get 0).state = .fault then some (.failedWith .causePresent 2)
    else if (p.mlt.get 1).enable = true ∧ (p.mlt.get 1).state = .fault then some (.failedWith .causePresent 3)
    else none := by
  simp only [← Part.inFault_iff]
  rfl

theorem Part.resumeOrder_not_held {p : Part} (h : p.lpc.loop ≠ .held) : p.resumeOrder = (.failed .nothingHeld, p) := if_pos h

theorem Part.resumeOrder_refused {p : Part} (h : p.lpc.loop = .held) {r : OrderResult} (hr : p.resumeRefusal = some r) :
    p.resumeOrder = (r, p) := by
  simp [Part.resumeOrder, h, hr]

theorem Part.resumeOrder_resumes {p : Part} (h : p.lpc.loop = .held) (hr : p.resumeRefusal = none) :
    p.resumeOrder = (.done, p.resumeLoop) := by
  simp [Part.resumeOrder, h, hr]

/-- The loop leaves HELD for OPEN, without its causes, and LOOP_STATE is raised (R40, R94, R101). -/
theorem Part.resumeLoop_eq {p : Part} (h : p.lpc.loop = .held) : ∃ m : Part, p.resumeLoop = m.raise .loopState ∧
    m.lpc = { loopMoved p.lpc .opened with causes := .empty, firstCause := none, divCount := 0 } ∧
    m.fra = { p.fra with
      abandons := 0
      gapTimer := some (p.tlu.timebase + BitVec.ofNat 64 (1000 * p.fra.gapMs)) } ∧
    m.sameBut p [.lpc, .fra] := by
  refine ⟨_, Part.setLoop_moves (by simp [h]), rfl, rfl, ?_⟩
  simp [Part.sameBut_iff, Part.putLoop, Part.restartAssembly, Part.startGapTimer]

end Sys2Proof.Machine

namespace Sys2Proof.Proofs

open Sys2Proof.Machine

/-- A loop order whose effect, from the part that took it on, leaves the TLU, the exchange unit and what is issued alone and then
raises LOOP_STATE. -/
theorem loopOrderDone_of_raised {p m : Part} {h : OrderHead} {changed : List Block} (hsame : m.sameBut (orderTaken p h) changed)
    (hclear : .xu ∉ changed ∧ .tlu ∉ changed ∧ .issued ∉ changed) (o : Order) (r : OrderResult) :
    loopOrderDone p ((m.raise .loopState).finish (p.orderRef h o) r) h r changed := by
  obtain ⟨hcx, hct, hci⟩ := hclear
  have htlu : m.tlu = p.tlu := hsame .tlu hct
  have hxu : m.xu = (orderTaken p h).xu := hsame .xu hcx
  have hsig : m.signal .loopState = p.signal .loopState :=
    Part.signal_congr _ (by rw [htlu]) (by rw [htlu]) (by rw [hxu]; rfl) (by rw [hxu]; rfl)
  refine raisedOrderDone_of_finished (q := m.raise .loopState) (by decide) (by simpa using hxu) (by simp [htlu]) ?_
    (Part.finish_orderFinished _ _ _) (Part.finish_sameBut _ _ _) ?_
  · rw [Part.raise_signal, hsig, hsame .issued hci]
  · have hraise : (m.raise .loopState).sameBut m [.tlu, .issued] := by simp [Part.sameBut_iff]
    have htaken : m.sameBut p ([.xu, .tlu, .issued] ++ changed) :=
      hsame.trans (q := orderTaken p h) (by simp [Part.sameBut_iff]) fun b hb => by simp [hb]
    exact hraise.trans htaken (by simp)

/-- Settles O27: LOOP_CLOSE, its five checks in their order. -/
theorem loopCloses : Obligations.LoopCloses := by
  intro s h k hready p refused lacking faulty
  have hexec := exec_control (c := .loopClose h k) (o := .loopClose k) rfl hready rfl
  have hrefused (r : OrderResult) (hr : (orderTaken p h).loopCloseOrder k = (r, orderTaken p h)) : refused r :=
    ⟨_, hexec, rfl, by rw [Part.carryOut, Part.finishWith, hr]; exact Part.answered_refused _ _ _ _⟩
  refine ⟨fun hl => hrefused _ (Part.loopCloseOrder_not_opened (p := orderTaken p h) hl k), fun hl => ?_⟩
  have hcheck (r : OrderResult) (hr : p.closeRefusal = some r) : refused r :=
    hrefused r (Part.loopCloseOrder_refused (p := orderTaken p h) hl hr k)
  have hchecks := p.closeRefusal_eq
  refine ⟨fun h0 => hcheck _ ?_, fun h0 h1 => hcheck _ ?_, fun h0 h1 hf => hcheck _ ?_, fun h0 h1 hf hg => hcheck _ ?_,
    fun h0 h1 hf hg hi => hcheck _ ?_, fun h0 h1 hf hg hi => ?_⟩
  · rw [hchecks, if_pos h0]
  · rw [hchecks, if_neg h0, if_pos h1]
  · rw [hchecks, if_neg h0, if_neg h1, if_pos hf]
  · rw [hchecks, if_neg h0, if_neg h1, if_neg hf, if_pos hg]
  · rw [hchecks, if_neg h0, if_neg h1, if_neg hf, if_neg hg, if_pos hi]
  · have hnone : p.closeRefusal = none := by
      rw [hchecks, if_neg h0, if_neg h1, if_neg hf, if_neg hg, if_neg (by simp [hi])]
    obtain ⟨m, hclose, hlpc, hsame⟩ := Part.closeLoop_eq (p := orderTaken p h) hl (min 1023 k.toNat)
    have hr := Part.loopCloseOrder_closes (p := orderTaken p h) hl hnone k
    rw [Part.carryOut, Part.finishWith, hr, hclose] at hexec
    have htlpc : ((m.raise .loopState).finish (p.orderRef h (.loopClose k)) (.adjustedDone (1023 < k.toNat))).lpc = m.lpc := by
      simp
    refine ⟨_, hexec, rfl, htlpc.trans hlpc, ?_, loopOrderDone_of_raised hsame (by decide) _ _⟩
    exact (loopClosedFollowsState_holds _).1 ((congrArg Lpc.loop (htlpc.trans hlpc)).trans rfl)

/-- Settles O28: RESUME, its three checks in their order. -/
theorem resumeOpens : Obligations.ResumeOpens := by
  intro s h hready p refused faulty
  have hexec := exec_control (c := .resume h) (o := .resume) rfl hready rfl
  have hrefused (r : OrderResult) (hr : (orderTaken p h).resumeOrder = (r, orderTaken p h)) : refused r :=
    ⟨_, hexec, rfl, by rw [Part.carryOut, Part.finishWith, hr]; exact Part.answered_refused _ _ _ _⟩
  refine ⟨fun hl => hrefused _ (Part.resumeOrder_not_held (p := orderTaken p h) hl), fun hl => ?_⟩
  have hcheck (r : OrderResult) (hr : p.resumeRefusal = some r) : refused r :=
    hrefused r (Part.resumeOrder_refused (p := orderTaken p h) hl hr)
  have hchecks := p.resumeRefusal_eq
  refine ⟨fun hi => hcheck _ ?_, fun hi h0 => hcheck _ ?_, fun hi h0 h1 => hcheck _ ?_, fun hi h0 h1 => ?_⟩
  · rw [hchecks, if_pos hi]
  · rw [hchecks, if_neg (by simp [hi]), if_pos h0]
  · rw [hchecks, if_neg (by simp [hi]), if_neg h0, if_pos h1]
  · have hnone : p.resumeRefusal = none := by rw [hchecks, if_neg (by simp [hi]), if_neg h0, if_neg h1]
    obtain ⟨m, hresume, hlpc, hfra, hsame⟩ := Part.resumeLoop_eq (p := orderTaken p h) hl
    have hr := Part.resumeOrder_resumes (p := orderTaken p h) hl hnone
    rw [Part.carryOut, Part.finishWith, hr, hresume] at hexec
    have htlpc : ((m.raise .loopState).finish (p.orderRef h .resume) .done).lpc = m.lpc := by simp
    have htfra : ((m.raise .loopState).finish (p.orderRef h .resume) .done).fra = m.fra := by simp
    refine ⟨_, hexec, rfl, htlpc.trans hlpc, ?_, htfra.trans hfra, loopOrderDone_of_raised hsame (by decide) _ _⟩
    exact (loopClosedFollowsState_holds _).2 (.inr (.inl ((congrArg Lpc.loop (htlpc.trans hlpc)).trans rfl)))

end Sys2Proof.Proofs
end

section
/-! SUPPORT. Records and the ends of updates (O30, O31): a record at the write point and in the queue, a fill of the snapshot store,
and what an update leaves when it ends. -/

namespace Sys2Proof.Machine

/-! ## The write point and the record queue (R180 to R182) -/

theorem Part.heldBack_iff (p : Part) (f : Serial) : p.heldBack f = true ↔ olderUnfinished p f := by
  have htwo (P : SlotIx → Prop) : (∃ k, P k) ↔ P 0 ∨ P 1 := Fin.exists_fin_two
  simp [olderUnfinished, htwo, Part.heldBack, AsmSlot.holdsBack, Part.slot, Two.get]

theorem Part.dropRecord_dropped (p : Part) : recordDropped p p.dropRecord := by
  refine ⟨p.dropRecord_tel, by simp [Part.dropRecord], ?_, by simp [Part.sameBut_iff, Part.dropRecord]⟩
  rw [Part.dropRecord, Part.raise_signal]
  exact congrArg _ (Part.signal_congr _ rfl rfl rfl rfl)

theorem Part.writeRecord_written (r : TelRecord) (p : Part) : recordWritten r p (p.writeRecord r) := by
  refine ⟨p.writeRecord_tel r, by simp [Part.writeRecord], ?_, by simp [Part.sameBut_iff, Part.writeRecord]⟩
  cases hm : p.xu.memRequests <;> simp [Part.writeRecord, Part.hostWrite, Part.issue, Part.modTlu, Part.modTel, Tel.nextAddr, hm]

theorem Part.writePoint_atWritePoint (r : TelRecord) (p : Part) : atWritePoint r p (p.writePoint r) := by
  have hroom : p.canWrite = true ↔
      p.xu.exchEn = true ∧ p.tel.ringSet = true ∧ (p.tel.written - p.tel.consumed).toNat < p.tel.capacity := by
    simp [Part.canWrite, Tel.hasRoom, and_assoc]
  unfold atWritePoint
  rw [← hroom]
  rcases p.writePoint_cases r with ⟨hcan, hw⟩ | ⟨hcan, hw⟩ <;> rw [hw]
  · exact ⟨fun _ => p.writeRecord_written r, fun h => absurd hcan h⟩
  · exact ⟨fun h => absurd h (by simp [hcan]), fun _ => p.dropRecord_dropped⟩

/-- The queue is released record by record (R180). -/
theorem Part.releaseRecords_released (l : List TelRecord) (q : Part) (hl : q.tel.queue = l) :
    released l q (Part.releaseRecords l.length q) := by
  induction l generalizing q with
  | nil => rfl
  | cons r rest ih =>
    simp only [List.length_cons, Part.releaseRecords, hl]
    refine ⟨fun hold => if_pos ((q.heldBack_iff _).mpr hold), fun hfree => ?_⟩
    rw [if_neg (mt (q.heldBack_iff _).mp hfree)]
    exact ⟨_, Part.writePoint_atWritePoint r (q.modTel fun t => { t with queue := rest }), ih _ (by simp)⟩

/-! ## The bytes of a record (R179, section 11.9) -/

theorem leBytes_length (size n : Nat) : (leBytes size n).length = size := by simp [leBytes]

theorem field16_append_left {a : List Byte} {offset : Nat} (h : offset + 1 < a.length) (b : List Byte) :
    field16 (a ++ b) offset = field16 a offset := by
  simp only [field16_eq, byteAt, List.getD_eq_getElem?_getD]
  rw [List.getElem?_append_left h, List.getElem?_append_left (by omega)]

theorem field16_append_right (a b : List Byte) (offset : Nat) : field16 (a ++ b) (a.length + offset) = field16 b offset := by
  simp only [field16_eq, byteAt, List.getD_eq_getElem?_getD, Nat.add_assoc]
  rw [List.getElem?_append_right (by omega), List.getElem?_append_right (by omega)]
  simp

/-- A count of a record, as its field reads: saturated (R179). -/
theorem field16_recordCount16 (n : Nat) : (field16 (recordCount16 n) 0).toNat = min 65535 n := by
  rw [recordCount16, leBytes_two, field16_eq]
  simp only [byteAt, List.getD_cons_succ, List.getD_cons_zero, bytes_append, BitVec.toNat_ofNat]
  omega

/-- A record is its first 36 bytes, the two counts of its writing, and the energy with zeros (R181). -/
theorem recordBytes_eq (r : TelRecord) (edges since : Nat) : ∃ front : List Byte, front.length = 36 ∧ field16 front 0 = r.frame ∧
    recordBytes r edges since =
      front ++ recordCount16 edges ++ recordCount16 since ++ leBytes 8 (r.energy.getD 0).toNat ++ zeros 16 := by
  refine ⟨_, ?_, ?_, rfl⟩
  · simp [leBytes_length, recordCount16]
  · simp only [List.append_assoc]
    rw [field16_append_left (by simp [leBytes_length]), leBytes_two, field16_eq]
    simpa [byteAt] using bytes_append_word r.frame

theorem recordBytes_fields (r : TelRecord) (edges since : Nat) :
    (recordBytes r edges since).length = 64 ∧ field16 (recordBytes r edges since) 0 = r.frame ∧
      (field16 (recordBytes r edges since) 0x24).toNat = min 65535 edges ∧
      (field16 (recordBytes r edges since) 0x26).toNat = min 65535 since := by
  obtain ⟨front, hlen, hframe, heq⟩ := recordBytes_eq r edges since
  have hcount (n : Nat) : (recordCount16 n).length = 2 := leBytes_length _ _
  have hedges : field16 (front ++ recordCount16 edges) 0x24 = field16 (recordCount16 edges) 0 := by
    simpa [hlen] using field16_append_right front (recordCount16 edges) 0
  have hsince : field16 (front ++ recordCount16 edges ++ recordCount16 since) 0x26 = field16 (recordCount16 since) 0 := by
    simpa [hlen, hcount] using field16_append_right (front ++ recordCount16 edges) (recordCount16 since) 0
  rw [heq]
  refine ⟨by simp [hlen, hcount, leBytes_length, zeros], ?_, ?_, ?_⟩
  · simp only [List.append_assoc]
    rw [field16_append_left (by omega), hframe]
  · rw [field16_append_left (by simp [hlen, hcount, leBytes_length]), field16_append_left (by simp [hlen, hcount]),
      field16_append_left (by simp [hlen, hcount]), hedges, field16_recordCount16]
  · rw [field16_append_left (by simp [hlen, hcount, leBytes_length]), field16_append_left (by simp [hlen, hcount]), hsince,
      field16_recordCount16]

/-! ## The end of an update (R120, R178, R188, R189) -/

/-- The record of an update, as the statements name it (R178, R179). -/
theorem Part.updateRecord_eq (k : SlotIx) (g : Geometry) (u : UpdateReport) (snapshot : Bool) (p : Part) :
    p.updateRecord k g u snapshot = updateRecordOf p k g u snapshot := by
  have hc : Four.make ((p.slot k).sensorWhole g) = Four.make fun i => decide (segmentsWhole g (p.slot k) i) :=
    congrArg Four.make (funext fun i => AsmSlot.sensorWhole_eq _ _ i)
  exact congrArg (fun c => { updateRecordOf p k g u snapshot with complete := c }) hc

theorem SlopeStatus.snapshotValue_eq (x : SlopeStatus) : x.snapshotValue = match x with
    | .valid c | .substituted c => c
    | .missing | .invalid => 0 := by
  cases x <;> rfl

/-- A fill, as the statements name it (R188, R189). -/
theorem Part.fillSnapshot_filled (k : SlotIx) (g : Geometry) (ramp : Bool) (p : Part) :
    snapshotFilled p (p.fillSnapshot k g ramp) k g ramp := by
  refine ⟨?_, fun j => ?_, fun a => ?_, fun a => ?_⟩
  · have hrenewed : (if p.sns.copying then true else p.sns.renewed) = decide (p.sns.copying = true ∨ p.sns.renewed = true) := by
      cases p.sns.copying <;> simp
    exact congrArg (fun b => { (p.fillSnapshot k g ramp).sns with renewed := b }) hrenewed
  · exact (Sparse.get_setAll _ _ _ _ _).trans (if_congr List.mem_range (SlopeStatus.snapshotValue_eq _) rfl)
  · exact (Sparse.get_setAll _ _ _ _ _).trans (if_congr List.mem_range rfl rfl)
  · exact (Sparse.get_setAll _ _ _ _ _).trans (if_congr List.mem_range rfl rfl)

/-- A fill as the snapshot store alone shows it. -/
theorem snapshotFilled_congr {p t t' : Part} {k : SlotIx} {g : Geometry} {ramp : Bool} (h : snapshotFilled p t k g ramp)
    (hsns : t'.sns = t.sns) : snapshotFilled p t' k g ramp := by
  unfold snapshotFilled
  rw [hsns]
  exact h

/-- The part at the end of an update, before its record is handled: a pending capture has filled the snapshot store, the slot is
FREE, and no update runs (R120, R188). -/
def Part.updateClosed (k : SlotIx) (g : Geometry) (ramp : Bool) (p : Part) : Part :=
  ((if p.sns.capturePending then p.fillSnapshot k g ramp else p).modSlot k fun x => { x with state := .free }).modLpc fun l =>
    { l with update := none }

theorem Part.updateClosed_eq (k : SlotIx) (g : Geometry) (ramp : Bool) (p : Part) : p.updateClosed k g ramp = { p with
    fra := { p.fra with slots := p.fra.slots.set k { p.slot k with state := .free } }
    lpc := { p.lpc with update := none }
    sns := (p.updateClosed k g ramp).sns } := by
  unfold Part.updateClosed
  split <;> rfl

theorem Part.endUpdate_eq (k : SlotIx) (g : Geometry) (u : UpdateReport) (ramp : Bool) (p : Part) :
    let r := (p.updateClosed k g ramp).submitRecord (updateRecordOf p k g u p.sns.capturePending)
    p.endUpdate k g u ramp = if p.sns.capturePending then r.raise .snapshotHeld else r := by
  have hrecord (q : Part) (hq : q = { p with sns := q.sns }) :
      q.updateRecord k g u p.sns.capturePending = updateRecordOf p k g u p.sns.capturePending := by
    rw [Part.updateRecord_eq, hq]
    rfl
  unfold Part.endUpdate
  dsimp only
  rw [hrecord _ (by split <;> rfl)]
  rfl

/-- An update that ends, as the statements name it (R120). -/
theorem Part.endUpdate_ended (k : SlotIx) (g : Geometry) (u : UpdateReport) (ramp : Bool) (p : Part) :
    updateEnded p (p.endUpdate k g u ramp) k g u ramp := by
  have hend := p.endUpdate_eq k g u ramp
  have hbase := p.updateClosed_eq k g ramp
  have hsns : (p.updateClosed k g ramp).sns = (if p.sns.capturePending then p.fillSnapshot k g ramp else p).sns := rfl
  set base := p.updateClosed k g ramp
  have halike : base.RecordsAlike { p with fra := { p.fra with slots := p.fra.slots.set k { p.slot k with state := .free } } } := by
    rw [hbase]
    exact ⟨rfl, rfl, rfl, rfl, rfl, rfl, rfl⟩
  obtain ⟨htel, htlu, -, hissued, -⟩ := halike.submitRecord (updateRecordOf p k g u p.sns.capturePending)
  have hraised := ((halike.submitRecord (updateRecordOf p k g u p.sns.capturePending)).raise .snapshotHeld).issued
  have hfra : base.fra = { p.fra with slots := p.fra.slots.set k { p.slot k with state := .free } } := by rw [hbase]
  have hlpc : base.lpc = { p.lpc with update := none } := by rw [hbase]
  have hsame : base.sameBut p [.fra, .lpc, .sns] := by rw [hbase]; simp [Part.sameBut_iff]
  have hkeeps : (base.submitRecord (updateRecordOf p k g u p.sns.capturePending)).sameBut p
      [.fra, .lpc, .tel, .sns, .tlu, .issued] :=
    Part.sameBut.trans (q := base) (l := [.tel, .tlu, .issued]) (by simp [Part.sameBut_iff])
      (hsame.mono (by simp)) (by simp)
  unfold updateEnded
  dsimp only
  cases hshot : p.sns.capturePending with
  | false =>
    rw [hshot] at hend htel htlu hissued hkeeps hsns
    rw [hend]
    refine ⟨by simpa using hfra, by simpa using hlpc, htel, fun _ => ⟨by simpa using hsns, htlu, hissued⟩, nofun, hkeeps⟩
  | true =>
    rw [hshot] at hend htel htlu hraised hkeeps hsns
    rw [hend]
    refine ⟨by simpa using hfra, by simpa using hlpc, by simpa using htel, nofun, fun _ => ⟨?_, ?_, ?_⟩, ?_⟩
    · exact snapshotFilled_congr (p.fillSnapshot_filled k g ramp) (by simpa using hsns)
    · simp [htlu]
    · exact hraised.trans (Part.raise_signal _ _)
    · exact Part.sameBut.trans (l := [.tlu, .issued]) (by simp [Part.sameBut_iff]) hkeeps (by simp)

end Sys2Proof.Machine
end

section
/-! SUPPORT. The send point (O31): the integrator that a vector replaces, the hand-over, and the end of the update. -/

namespace Sys2Proof.Machine

/-- The two hand-overs of an update, as the statements name them (R119). -/
theorem Part.handTo_handedOver (p : Part) (g : Geometry) (codes : List Nat) :
    handedOver p g codes (p.handTo g 0 codes) ((p.handTo g 0 codes).part.handTo g 1 codes) := ⟨rfl, rfl⟩

theorem Part.sendPoint_idle {p : Part} (h : p.lpc.update = none) : p.sendPoint = p := by simp [Part.sendPoint, h]

theorem Part.sendPoint_closed {p : Part} {u : Update} (h : p.lpc.update = some u) (hc : u.closed = true) :
    p.sendPoint = p.sendVector u := by
  simp [Part.sendPoint, h, hc]

theorem Part.sendPoint_moved {p : Part} {u : Update} (h : p.lpc.update = some u) (hc : u.closed = false) :
    p.sendPoint = p.endUpdate u.slot u.geo (.silent true u.clamps u.neighbours) u.ramp := by
  simp [Part.sendPoint, h, hc]

/-- What an update that ends leaves of a part q, which differs from p at most in the integrator and the mirror links. -/
structure Part.AfterUpdate (p t : Part) (k : SlotIx) : Prop where
  slot : t.slot k = { p.slot k with state := .free }
  otherSlot : t.slot (other k) = p.slot (other k)
  lpc : t.lpc = { p.lpc with u := t.lpc.u, update := none }
  fra : t.fra = { p.fra with slots := t.fra.slots }
  rest : t.sameBut p [.fra, .lpc, .mlt, .tel, .sns, .tlu, .issued]

theorem updateEnded_afterUpdate {p q t : Part} {k : SlotIx} {g : Geometry} {u : UpdateReport} {ramp : Bool}
    (h : updateEnded q t k g u ramp) (hq : q.sameBut p [.lpc, .mlt, .tlu, .issued])
    (hlpc : q.lpc = { p.lpc with u := q.lpc.u }) : p.AfterUpdate t k := by
  obtain ⟨hfra, htlpc, -, -, -, hrest⟩ := h
  have hqfra : q.fra = p.fra := hq .fra (by decide)
  have hslot (j : SlotIx) : q.slot j = p.slot j := congrArg (Two.get · j) (congrArg Fra.slots hqfra)
  refine ⟨?_, ?_, ?_, ?_, hrest.trans (hq.mono (by simp)) (by simp)⟩
  · rw [Part.slot, hfra, Two.get_set_self, hslot]
  · rw [Part.slot, hfra, Two.get_set_other _ _ _ _ (other_ne k)]
    exact hslot _
  · rw [htlpc, hlpc]
  · rw [hfra, hqfra]

end Sys2Proof.Machine

namespace Sys2Proof.Proofs

open Sys2Proof.Machine

/-- A record in the queue, at the write point, and its bytes (O31's second part). -/
theorem recordsKeptInOrder_holds : recordsKeptInOrder := by
  refine ⟨fun p r => ⟨fun hold hroom => ?_, fun hold hfull => ?_, fun hfree => ?_⟩, recordBytes_fields⟩
  · rw [Part.submitRecord, if_pos ((p.heldBack_iff _).mpr hold), if_pos hroom]
    rfl
  · rw [Part.submitRecord, if_pos ((p.heldBack_iff _).mpr hold), if_neg (by omega)]
    exact p.dropRecord_dropped
  · rw [Part.submitRecord, if_neg (mt (p.heldBack_iff _).mp hfree)]
    refine ⟨_, p.writePoint_atWritePoint r, ?_⟩
    rw [← p.writePoint_records r]
    exact Part.releaseRecords_released _ _ rfl

/-- The send point (O31's first part). -/
theorem sendPointReplaces_holds : sendPointReplaces := by
  intro s
  have hexec : exec .sendPoint s = .next { s with part := s.part.sendPoint } := rfl
  refine ⟨fun hnone => by rw [hexec, Part.sendPoint_idle hnone], fun u hu => ⟨_, hexec, rfl, ?_⟩⟩
  dsimp only
  cases hc : u.closed with
  | true =>
    rw [Part.sendPoint_closed hu hc]
    set q := s.part.putVector u.shaped
    have hover := q.handTo_handedOver u.geo u.codes
    set h0 := q.handTo u.geo 0 u.codes with hh0
    set h1 := h0.part.handTo u.geo 1 u.codes with hh1
    have hended : updateEnded h1.part (s.part.sendVector u) u.slot u.geo ⟨false, u.clamps, u.neighbours, h0.seq, h1.seq⟩ u.ramp :=
      Part.endUpdate_ended _ _ _ _ _
    obtain ⟨-, htlpc, -, -, -, hrest⟩ := id hended
    have hlpc : h1.part.lpc = q.lpc := by simp [hh1, hh0]
    have hu' : (s.part.sendVector u).lpc.u = q.lpc.u := by rw [htlpc, hlpc]
    have hq : q = { s.part with lpc := { s.part.lpc with u := (s.part.sendVector u).lpc.u } } := by rw [hu']; rfl
    have hsame : h1.part.sameBut s.part [.lpc, .mlt, .tlu, .issued] := by simp [Part.sameBut_iff, hh1, hh0, q, Part.putVector]
    have hafter := updateEnded_afterUpdate hended hsame (by rw [hlpc]; rfl)
    refine ⟨hafter.slot, hafter.otherSlot, by rw [hafter.lpc], fun _ => ⟨fun a => ?_, h0, h1, hq ▸ hover, ?_, hended⟩, nofun,
      hafter.lpc, hafter.fra, hafter.rest⟩
    · rw [Lpc.value, hu']
      exact s.part.putVector_value u.shaped a
    · exact hrest .mlt (by decide)
  | false =>
    rw [Part.sendPoint_moved hu hc]
    have hended := s.part.endUpdate_ended u.slot u.geo (.silent true u.clamps u.neighbours) u.ramp
    obtain ⟨-, htlpc, -, -, -, hrest⟩ := id hended
    have hafter := updateEnded_afterUpdate hended (p := s.part) (by simp [Part.sameBut_iff]) rfl
    exact ⟨hafter.slot, hafter.otherSlot, by rw [hafter.lpc], nofun,
      fun _ => ⟨by rw [htlpc], hrest .mlt (by decide), hended⟩, hafter.lpc, hafter.fra, hafter.rest⟩

/-- Settles O31: the send point, and what becomes of the record that it forms. -/
theorem sendPointReplaces : Obligations.SendPointReplaces := ⟨sendPointReplaces_holds, recordsKeptInOrder_holds⟩

end Sys2Proof.Proofs
end

section
/-! SUPPORT. UPDATE_BEGIN (O30): the slot that an update takes, the commit, the guard, and the update that runs. -/

namespace Sys2Proof.Machine

/-! ## The slot that an update takes (R110) -/

/-- Of two frames at most one is newer than the other. -/
theorem newer_asymm {x y : Serial} (h : newer x y = true) : newer y x = false := by
  simp only [newer, Bool.and_eq_true, decide_eq_true_eq] at h
  simp only [newer, Bool.and_eq_false_iff, decide_eq_false_iff_not]
  have hx := x.isLt
  have hy := y.isLt
  rw [BitVec.toNat_sub] at h
  rw [BitVec.toNat_sub]
  omega

theorem Part.sealedSlot_eq {p : Part} {k : SlotIx} (h : updateTakes p k) : p.sealedSlot = some k := by
  obtain ⟨hsealed, holder⟩ := h
  unfold Part.sealedSlot Part.frameOrder Part.isNewer
  match k with
  | 0 =>
    cases hnewer : newer (p.slot 0).frame (p.slot (other 0)).frame with
    | false => simp [hsealed]
    | true =>
      have hother : (p.slot 1).state ≠ .sealed := fun hs => by
        have := newer_asymm (holder hs)
        simp_all
      simp [List.find?, hsealed, hother]
  | 1 =>
    cases hnewer : newer (p.slot 0).frame (p.slot (other 0)).frame with
    | true => simp [hsealed]
    | false =>
      have hother : (p.slot 0).state ≠ .sealed := fun hs => by
        have : newer (p.slot 0).frame (p.slot 1).frame = true := holder hs
        exact absurd (this.symm.trans hnewer) (by decide)
      simp [List.find?, hsealed, hother]

theorem Part.sealedSlot_eq_none {p : Part} (h : ∀ k, (p.slot k).state ≠ .sealed) : p.sealedSlot = none :=
  List.find?_eq_none.mpr fun k _ => by simp [h k]

/-- The slot is UPDATING (R110). -/
def Part.taken (k : SlotIx) (p : Part) : Part := p.modSlot k fun x => { x with state := .updating }

theorem Part.updateBegin_idle {p : Part}
    (h : p.lpc.loop = .stopped ∨ p.lpc.update.isSome = true ∨ ∀ k, (p.slot k).state ≠ .sealed) : p.updateBegin = p := by
  unfold Part.updateBegin
  rcases h with h | h | h
  · simp [h]
  · simp [h]
  · rw [Part.sealedSlot_eq_none h]
    split <;> rfl

theorem Part.updateBegin_reportOnly {p : Part} {k : SlotIx} (hnone : p.lpc.update = none)
    (hloop : p.lpc.loop = .opened ∨ p.lpc.loop = .held) (h : updateTakes p k) : p.updateBegin = (p.taken k).reportOnly k := by
  rcases hloop with hl | hl <;> simp [Part.updateBegin, Part.beginUpdate, Part.sealedSlot_eq h, hnone, hl, Part.taken]

theorem Part.updateBegin_full {p : Part} {k : SlotIx} (hnone : p.lpc.update = none) (hloop : p.lpc.loop = .closed)
    (h : updateTakes p k) : p.updateBegin = (p.taken k).fullUpdate k := by
  simp [Part.updateBegin, Part.beginUpdate, Part.sealedSlot_eq h, hnone, hloop, Part.taken]

/-- The end of an update whose slot was taken in the same step: neither the record nor a fill reads the state of the slot. -/
theorem updateEnded_of_taken {p t : Part} {k : SlotIx} {g : Geometry} {u : UpdateReport} {ramp : Bool}
    (h : updateEnded (p.taken k) t k g u ramp) : updateEnded p t k g u ramp := by
  obtain ⟨hfra, hlpc, htel, hno, hyes, hrest⟩ := h
  have hsame : t.sameBut p [.fra, .lpc, .tel, .sns, .tlu, .issued] :=
    Part.sameBut.trans hrest (by simp [Part.sameBut_iff, Part.taken]) (by simp)
  match k with
  | 0 | 1 => exact ⟨hfra, hlpc, htel, hno, hyes, hsame⟩

/-! ## The commit (R105, R111) -/

/-- The loop controller at the begin of a full update, its waiting tables committed (R105, R111). -/
def Lpc.atCommit (l : Lpc) : Lpc := { committed l with u := if l.limWaiting then bringAll l.limShadow l.u else l.u }

theorem Part.commitActuatorSide_eq (p : Part) : p.commitActuatorSide = { p with lpc := p.lpc.atCommit } := by
  have hrest : p.commitActuatorSide = { p with lpc := p.commitActuatorSide.lpc } := by
    unfold Part.commitActuatorSide
    dsimp only
    (repeat' split) <;> rfl
  rw [hrest, Part.commitActuatorSide_lpc]
  rfl

/-- An integrator value after the commit: brought within limits that are new (R105). -/
theorem Lpc.atCommit_value (l : Lpc) (a : Nat) : l.atCommit.value a =
    if l.limWaiting then bringWithin ((committed l).limit a) (l.value a) else l.value a := by
  unfold Lpc.value Lpc.atCommit
  dsimp only
  split
  · next hw => rw [get_bringAll, Lpc.limit, committed, if_pos hw]
  · rfl

/-- The active actuators that the commit moves are those that its limits clamp (R111). -/
theorem Part.commitClamps_eq (p : Part) : p.commitClamps = (List.range (p.geo.a0 + p.geo.a1)).countP fun a =>
    p.lpc.limWaiting && ((committed p.lpc).limit a).active && decide (p.lpc.atCommit.value a ≠ p.lpc.value a) := by
  unfold Part.commitClamps
  split
  · next hw =>
    refine List.countP_congr fun a _ => ?_
    rw [Lpc.atCommit_value, if_pos hw]
    have hlimit : (committed p.lpc).limit a = Sparse.get Limits.powerOn p.lpc.limShadow a := by simp [Lpc.limit, committed, hw]
    rw [hlimit]
    simp only [Bool.and_eq_true, hw, true_and]
    refine and_congr_right fun hact => ?_
    rw [bringWithin, if_pos hact]
    rfl
  · next hw => simp [hw]

/-! ## The guard (R112) -/

theorem Part.aboveThreshold_iff (p : Part) (k : SlotIx) : p.aboveThreshold k = true ↔
    0 < p.lpc.threshold.toNat ∧ p.lpc.threshold.toNat < (p.rca.residual.get k).energy.toNat := by
  rw [Part.aboveThreshold, Bool.and_eq_true, decide_eq_true_eq, decide_eq_true_eq]
  rfl

theorem Part.diverges_iff (p : Part) (k : SlotIx) : p.diverges k = true ↔
    (0 < p.lpc.threshold.toNat ∧ p.lpc.threshold.toNat < (p.rca.residual.get k).energy.toNat) ∧
      p.lpc.divLimit ≤ min 255 (p.lpc.divCount + 1) := by
  rw [← Part.aboveThreshold_iff, Part.diverges, Bool.and_eq_true, decide_eq_true_eq]
  refine and_congr_right fun h => ?_
  rw [show p.guardCount k = min 255 (p.lpc.divCount + 1) from if_pos h]

/-! ## The update that runs (R113 to R117) -/

theorem effectiveGain_eq (g k n : Nat) : effectiveGain g k n = if 0 < n ∧ k ≤ n then g * k / n else g := by
  simp [effectiveGain]

/-- A full update that the guard holds: the loop is HELD, and the update ends (R112, R120; log entry 20). -/
theorem Part.fullUpdate_diverges {p : Part} {k : SlotIx} (hloop : p.lpc.loop = .closed) (hnone : p.lpc.update = none)
    (h : p.commitActuatorSide.diverges k = true) : p.fullUpdate k =
    (({ p with lpc := { p.lpc.atCommit with
        loop := .held
        causes := CauseSet.empty.add .divergence
        firstCause := some .divergence
        divCount := min 255 (p.lpc.divCount + 1) } } : Part).raise .loopState).endUpdate k p.geo
      ⟨true, p.commitClamps, 0, none, none⟩ false := by
  have habove : p.commitActuatorSide.aboveThreshold k = true := by
    unfold Part.diverges at h
    exact (Bool.and_eq_true_iff.mp h).1
  have hcount : p.commitActuatorSide.guardCount k = min 255 (p.lpc.divCount + 1) := by
    rw [Part.guardCount, if_pos habove, Part.commitActuatorSide_eq]
    rfl
  have hclosed : (p.commitActuatorSide.modLpc fun l => { l with divCount := min 255 (p.lpc.divCount + 1) }).lpc.loop = .closed := by
    rw [Part.commitActuatorSide_eq]
    exact hloop
  have hmap : p.lpc.atCommit.update.map (fun u => { u with closed := false }) = p.lpc.atCommit.update := by
    rw [show p.lpc.atCommit.update = none from hnone]
    rfl
  unfold Part.fullUpdate
  dsimp only
  rw [if_pos h, hcount, Part.takeHold_moves _ (.inr hclosed), Part.commitActuatorSide_eq]
  simp only [Part.putLoop, Part.modLpc, hmap]
  rfl

theorem Part.fullUpdate_runs {p : Part} {k : SlotIx} (h : p.commitActuatorSide.diverges k = false) :
    let c : Part := { p with lpc := { p.lpc.atCommit with divCount := p.commitActuatorSide.guardCount k } }
    p.fullUpdate k = { p with lpc := { c.lpc with
      rampCount := p.lpc.nextRamp, update := some (c.formUpdate k p.commitClamps) } } := by
  unfold Part.fullUpdate
  dsimp only
  rw [if_neg (by simp [h]), Part.commitActuatorSide_eq]
  rfl

theorem Part.raise_eq (e : Event) (p : Part) : p.raise e = { p with
    tlu := { p.tlu with events := withFlag p.tlu.events e }
    issued := p.issued ++ p.signal e } := by
  have hrest : p.raise e = { p with tlu := (p.raise e).tlu, issued := (p.raise e).issued } := by
    unfold Part.raise Part.sendMsi
    dsimp only
    (repeat' split) <;> rfl
  rw [hrest, Part.raise_tlu, Part.raise_signal]

end Sys2Proof.Machine
end

section
/-! SUPPORT. UPDATE_BEGIN (O30), continued: what an update that runs has integrated and shaped, and the two forms of an update. -/

namespace Sys2Proof.Machine

/-- The part that a full update of slot k integrates from: its tables committed, its guard counted (R111, R112). -/
def Part.guarded (k : SlotIx) (p : Part) : Part :=
  { p.taken k with lpc := { p.lpc.atCommit with divCount := (p.taken k).commitActuatorSide.guardCount k } }

/-- The guard of a full update, read on the part that it begins with (R112). -/
theorem Part.taken_diverges_iff (p : Part) (k : SlotIx) : (p.taken k).commitActuatorSide.diverges k = true ↔
    (0 < p.lpc.threshold.toNat ∧ p.lpc.threshold.toNat < (p.rca.residual.get k).energy.toNat) ∧
      p.lpc.divLimit ≤ min 255 (p.lpc.divCount + 1) := by
  rw [Part.diverges_iff, Part.commitActuatorSide_eq]
  rfl

theorem Part.taken_guardCount (p : Part) (k : SlotIx) : (p.taken k).commitActuatorSide.guardCount k =
    if 0 < p.lpc.threshold.toNat ∧ p.lpc.threshold.toNat < (p.rca.residual.get k).energy.toNat then
      min 255 (p.lpc.divCount + 1) else 0 := by
  rw [Part.commitActuatorSide_eq]
  exact if_congr (Part.aboveThreshold_iff _ k) rfl rfl

/-- The gain and the leak of an actuator, by its mirror (R113, R114). -/
theorem Part.guarded_newValue (p : Part) (k : SlotIx) (ramp a : Nat) :
    let m : MirrorIx := if a < p.geo.a0 then 0 else 1
    let g := ((committed p.lpc).gainLive.get m).gain
    let gain := if 0 < p.lpc.rampLength ∧ ramp ≤ p.lpc.rampLength then g * ramp / p.lpc.rampLength else g
    let e := Sparse.get 0 (p.rca.residual.get k).e a
    let leak := ((committed p.lpc).gainLive.get m).leak
    (p.guarded k).newValue k ramp a = integrate ((committed p.lpc).limit a) (p.lpc.atCommit.value a) e leak gain ∧
      (p.guarded k).newValueClamps k ramp a =
        integrateClamps ((committed p.lpc).limit a) (p.lpc.atCommit.value a) e leak gain := by
  intro m g gain e leak
  have hgain : (p.guarded k).lpc.gainOf ((p.guarded k).geo.mirrorOf a) ramp = gain := effectiveGain_eq _ _ _
  unfold Part.newValue Part.newValueClamps
  dsimp only
  rw [hgain]
  exact ⟨rfl, rfl⟩

/-- A full update that runs (R113 to R117). -/
theorem Part.fullUpdate_running {p : Part} {k : SlotIx} (h : (p.taken k).commitActuatorSide.diverges k = false) :
    (p.taken k).fullUpdate k = { p.taken k with lpc := { (p.guarded k).lpc with
      rampCount := p.lpc.nextRamp
      update := some ((p.guarded k).formUpdate k p.commitClamps) } } := Part.fullUpdate_runs h

/-- The part that the guard leaves when it holds the loop, before the update ends (R99, R112; log entry 20). -/
def Part.guardHeld (p : Part) : Part :=
  { p with
    lpc := { p.lpc.atCommit with
      loop := .held
      causes := CauseSet.empty.add .divergence
      firstCause := some .divergence
      divCount := min 255 (p.lpc.divCount + 1) }
    tlu := { p.tlu with events := withFlag p.tlu.events .loopState }
    issued := p.issued ++ p.signal .loopState }

/-- A full update that the guard holds ends at once, marked discarded (R112, R120; log entry 20). -/
theorem Part.fullUpdate_held {p : Part} {k : SlotIx} (hloop : p.lpc.loop = .closed) (hnone : p.lpc.update = none)
    (h : (p.taken k).commitActuatorSide.diverges k = true) :
    updateEnded p.guardHeld ((p.taken k).fullUpdate k) k p.geo ⟨true, p.commitClamps, 0, none, none⟩ false := by
  rw [Part.fullUpdate_diverges (p := p.taken k) hloop hnone h, Part.raise_eq]
  exact updateEnded_of_taken (p := p.guardHeld) (Part.endUpdate_ended _ _ _ _ _)

end Sys2Proof.Machine

namespace Sys2Proof.Proofs

open Sys2Proof.Machine

/-- No update, and the report-only one (O30's first part). -/
theorem reportOnlyUpdate_holds : reportOnlyUpdate := by
  intro s
  have hexec : exec .updateBegin s = .next { s with part := s.part.updateBegin } := rfl
  refine ⟨fun h => by rw [hexec, Part.updateBegin_idle h], fun k hnone hloop htakes => ⟨_, hexec, rfl, ?_⟩⟩
  dsimp only
  rw [Part.updateBegin_reportOnly hnone hloop htakes]
  have hended : updateEnded s.part ((s.part.taken k).reportOnly k) k s.part.geo ⟨false, 0, 0, none, none⟩ false :=
    updateEnded_of_taken (Part.endUpdate_ended _ _ _ _ _)
  obtain ⟨hfra, hlpc, -⟩ := id hended
  exact ⟨by rw [hlpc, ← hnone], hfra, hended⟩

/-- The full update (O30's second part). -/
theorem fullUpdate_holds : fullUpdate := by
  intro s k hloop hnone htakes p l count energy above ramp diverging
  have hexec : exec .updateBegin s = .next { s with part := s.part.updateBegin } := rfl
  rw [Part.updateBegin_full hnone hloop htakes] at hexec
  have hdecides := p.taken_diverges_iff k
  have hvalue {t : Part} (hu : t.lpc.u = p.lpc.atCommit.u) (a : Nat) : t.lpc.value a = p.lpc.atCommit.value a :=
    congrArg (Sparse.get integratorPowerOn · a) hu
  have hclamps {t : Part} (hu : t.lpc.u = p.lpc.atCommit.u) : ((List.range count).countP fun a =>
      p.lpc.limWaiting && (l.limit a).active && decide (t.lpc.value a ≠ p.lpc.value a)) = p.commitClamps := by
    simp only [hvalue hu]
    exact p.commitClamps_eq.symm
  refine ⟨_, hexec, rfl, ?_⟩
  dsimp only
  by_cases hdiv : diverging
  · have hended := Part.fullUpdate_held hloop hnone (hdecides.mpr hdiv)
    generalize (p.taken k).fullUpdate k = t at hended
    obtain ⟨-, hlpc, -⟩ := id hended
    have hu : t.lpc.u = p.lpc.atCommit.u := by rw [hlpc]; rfl
    rw [hclamps hu, hu]
    refine ⟨fun a => (hvalue hu a).trans (Lpc.atCommit_value _ a), fun _ => ?_, fun h => absurd hdiv h⟩
    exact hended
  · have hruns := Part.fullUpdate_running ((Bool.not_eq_true _).mp (mt hdecides.mp hdiv))
    generalize (p.taken k).fullUpdate k = t at hruns
    have hu : t.lpc.u = p.lpc.atCommit.u := by rw [hruns]; rfl
    rw [hclamps hu]
    refine ⟨fun a => (hvalue hu a).trans (Lpc.atCommit_value _ a), fun h => absurd h hdiv, fun _ =>
      ⟨(p.guarded k).formUpdate k p.commitClamps, (List.range count).map ((p.guarded k).newValue k ramp), ?_⟩⟩
    have hnew := p.guarded_newValue k ramp
    refine ⟨?_, rfl, rfl, rfl, ⟨?_, rfl, rfl, rfl, ?_, ?_⟩, by rw [hruns]; rfl, by rw [hruns]; simp [Part.sameBut_iff, Part.taken]⟩
    · rw [hruns, ← p.taken_guardCount k]
      rfl
    · exact List.map_congr_left fun a _ => by rw [(hnew a).1, hvalue hu]; rfl
    · have hcount : (List.range count).countP ((p.guarded k).newValueClamps k ramp) = (List.range count).countP fun a =>
          integrateClamps (l.limit a) (t.lpc.value a) _ _ _ :=
        List.countP_congr fun a _ => by rw [(hnew a).2, hvalue hu]
      exact congrArg (fun n => p.commitClamps + n + _) hcount
    · exact (Bool.decide_and _ _).symm

/-- Settles O30: UPDATE_BEGIN by the loop state. -/
theorem updateBeginsByLoopState : Obligations.UpdateBeginsByLoopState := ⟨reportOnlyUpdate_holds, fullUpdate_holds⟩

end Sys2Proof.Proofs
end

section
/-! SUPPORT. FLATTEN (O32): its refusals, and the flat shape that is driven. -/

namespace Sys2Proof.Machine

theorem Part.flattenOrder_wrongState {p : Part} (h : p.lpc.loop = .closed ∨ p.lpc.loop = .held) :
    p.flattenOrder = (.failed .wrongState, p) := by
  rcases h with h | h <;> simp [Part.flattenOrder, h]

theorem Part.flattenOrder_interlock {p : Part} (h : p.lpc.loop = .stopped ∨ p.lpc.loop = .opened)
    (hlevel : p.tlu.interlock.level = true) : p.flattenOrder = (.failed .interlock, p) := by
  rcases h with h | h <;> simp [Part.flattenOrder, h, hlevel]

theorem Part.flattenOrder_flattens {p : Part} (h : p.lpc.loop = .stopped ∨ p.lpc.loop = .opened)
    (hlevel : p.tlu.interlock.level = false) : p.flattenOrder =
      ({ p.shapeResult p.flatVector with d3 := BitVec.ofNat 32 p.framesHanded },
        (p.modLpc Lpc.flattened).driveShape p.flatVector) := by
  rcases h with h | h <;> simp [Part.flattenOrder, h, hlevel]

/-- The number of frames handed over, by the links that take them (R121; log entry 21). -/
theorem Part.framesHanded_eq (p : Part) : BitVec.ofNat 32 p.framesHanded =
    (if shapeGoesTo p 0 then 1 else 0) + if shapeGoesTo p 1 then 1 else 0 := by
  simp only [Part.framesHanded, Part.shapeGoes_iff]
  (repeat' split) <;> rfl

/-- The part with the flat shape in its integrator, before the codes are handed over (R121). -/
def Part.flatShaped (p : Part) : Part := (p.modLpc Lpc.flattened).putVector (p.shape p.flatVector).vector

theorem Part.driveShape_flat (p : Part) :
    (p.modLpc Lpc.flattened).driveShape p.flatVector = p.flatShaped.handShape (p.shape p.flatVector).codes := rfl

/-- The integrator after FLATTEN: the shaped values of the geometry's actuators, and flat beyond them (R121). -/
theorem Part.flatShaped_value {p : Part} (hform : Sparse.wf Limits.powerOn p.lpc.limLive = true) (a : Nat) :
    p.flatShaped.lpc.value a = if a < p.geo.a0 + p.geo.a1 then (p.shape p.flatVector).vector.getD a 0
      else 256 * (p.lpc.limit a).flat.toNat := by
  have hlen : (p.shape p.flatVector).vector.length = p.geo.a0 + p.geo.a1 := by
    rw [Part.shape, shapeVector_length, Part.flatVector, List.length_map, List.length_range]
    rfl
  have hflat : (p.modLpc Lpc.flattened).lpc.value a = 256 * (p.lpc.limit a).flat.toNat := Lpc.flattened_value hform a
  rw [Part.flatShaped, Part.putVector_value, hlen, hflat]

theorem Part.handShape_sameBut (codes : List Nat) (p : Part) : (p.handShape codes).sameBut p [.mlt, .tlu, .issued] := by
  simp [Part.sameBut_iff]

end Sys2Proof.Machine

namespace Sys2Proof.Proofs

open Sys2Proof.Machine

/-- Settles O32: FLATTEN, refused or driven. -/
theorem flattenSetsFlat : Obligations.FlattenSetsFlat := by
  intro s h hready hform p count shaped
  have hexec := exec_control (c := .flatten h) (o := .flatten) rfl hready rfl
  have hrefused (r : OrderResult) (hr : (orderTaken p h).flattenOrder = (r, orderTaken p h)) :
      ∃ t, exec (.flatten h) s = .next t ∧ t.pending = s.pending ∧ p.Answered h r p.xu p.tlu [] t.part :=
    ⟨_, hexec, rfl, by rw [Part.carryOut, Part.finishWith, hr]; exact Part.answered_refused _ _ _ _⟩
  refine ⟨fun hl => hrefused _ (Part.flattenOrder_wrongState (p := orderTaken p h) hl),
    fun hl hi => hrefused _ (Part.flattenOrder_interlock (p := orderTaken p h) hl hi), fun hl hi => ?_⟩
  rw [Part.carryOut, Part.finishWith, Part.flattenOrder_flattens (p := orderTaken p h) hl hi, Part.driveShape_flat] at hexec
  refine ⟨_, hexec, rfl, ?_⟩
  dsimp only
  set res : OrderResult := { (orderTaken p h).shapeResult (orderTaken p h).flatVector with
    d3 := BitVec.ofNat 32 (orderTaken p h).framesHanded } with hres
  set m := (orderTaken p h).flatShaped with hm
  set q := m.handShape ((orderTaken p h).shape (orderTaken p h).flatVector).codes with hq
  set t := q.finish (p.orderRef h .flatten) res with ht
  have hqm : q.sameBut m [.mlt, .tlu, .issued] := m.handShape_sameBut _
  have htq : t.sameBut q [.tlu, .issued] := Part.finish_sameBut _ _ _
  have htm : t.sameBut m [.mlt, .tlu, .issued] := htq.trans hqm (by simp)
  have hlpc : t.lpc = m.lpc := htm .lpc (by decide)
  have hvalue (a : Nat) : t.lpc.value a = if a < count then shaped.vector.getD a 0 else 256 * (p.lpc.limit a).flat.toNat := by
    rw [hlpc]
    exact Part.flatShaped_value (p := orderTaken p h) hform a
  refine ⟨fun a ha => by rw [hvalue, if_neg (by omega)], fun a ha => by rw [hvalue, if_pos ha], by rw [hlpc]; rfl,
    (htm .xu (by decide)).trans rfl, ⟨q, ?_, ?_, htq⟩, htm.trans ?_ (by simp)⟩
  · rw [hlpc]
    exact m.handShape_handedOver _
  · have hresult : res = { OrderResult.done with
        d1 := BitVec.ofNat 32 shaped.clamps
        d2 := BitVec.ofNat 32 shaped.neighbours
        d3 := (if shapeGoesTo p 0 then 1 else 0) + if shapeGoesTo p 1 then 1 else 0 } := by
      rw [hres, Part.framesHanded_eq]
      rfl
    rw [← hresult]
    exact Part.finish_orderFinished _ _ _
  · simp [Part.sameBut_iff, hm, Part.flatShaped, Part.putVector]

end Sys2Proof.Proofs
end

section
/-! SUPPORT. The balance of the mirror links (O57): what each operation does to a link's outstanding list with the counters of R147.
A frame enters the list with SENT, and leaves it with one other count. -/

namespace Sys2Proof.Machine

/-! ## One link (R129, R147) -/

/-- A link meets the law: its count balances, and it holds no more frames than it may. -/
def MirrorLink.Lawful (l : MirrorLink) : Prop := l.balanced ∧ l.twoAtMost

/-- A link that holds no frame holds none too many. -/
theorem MirrorLink.lawful_of_empty {l : MirrorLink} (hb : l.balanced) (ho : l.outstanding = []) : l.Lawful :=
  ⟨hb, by simp [ho], fun _ => ho⟩

/-- A link that moves to a state in which frames may be outstanding. -/
theorem MirrorLink.Lawful.moved {l : MirrorLink} (h : l.Lawful) {st : MirrorState} (hi : st ≠ .idle) (ho : st ≠ .off) :
    ({ l with state := st } : MirrorLink).Lawful :=
  ⟨h.1, h.2.1, fun hst => (hst.elim hi ho).elim⟩

/-- A frame is sent where fewer than two are outstanding (R128, R129). -/
theorem MirrorLink.Lawful.frameSent {l : MirrorLink} (h : l.Lawful) (hroom : l.outstanding.length < 2) (n : Serial)
    (tx : List TxPacket) : ({ l with
      state := .running
      nextSeq := n
      outstanding := l.outstanding ++ [⟨l.nextSeq, none⟩]
      tx := tx
      counters := { l.counters with sent := l.counters.sent + 1 } } : MirrorLink).Lawful := by
  obtain ⟨hb, -⟩ := h
  refine ⟨?_, by simpa using hroom, by simp⟩
  unfold MirrorLink.balanced at hb ⊢
  dsimp only at hb ⊢
  rw [hb, List.length_append, BitVec.ofNat_add, ← BitVec.add_assoc]
  rfl

theorem olderThan_append {x : Serial} {older : List Outstanding} (h : ∀ o ∈ older, o.seq ≠ x) (sent : Option Time)
    (newer : List Outstanding) : olderThan x (older ++ ⟨x, sent⟩ :: newer) = older := by
  rw [olderThan, List.takeWhile_append_of_pos (by simpa using h)]
  simp

theorem newerThan_append {x : Serial} {older : List Outstanding} (h : ∀ o ∈ older, o.seq ≠ x) (sent : Option Time)
    (newer : List Outstanding) : newerThan x (older ++ ⟨x, sent⟩ :: newer) = newer := by
  rw [newerThan, List.dropWhile_append_of_pos (by simpa using h)]
  simp

/-- The frame that a receipt names stands between the older frames and the newer ones (R133). -/
theorem exists_older_newer {x : Serial} {l : List Outstanding} (h : (l.any fun o => o.seq = x) = true) :
    ∃ older sent newer, l = older ++ ⟨x, sent⟩ :: newer ∧ ∀ o ∈ older, o.seq ≠ x := by
  obtain ⟨o, ho⟩ := Option.isSome_iff_exists.mp (List.find?_isSome.mpr (List.any_eq_true.mp h))
  obtain ⟨hseq, older, newer, hl, hfirst⟩ := List.find?_eq_some_iff_append.mp ho
  obtain rfl : o.seq = x := by simpa using hseq
  exact ⟨older, o.sent, newer, hl, by simpa using hfirst⟩

/-- A frame is retired by a receipt, and the older ones with it (R133). -/
theorem MirrorLink.Lawful.retired {l : MirrorLink} (h : l.Lawful) {x : Serial} (hx : (l.outstanding.any fun o => o.seq = x) = true)
    (st : ReceiptStatus) : ({ l with
      outstanding := newerThan x l.outstanding
      counters := { l.counters.retire st with
        implicitly := (l.counters.retire st).implicitly + BitVec.ofNat 32 (olderThan x l.outstanding).length } } :
      MirrorLink).Lawful := by
  obtain ⟨hb, htwo, hnone⟩ := h
  obtain ⟨older, sent, newer, ho, hfirst⟩ := exists_older_newer hx
  simp only [ho, newerThan_append hfirst, olderThan_append hfirst]
  refine ⟨?_, ?_, fun hst => ?_⟩
  · simp only [MirrorLink.balanced, ho, List.length_append, List.length_cons, BitVec.ofNat_add] at hb ⊢
    cases st <;> (simp only [MirrorCounters.retire, hb, BitVec.ofNat_eq_ofNat]; ac_rfl)
  · simp only [ho, List.length_append, List.length_cons] at htwo ⊢
    omega
  · simp [hnone hst] at ho

/-- A reply empties the outstanding list, and counts each frame ACCEPTED or LOST (R139). -/
theorem MirrorLink.Lawful.reconciled {l : MirrorLink} (h : l.Lawful) (y : Serial) (n : Nat) : ({ l with
      outstanding := []
      rejectCount := n
      counters := { l.counters with
        accepted := l.counters.accepted + BitVec.ofNat 32 (l.outstanding.filter fun o => atOrOlder y o.seq).length
        lost := l.counters.lost + BitVec.ofNat 32 (l.outstanding.filter fun o => !atOrOlder y o.seq).length } } :
      MirrorLink).Lawful := by
  refine MirrorLink.lawful_of_empty ?_ rfl
  have hb := h.1
  have hlen : l.outstanding.length = (l.outstanding.filter fun o => atOrOlder y o.seq).length +
      (l.outstanding.filter fun o => !atOrOlder y o.seq).length := by
    simpa using List.length_eq_length_filter_add fun o : Outstanding => atOrOlder y o.seq
  unfold MirrorLink.balanced at hb ⊢
  dsimp only at hb ⊢
  rw [hb, hlen, BitVec.ofNat_add, List.length_nil, BitVec.add_zero]
  ac_rfl

/-- A link that is cleared out counts every outstanding frame CLEARED (R131, R144). -/
theorem MirrorLink.Lawful.clearedOut {l : MirrorLink} (h : l.Lawful) : l.clearedOut.balanced ∧ l.clearedOut.outstanding = [] := by
  refine ⟨?_, rfl⟩
  have hb := h.1
  unfold MirrorLink.balanced at hb ⊢
  simp only [MirrorLink.clearedOut, MirrorLink.quieted, hb, List.length_nil, BitVec.add_zero]
  ac_rfl

theorem markSent_length (seq : Serial) (t : Time) (l : List Outstanding) : (markSent seq t l).length = l.length := by
  induction l with
  | nil => rfl
  | cons o rest ih => rw [markSent]; split <;> simp [ih]

/-- The time at which a frame left changes no count and no number of frames (R127). -/
theorem MirrorLink.Lawful.markSent {l : MirrorLink} (h : l.Lawful) (seq : Serial) (t : Time) (timer : Option Time) :
    ({ l with outstanding := markSent seq t l.outstanding, timer := timer } : MirrorLink).Lawful := by
  obtain ⟨hb, htwo, hnone⟩ := h
  refine ⟨?_, by simpa [markSent_length] using htwo, fun hst => by simp [hnone hst, Machine.markSent]⟩
  simpa [MirrorLink.balanced, markSent_length] using hb

/-! ## The part (R127 to R149) -/

section

variable {p q : Part}

/-- A step that leaves the mirror links as they are. -/
theorem Part.balanceLaw.of_mlt (h : p.balanceLaw) (hq : q.mlt = p.mlt) : q.balanceLaw := by
  intro m
  rw [hq]
  exact h m

/-- A change of one link. -/
theorem Part.balanceLaw.modMirror (h : p.balanceLaw) (m : MirrorIx) {g : MirrorLink → MirrorLink}
    (hg : (p.mlt.get m).Lawful → (g (p.mlt.get m)).Lawful) : (p.modMirror m g).balanceLaw := by
  intro k
  rcases eq_or_ne k m with rfl | hk
  · rw [Part.modMirror_get]
    exact hg (h k)
  · rw [Part.modMirror_get_other _ _ _ _ hk]
    exact h k

theorem Part.balanceLaw.issueQuery (h : p.balanceLaw) (m : MirrorIx) (forProbe : Bool) : (p.issueQuery m forProbe).balanceLaw :=
  Part.balanceLaw.modMirror (h.modMirror m id) m id

theorem Part.balanceLaw.startMirrorTimer (h : p.balanceLaw) (m : MirrorIx) : (p.startMirrorTimer m).balanceLaw :=
  h.modMirror m id

theorem Part.balanceLaw.sendFrame (h : p.balanceLaw) (m : MirrorIx) (hroom : (p.mlt.get m).outstanding.length < 2)
    (codes : List Nat) : (p.sendFrame m codes).balanceLaw :=
  h.modMirror m fun hl => hl.frameSent hroom _ _

/-- The end of a probe touches no outstanding frame (R146). -/
theorem MirrorLink.probeStopped_outstanding (l : MirrorLink) : l.probeStopped.outstanding = l.outstanding := by
  unfold MirrorLink.probeStopped
  split <;> rfl

/-- The end of a probe touches no count, no frame and no state of its link (R146). -/
theorem MirrorLink.Lawful.probeStopped {l : MirrorLink} (h : l.Lawful) : l.probeStopped.Lawful := by
  unfold MirrorLink.probeStopped
  split
  · exact h
  · exact h

theorem Part.balanceLaw.endProbe (h : p.balanceLaw) (m : MirrorIx) (r : OrderResult) : (p.endProbe m r).balanceLaw := by
  intro k
  rw [Part.endProbe_mlt]
  split
  · exact MirrorLink.Lawful.probeStopped (h k)
  · exact h k

theorem Part.leaveIdle_outstanding (m : MirrorIx) (p : Part) :
    ((p.leaveIdle m).mlt.get m).outstanding = (p.mlt.get m).outstanding := by
  rw [Part.leaveIdle, Part.modMirror_get, Part.endProbe_mlt, if_pos rfl]
  exact MirrorLink.probeStopped_outstanding _

/-- A hand-over: from IDLE nothing is outstanding, and in RUNNING the room is checked (R128, R129). -/
theorem Part.balanceLaw.handOver (h : p.balanceLaw) (m : MirrorIx) (codes : List Nat) : (p.handOver m codes).part.balanceLaw := by
  have hskip : (p.skipFrame m).balanceLaw := h.modMirror m id
  unfold Part.handOver
  dsimp only
  split
  · next hidle =>
    have hempty : (p.mlt.get m).outstanding = [] := (h m).2.2 (.inl hidle)
    have hleft : (p.leaveIdle m).balanceLaw := (h.endProbe m _).modMirror m id
    exact hleft.sendFrame m (by simp [Part.leaveIdle_outstanding, hempty]) codes
  · split
    · next hroom => exact h.sendFrame m hroom codes
    · exact hskip
  · exact hskip
  · exact hskip
  · exact h
  · exact h

theorem Part.balanceLaw.handTo (h : p.balanceLaw) (g : Geometry) (m : MirrorIx) (codes : List Nat) :
    (p.handTo g m codes).part.balanceLaw := by
  unfold Part.handTo
  split
  · exact h
  · exact h.handOver m _

theorem Part.balanceLaw.handShape (h : p.balanceLaw) (codes : List Nat) : (p.handShape codes).balanceLaw := by
  have hfirst : (if p.shapeGoes 0 then (p.handOver 0 (p.geo.codesFor 0 codes)).part else p).balanceLaw := by
    split
    · exact h.handOver 0 _
    · exact h
  unfold Part.handShape
  dsimp only
  split
  · exact hfirst.handOver 1 _
  · exact hfirst

theorem Part.balanceLaw.cutOff (h : p.balanceLaw) (m : MirrorIx) : (p.cutOff m).balanceLaw := by
  intro k
  rw [Part.cutOff_mlt]
  split
  · exact h k
  · exact h k

theorem Part.balanceLaw.raise (h : p.balanceLaw) (e : Event) : (p.raise e).balanceLaw := h.of_mlt (by simp)

theorem Part.balanceLaw.enterBlocked (h : p.balanceLaw) (m : MirrorIx) : (p.enterBlocked m).balanceLaw :=
  Part.balanceLaw.raise (h.modMirror m fun hl => hl.moved (st := .blocked) (by simp) (by simp)) _

theorem Part.balanceLaw.enterFault (h : p.balanceLaw) (m : MirrorIx) : (p.enterFault m).balanceLaw :=
  Part.balanceLaw.of_mlt (Part.balanceLaw.raise
    ((h.cutOff m).modMirror m fun hl => hl.moved (st := .fault) (by simp) (by simp)) .mirrorLink)
    (by simp only [Part.enterFault, Part.takeHold_keeps]; rfl)

theorem Part.balanceLaw.ite_enterFault (h : p.balanceLaw) (c : Prop) [Decidable c] (m : MirrorIx) :
    (if c then p.enterFault m else p).balanceLaw := by
  split
  · exact h.enterFault m
  · exact h

/-! ## Receipts, replies and transmissions (R127, R133 to R146) -/

theorem Part.balanceLaw.receiptAfter (h : p.balanceLaw) (m : MirrorIx) : (p.receiptAfter m).balanceLaw := by
  unfold Part.receiptAfter
  split
  · exact h.modMirror m id
  · split
    · exact h.modMirror m fun hl => hl.moved (st := .running) (by simp) (by simp)
    · exact h
  all_goals exact h

theorem Part.balanceLaw.judgeReceipt (h : p.balanceLaw) (m : MirrorIx) (st : ReceiptStatus) (fault : Bool) :
    (p.judgeReceipt m st fault).balanceLaw := by
  have hq : (p.modMirror m fun l => { l with rejectCount := rejectsAfter st l.rejectCount }).balanceLaw := h.modMirror m id
  unfold Part.judgeReceipt
  dsimp only
  (repeat' split)
  · exact h.enterFault m
  · exact hq.enterFault m
  · exact hq
  · exact hq.enterBlocked m
  · exact hq.receiptAfter m

theorem Part.balanceLaw.takeReceipt (h : p.balanceLaw) (m : MirrorIx) (x : Serial) (st : ReceiptStatus) (fault : Bool) :
    (p.takeReceipt m x st fault).balanceLaw := by
  unfold Part.takeReceipt
  dsimp only
  split
  · exact h.modMirror m id
  · next hmatch =>
    have hx : ((p.mlt.get m).outstanding.any fun o => o.seq = x) = true := by
      simp only [Bool.or_eq_true, not_or, Bool.not_eq_true', Bool.not_eq_false] at hmatch
      exact hmatch.2
    have hretired : (p.retire m x st).balanceLaw := h.modMirror m fun hl => hl.retired hx st
    exact hretired.judgeReceipt m st fault

theorem Part.balanceLaw.reconcile (h : p.balanceLaw) (m : MirrorIx) (y : Serial) : (p.reconcile m y).balanceLaw :=
  h.modMirror m fun hl => hl.reconciled y _

/-- A link without outstanding frames may be in any state. -/
theorem Part.balanceLaw.moveEmpty (h : p.balanceLaw) (m : MirrorIx) (hempty : (p.mlt.get m).outstanding = [])
    {g : MirrorLink → MirrorLink} (hg : ∀ l, (g l).outstanding = l.outstanding ∧ (g l).counters = l.counters) :
    (p.modMirror m g).balanceLaw := by
  refine h.modMirror m fun hl => MirrorLink.lawful_of_empty ?_ ((hg _).1.trans hempty)
  have hb := hl.1
  unfold MirrorLink.balanced at hb ⊢
  rwa [(hg _).1, (hg _).2]

theorem Part.balanceLaw.replyInChecking (h : p.balanceLaw) (m : MirrorIx) (ready fault : Bool) (y : Serial) :
    (p.replyInChecking m ready fault y).balanceLaw := by
  have hq : ((p.reconcile m y).modMirror m fun l => { l with queryCount := 0, timer := none }).balanceLaw :=
    (h.reconcile m y).modMirror m id
  unfold Part.replyInChecking
  dsimp only
  (repeat' split)
  · exact hq.enterFault m
  · exact hq.moveEmpty m (by simp [Part.reconcile]) fun l => ⟨rfl, rfl⟩
  · exact hq.enterBlocked m

theorem Part.balanceLaw.replyInBlocked (h : p.balanceLaw) (m : MirrorIx) (ready fault : Bool) (y : Serial) :
    (p.replyInBlocked m ready fault y).balanceLaw := by
  have hq : ((p.modMirror m fun l => { l with awaiting := false }).reconcile m y).balanceLaw :=
    Part.balanceLaw.reconcile (h.modMirror m id) m y
  unfold Part.replyInBlocked
  dsimp only
  split
  · exact hq.enterFault m
  · split
    · exact hq.moveEmpty m (by simp [Part.reconcile]) fun l => ⟨rfl, rfl⟩
    · exact Part.balanceLaw.ite_enterFault (hq.modMirror m id) _ m

theorem Part.balanceLaw.replyToProbe (h : p.balanceLaw) (m : MirrorIx) (pr : Probe) (ready fault : Bool) (y : Serial) :
    (p.replyToProbe m pr ready fault y).balanceLaw := by
  have hdrawn : (if pr.sendTime.isNone then p.drawFree else p).balanceLaw := by
    split
    · exact h.of_mlt (by simp)
    · exact h
  exact (hdrawn.endProbe m _).ite_enterFault _ m

theorem Part.balanceLaw.takeReply (h : p.balanceLaw) (m : MirrorIx) (ready fault : Bool) (y : Serial) :
    (p.takeReply m ready fault y).balanceLaw := by
  have hstray : (p.countStray m).balanceLaw := h.modMirror m id
  unfold Part.takeReply
  split
  · exact h.replyInChecking m ready fault y
  · exact h.replyInBlocked m ready fault y
  · split
    · exact h.replyToProbe m _ ready fault y
    · exact hstray
  all_goals exact hstray

theorem Part.balanceLaw.mirrorPacketArrival (h : p.balanceLaw) (m : MirrorIx) (early : Bool) (packet : List Byte) :
    (p.mirrorPacketArrival m early packet).balanceLaw := by
  unfold Part.mirrorPacketArrival Part.takeMirrorPacket
  (repeat' split)
  · exact h
  · exact h.modMirror m id
  · exact h.modMirror m id
  · exact h.modMirror m id
  · exact h.takeReceipt m _ _ _
  · exact h.takeReply m _ _ _

theorem Part.balanceLaw.packetTransmitEnd (h : p.balanceLaw) (m : MirrorIx) : (p.packetTransmitEnd m).balanceLaw := by
  unfold Part.packetTransmitEnd
  split
  · exact h
  · next seq codes rest _ =>
    have hsent : ((p.modMirror m fun l => { l with tx := rest }).issuePackets m (commandFrame m seq codes)).balanceLaw :=
      Part.balanceLaw.of_mlt (h.modMirror m (g := fun l => { l with tx := rest }) id) (by simp)
    exact hsent.modMirror m fun hl => hl.markSent seq _ _
  · next forProbe rest _ =>
    have hsent : ((p.modMirror m fun l => { l with tx := rest }).issue (.packet m (queryPacket m))).balanceLaw :=
      Part.balanceLaw.of_mlt (h.modMirror m (g := fun l => { l with tx := rest }) id) (by simp)
    unfold Part.querySent
    (repeat' split)
    · exact hsent.modMirror m id
    · exact hsent
    · exact hsent

/-! ## The receipt timer and the orders of the links (R131, R132, R137 to R146) -/

theorem Part.balanceLaw.receiptTimerExpiry (h : p.balanceLaw) (m : MirrorIx) : (p.receiptTimerExpiry m).balanceLaw := by
  unfold Part.receiptTimerExpiry
  split
  · exact h
  · next t _ =>
    have hq : ((p.advanceTo t).modMirror m fun l => { l with timer := none }).balanceLaw :=
      Part.balanceLaw.modMirror (h.of_mlt (by simp)) m id
    dsimp only
    split
    · have hchecking := hq.modMirror m (g := fun l => { l with state := .checking, queryCount := 1 }) fun hl =>
        hl.moved (st := .checking) (by simp) (by simp)
      exact (hchecking.issueQuery m _).startMirrorTimer m
    · unfold Part.expiryInChecking
      dsimp only
      split
      · exact Part.balanceLaw.startMirrorTimer (Part.balanceLaw.issueQuery (hq.modMirror m id) m _) m
      · exact hq.enterFault m
    · have hcounted := hq.modMirror m (g := fun l =>
        { l with blockCount := if l.awaiting then min 255 (l.blockCount + 1) else l.blockCount }) id
      unfold Part.expiryInBlocked
      dsimp only
      split
      · exact hcounted.enterFault m
      · exact Part.balanceLaw.startMirrorTimer (Part.balanceLaw.issueQuery (hcounted.modMirror m id) m _) m
    · exact hq.endProbe m _
    · exact hq
    · exact hq

/-- A link that is enabled held nothing, and one that is disabled counts what it held CLEARED (R131). -/
theorem Part.balanceLaw.setMirror (h : p.balanceLaw) (q : MirrorOrderParams) : (p.setMirror q).2.balanceLaw := by
  have happly (m : MirrorIx) (enable : Bool) : (p.applySetMirror m enable q).balanceLaw := by
    have hq := h.modMirror m (g := fun l =>
      { l with
        timeoutUs := clampTo 50 5000 q.timeoutUs.toNat
        queryLimit := clampTo 1 7 q.queryLimit.toNat
        blockLimit := clampTo 1 255 q.blockLimit.toNat
        rejectLimit := clampTo 1 15 q.rejectLimit.toNat }) id
    unfold Part.applySetMirror
    dsimp only
    (repeat' split)
    · next hoff =>
      have hempty := (hq m).2.2 (.inr hoff)
      exact hq.modMirror m fun hl => MirrorLink.lawful_of_empty (by
        have hb := hl.1
        unfold MirrorLink.balanced at hb ⊢
        rwa [hempty] at hb) rfl
    · exact hq
    · exact hq
    · exact ((hq.endProbe m _).cutOff m).modMirror m fun hl => MirrorLink.lawful_of_empty hl.clearedOut.1 rfl
  unfold Part.setMirror
  (repeat' split)
  · exact h
  · exact happly _ _
  · exact h

theorem Part.balanceLaw.mirrorReset (h : p.balanceLaw) (mirror : Byte) : (p.mirrorReset mirror).2.balanceLaw := by
  unfold Part.mirrorReset
  (repeat' split)
  · exact h
  · exact h
  · exact (h.endProbe _ _).modMirror _ fun hl => MirrorLink.lawful_of_empty hl.clearedOut.1 rfl

theorem Part.balanceLaw.mirrorProbe (h : p.balanceLaw) (mirror : Byte) (ref : OrderRef) :
    (p.mirrorProbe mirror ref).2.balanceLaw := by
  unfold Part.mirrorProbe
  (repeat' split)
  · exact h
  · exact h
  · exact h
  · exact Part.balanceLaw.issueQuery (h.modMirror _ id) _ _

/-! ## Vectors and shapes (R118, R121, R123) -/

theorem Part.balanceLaw.sendPoint (h : p.balanceLaw) : p.sendPoint.balanceLaw := by
  unfold Part.sendPoint
  (repeat' split)
  · exact h
  · next u _ _ =>
    have hq : (p.putVector u.shaped).balanceLaw := h.of_mlt (by simp)
    exact ((hq.handTo u.geo 0 u.codes).handTo u.geo 1 u.codes).of_mlt (by simp [Part.sendVector])
  · exact h.of_mlt (by simp)

theorem Part.balanceLaw.driveShape (h : p.balanceLaw) (w : List Nat) : (p.driveShape w).balanceLaw :=
  Part.balanceLaw.handShape (h.of_mlt (by simp)) _

theorem Part.balanceLaw.flattenOrder (h : p.balanceLaw) : p.flattenOrder.2.balanceLaw := by
  unfold Part.flattenOrder
  (repeat' split)
  · exact h
  · exact h
  · exact Part.balanceLaw.driveShape (h.of_mlt (by simp)) _

theorem Part.balanceLaw.completeShape (h : p.balanceLaw) : p.completeShape.2.balanceLaw := by
  have hq : (p.modLpc fun l => { l with shape := [] }).balanceLaw := h.of_mlt (by simp)
  unfold Part.completeShape Part.judgeShape
  (repeat' split)
  · exact hq
  · exact hq
  · exact hq.driveShape _

/-! ## The transfer lane (R123, R168 to R172) -/

/-- A load that completes touches the mirror links only where it is an APPLY_SHAPE (R48, R106, R107, R123). -/
theorem Part.balanceLaw.completeLoad (h : p.balanceLaw) (r : Running) : (p.completeLoad r).balanceLaw := by
  unfold Part.completeLoad
  cases r.bulk.op with
  | applyShape => exact h.completeShape.of_mlt (by simp)
  | loadReference | loadSensors | loadLimits | loadPairs => exact h.of_mlt (by dsimp only; split <;> simp)
  | loadMatrix | readBank | readTable | copySnapshot => exact h

theorem Part.balanceLaw.startHead (h : p.balanceLaw) : p.startHead.balanceLaw := by
  have hrun (q : Part) (hq : q.mlt = p.mlt) (r : Running) (reading : Bool) : (q.runLane r reading).balanceLaw := by
    have hb : ((q.modXu fun y => { y with lane := some r }).beginWork r.bulk.op).balanceLaw := h.of_mlt (by simp [hq])
    unfold Part.runLane
    dsimp only
    (repeat' split)
    · exact hb.completeLoad r
    · exact hb.of_mlt (by simp)
    · exact hb.of_mlt (by simp)
    · exact hb
  unfold Part.startHead
  split
  · unfold Part.startBulk
    split
    · exact h.of_mlt (by simp)
    · exact hrun (p.modXu _) rfl _ _
    · exact hrun (p.modXu _) rfl _ _
  · exact h

theorem Part.balanceLaw.startHeads (h : p.balanceLaw) (n : Nat) : (Part.startHeads n p).balanceLaw := by
  induction n generalizing p with
  | zero => exact h
  | succ n ih => exact ih h.startHead

theorem Part.balanceLaw.hostReadCompletion (h : p.balanceLaw) (bytes : List Byte) : (p.hostReadCompletion bytes).balanceLaw := by
  have hentries (r : Running) : (p.takeEntries r bytes).balanceLaw := by
    unfold Part.takeEntries
    dsimp only
    split
    · exact Part.balanceLaw.completeLoad (h.of_mlt (by simp)) _
    · exact h.of_mlt (by simp)
  unfold Part.hostReadCompletion
  split
  · exact h
  · next r _ =>
    split
    · cases r.bulk.op with
      | loadMatrix => exact h.of_mlt (by simp)
      | loadReference | loadSensors | loadLimits | loadPairs | applyShape => exact hentries r
      | readBank | readTable | copySnapshot => exact h
    · exact h

/-! ## Orders (R158 to R160) -/

theorem Part.balanceLaw.finish (h : p.balanceLaw) (ref : OrderRef) (r : OrderResult) : (p.finish ref r).balanceLaw :=
  h.of_mlt (by simp)

theorem Part.balanceLaw.finishIf (h : p.balanceLaw) (ref : OrderRef) (r : Option OrderResult) :
    (Part.finishIf ref (r, p)).balanceLaw := by
  cases r with
  | none => exact h
  | some r => exact h.finish ref r

theorem Part.balanceLaw.takeBulk (h : p.balanceLaw) (o : Order) (ref : OrderRef) (e : Except Reason Taken) :
    (p.takeBulk o ref e).balanceLaw := by
  unfold Part.takeBulk Part.enqueueBulk
  dsimp only
  (repeat' split)
  · exact h.of_mlt (by simp)
  · exact Part.balanceLaw.startHeads (h.of_mlt (by simp)) _
  · exact h.of_mlt (by simp)

theorem Part.balanceLaw.abortTransfer (h : p.balanceLaw) (matchFlag ticket : Byte) :
    (p.abortTransfer matchFlag ticket).2.balanceLaw := by
  unfold Part.abortTransfer
  (repeat' split)
  · exact h
  · exact h
  · exact h
  · exact Part.balanceLaw.startHeads (h.of_mlt (by simp)) _

/-- An order that is carried out: those that touch a mirror link by their own lemmas, and the others because they do not. -/
theorem Part.balanceLaw.carryOut (h : p.balanceLaw) (o : Order) (ref : OrderRef) : (p.carryOut o ref).balanceLaw := by
  cases o with
  | setMirror q => exact (h.setMirror q).finish _ _
  | flatten => exact h.flattenOrder.finish _ _
  | mirrorReset mirror => exact (h.mirrorReset mirror).finish _ _
  | mirrorProbe mirror => exact (h.mirrorProbe mirror ref).finishIf _ _
  | abortTransfer matchFlag ticket => exact (h.abortTransfer matchFlag ticket).finish _ _
  | swapMatrix target => exact Part.balanceLaw.finishIf (h.of_mlt (p.swapMatrix_loopSide target ref).2.1) _ _
  | loadMatrix | readBack | loadTable | applyShape | copySnapshot => exact h.takeBulk _ _ _
  | setGeometry | setSensor | setLoop | setGains | loopOpen | loopClose | loopStop | resume | setStore | setWindow | setExchange
  | setTelemetry | capture | setPacer | setLines | unknownKind => exact Part.balanceLaw.finish (h.of_mlt (by simp)) _ _

theorem Part.balanceLaw.takeOrder (h : p.balanceLaw) (o : Order) (ref : OrderRef) : (p.takeOrder o ref).balanceLaw :=
  Part.balanceLaw.carryOut (h.of_mlt (by simp)) o ref

theorem Part.balanceLaw.orderCommand (h : p.balanceLaw) (head : OrderHead) (o : Order) : (p.orderCommand head o).balanceLaw := by
  rcases p.orderCommand_cases head o with ⟨_, hc⟩ | ⟨_, hc⟩ <;> rw [hc]
  · exact h
  · exact h.takeOrder _ _

theorem Part.balanceLaw.takeOrders (h : p.balanceLaw) (n : Nat) (eligible : List PostedSlot) :
    (Part.takeOrders n eligible p).balanceLaw := by
  induction n generalizing p eligible with
  | zero => exact h
  | succ n ih =>
    simp only [Part.takeOrders]
    split
    · exact h
    · next posted losers _ =>
      have hl : (losers.foldl (fun y l => y.loseDuplicate l) p).balanceLaw :=
        h.of_mlt (foldl_view Part.mlt _ (by simp [Part.loseDuplicate]) _ _)
      split
      · exact hl
      · exact ih (hl.takeOrder _ _) _

theorem Part.balanceLaw.sweepReadCompletion (h : p.balanceLaw) (consumed : BitVec 32) (slots : List (List Byte)) :
    (p.sweepReadCompletion consumed slots).balanceLaw := by
  unfold Part.sweepReadCompletion
  split
  · have hq : (p.acceptConsumed consumed).balanceLaw := h.of_mlt (by simp)
    exact (hq.takeOrders 32 ((p.acceptConsumed consumed).eligibleSlots slots)).of_mlt (by simp)
  · exact h

/-! ## Resets and registers (R148, R149, R172) -/

theorem Part.balanceLaw.stopExchange (h : p.balanceLaw) : p.stopExchange.balanceLaw := by
  intro k
  have hmlt : p.stopExchange.mlt = p.ordersStopped.mlt := by simp [Part.stopExchange_eq]
  rw [hmlt, Part.ordersStopped_mlt]
  exact MirrorLink.Lawful.probeStopped (h k)

/-- A link after a part reset holds no frame, and its counts are 0 (R149). -/
theorem MirrorLink.reset_lawful (l : MirrorLink) : l.reset.Lawful := MirrorLink.lawful_of_empty rfl rfl

theorem Part.partReset_balanceLaw (p : Part) : p.partReset.balanceLaw := by
  intro k
  have hmlt : p.partReset.mlt.get k = (p.settle.mlt.get k).reset := Two.get_map _ _ _
  rw [hmlt]
  exact MirrorLink.reset_lawful _

/-- A powered link holds no frame, and its counts are 0 (R148). -/
theorem Part.powerUp_balanceLaw (p : Part) : p.powerUp.balanceLaw := by
  intro k
  have hmlt : p.powerUp.mlt.get k = MirrorLink.powerOn := Two.get_both _ _
  rw [hmlt]
  exact MirrorLink.lawful_of_empty rfl rfl

theorem Part.balanceLaw.controlWrite (h : p.balanceLaw) (exchEn reset : Bool) : (p.controlWrite exchEn reset).balanceLaw := by
  unfold Part.controlWrite
  (repeat' split)
  · exact p.partReset_balanceLaw
  · exact h.of_mlt (by simp)
  · exact h.stopExchange
  · exact h

theorem Part.balanceLaw.registerWrite (h : p.balanceLaw) (offset : BitVec 12) (count : Nat) (value : BitVec 32) :
    (p.registerWrite offset count value).balanceLaw := by
  unfold Part.registerWrite Part.wholeWrite
  (repeat' split)
  · exact h
  · exact h.controlWrite _ _
  · exact h.of_mlt (by simp)
  · exact h.of_mlt (by simp)
  · exact h.of_mlt (by simp)
  · exact h.of_mlt (by simp)
  · exact h

/-! ## The commands -/

/-- Every command keeps the balance: those that touch a mirror link by their own lemmas, an order's command by what the order does,
and the other events because they touch none. -/
theorem Part.balanceLaw.after (h : p.balanceLaw) (c : Instr) : (p.after c).balanceLaw := by
  cases c with
  | powerOn => exact p.powerUp_balanceLaw
  | partReset | functionLevelReset => exact p.partReset_balanceLaw
  | exchEnStart | exchEnStop => exact h.controlWrite _ _
  | registerWriteIgnored offset count v => exact h.registerWrite offset count v
  | sendPoint => exact h.sendPoint
  | mirrorPacketArrival mirror early packet => exact h.mirrorPacketArrival mirror early packet
  | packetTransmitEnd mirror => exact h.packetTransmitEnd mirror
  | receiptTimerExpiry mirror => exact h.receiptTimerExpiry mirror
  | sweepReadCompletion consumed slots => exact h.sweepReadCompletion consumed slots
  | transferStart => exact h.startHead
  | hostReadCompletion bytes => exact h.hostReadCompletion bytes
  | exchBaseLoWrite | exchBaseHiWrite | eventsWrite | eventMaskWrite | timeLoRead | segmentArrival | quietTimerExpiry
  | admitSegment | deadlineExpiry | processEntry | handOnValue | arbiterGrant | columnBurstArrival | sealDecision
  | substitutionEnd | extractionEnd | frameGapExpiry | updateBegin | sweepTimerExpiry | hostAccessFailure | loaderBurstComplete
  | readerBurstComplete | confirmingReadCompletion | hostWriteRequest | interlockEdge | snapEdge | markEdge | periodStart
  | pulseEnd | lineSample => exact h.of_mlt (by simp [Part.after])
  | _ => exact h.orderCommand _ _

end

end Sys2Proof.Machine

namespace Sys2Proof.Proofs

open Sys2Proof.Machine

/-- Settles O57: a frame enters a link's outstanding list with SENT where there is room, and leaves it with one other count. -/
theorem mirrorBalanceKept : Obligations.MirrorBalanceKept :=
  kept_of_after (fun _ h => h.of_mlt (by simp)) fun _ c h => h.after c

end Sys2Proof.Proofs
end

section
/-! SUPPORT. One mirror link replaced by another: what the operations of chapter 7 make of the part, said as the link that they put in
place; and a link's entry into FAULT or BLOCKED and the end of its probe, as the statements name them. -/

namespace Sys2Proof.Machine

/-! ## A link in its place -/

/-- The part with one mirror link replaced. -/
def Part.withMirror (m : MirrorIx) (l : MirrorLink) (p : Part) : Part := { p with mlt := p.mlt.set m l }

theorem Part.withMirror_mlt (m : MirrorIx) (l : MirrorLink) (p : Part) : (p.withMirror m l).mlt = p.mlt.set m l := rfl

@[simp] theorem Part.withMirror_get (m : MirrorIx) (l : MirrorLink) (p : Part) : (p.withMirror m l).mlt.get m = l :=
  Two.get_set_self _ _ _

@[simp] theorem Part.withMirror_keeps (m : MirrorIx) (l : MirrorLink) (p : Part) :
    (p.withMirror m l).geo = p.geo ∧ (p.withMirror m l).links = p.links ∧ (p.withMirror m l).fra = p.fra ∧
    (p.withMirror m l).scn = p.scn ∧ (p.withMirror m l).rca = p.rca ∧ (p.withMirror m l).mxs = p.mxs ∧
    (p.withMirror m l).lpc = p.lpc ∧ (p.withMirror m l).xu = p.xu ∧ (p.withMirror m l).tel = p.tel ∧
    (p.withMirror m l).sns = p.sns ∧ (p.withMirror m l).tlu = p.tlu ∧ (p.withMirror m l).issued = p.issued ∧
    (p.withMirror m l).frees = p.frees :=
  ⟨rfl, rfl, rfl, rfl, rfl, rfl, rfl, rfl, rfl, rfl, rfl, rfl, rfl⟩

theorem Part.withMirror_sameBut (m : MirrorIx) (l : MirrorLink) (p : Part) : (p.withMirror m l).sameBut p [.mlt] := by
  simp [Part.sameBut_iff]

/-- A change of one link puts the changed link in its place. -/
theorem Part.modMirror_eq (m : MirrorIx) (g : MirrorLink → MirrorLink) (p : Part) :
    p.modMirror m g = p.withMirror m (g (p.mlt.get m)) := rfl

@[simp] theorem Part.withMirror_withMirror (m : MirrorIx) (l l' : MirrorLink) (p : Part) :
    (p.withMirror m l).withMirror m l' = p.withMirror m l' := by
  simp [Part.withMirror, Two.set_set]

@[simp] theorem Part.withMirror_modMirror (m : MirrorIx) (l : MirrorLink) (g : MirrorLink → MirrorLink) (p : Part) :
    (p.withMirror m l).modMirror m g = p.withMirror m (g l) := by
  simp [Part.modMirror_eq]

theorem Two.set_get_self {α : Type} (v : Two α) (i : Fin 2) : v.set i (v.get i) = v := by
  match i with
  | 0 | 1 => rfl

/-- The other link stays as it was. -/
theorem Two.get_set_of_other {α : Type} (v : Two α) (i : Fin 2) (x : α) : (v.set i x).get (other i) = v.get (other i) :=
  Two.get_set_other _ _ _ _ (other_ne i)

theorem Part.issueQuery_withMirror (m : MirrorIx) (l : MirrorLink) (forProbe : Bool) (p : Part) :
    (p.withMirror m l).issueQuery m forProbe = p.withMirror m { l with
      tx := l.tx ++ [.query forProbe]
      counters := { l.counters with queries := l.counters.queries + 1 } } := by
  simp [Part.issueQuery, Part.countMirror]

/-! ## FAULT and BLOCKED (R141, R143) -/

/-- A link that is cut off has nothing more to send; where it was sending, the driver receives a short packet (R131, R143). -/
theorem Part.cutOff_eq (m : MirrorIx) (p : Part) : p.cutOff m = { p.withMirror m { p.mlt.get m with tx := [] } with
    issued := p.issued ++ if (p.mlt.get m).tx = [] then [] else [.cutOff m] } := by
  unfold Part.cutOff
  dsimp only
  split <;> simp [Part.modMirror_eq, Part.issue, Part.withMirror]

/-- A link enters FAULT, as the statements report it (R143). -/
theorem Part.enterFault_entered (m : MirrorIx) (l : MirrorLink) (p : Part) :
    faultEntered p ((p.withMirror m l).enterFault m) m l := by
  set q : Part := ((p.withMirror m l).cutOff m).modMirror m fun l =>
    { l with state := .fault, timer := none, awaiting := false, queryCount := 0 } with hq
  have heq : q = { p.withMirror m { l with state := .fault, timer := none, awaiting := false, queryCount := 0, tx := [] } with
      issued := p.issued ++ if l.tx = [] then [] else [.cutOff m] } := by
    rw [hq, Part.cutOff_eq]
    simp [Part.modMirror_eq, Part.withMirror, Two.set_set]
  have hheld := (q.raise .mirrorLink).takeHold_reported .mirrorLink
  refine ⟨?_, holdReported_congr ?_ ?_ ?_ ?_ hheld, ?_⟩
  · rw [show ((p.withMirror m l).enterFault m).mlt = q.mlt by simp [Part.enterFault, hq], heq]
    rfl
  · simp [heq]
  · simp [heq]
  · simp [heq]
  · rw [Part.raise_signal, heq]
    rfl
  · simp [Part.sameBut_iff]

theorem Part.enterFault_mlt (m : MirrorIx) (p : Part) : (p.enterFault m).mlt = p.mlt.set m { p.mlt.get m with
    state := .fault, timer := none, awaiting := false, queryCount := 0, tx := [] } := by
  have h := (p.enterFault_entered m (p.mlt.get m)).1
  rwa [Part.withMirror, Two.set_get_self] at h

/-- A link enters BLOCKED, as the statements report it (R141). -/
theorem Part.enterBlocked_entered (m : MirrorIx) (l : MirrorLink) (p : Part) :
    blockedEntered p ((p.withMirror m l).enterBlocked m) m l := by
  rw [Part.enterBlocked, Part.withMirror_modMirror, Part.raise_eq]
  exact ⟨rfl, rfl, rfl, by simp [Part.sameBut_iff]⟩

/-! ## A probe's end (R146) -/

/-- A finished order touches the TLU and what is issued, and neither of the links. -/
theorem Part.finish_eq (ref : OrderRef) (r : OrderResult) (p : Part) : p.finish ref r = { p with
    tlu := (p.finish ref r).tlu
    issued := (p.finish ref r).issued } := by
  have hwrite (a : BitVec 64) (d : List Byte) (q : Part) : q.hostWrite a d = { q with issued := (q.hostWrite a d).issued } := by
    unfold Part.hostWrite
    split <;> rfl
  unfold Part.finish Part.writeResult
  dsimp only
  split
  · rw [Part.raise_eq, hwrite, hwrite]
  · rw [hwrite, hwrite]

theorem Part.finish_withMirror (ref : OrderRef) (r : OrderResult) (m : MirrorIx) (l : MirrorLink) (p : Part) :
    (p.withMirror m l).finish ref r = (p.finish ref r).withMirror m l := by
  obtain ⟨htlu, hissued⟩ := (p.withMirror m l).finish_orderFinished ref r
  obtain ⟨htlu', hissued'⟩ := p.finish_orderFinished ref r
  rw [Part.finish_eq, p.finish_eq, htlu, hissued, htlu', hissued']
  rfl

theorem Part.endProbe_none {m : MirrorIx} {p : Part} (h : (p.mlt.get m).probe = none) (r : OrderResult) : p.endProbe m r = p := by
  simp [Part.endProbe, h]

theorem Part.endProbe_some {m : MirrorIx} {p : Part} {pr : Probe} (h : (p.mlt.get m).probe = some pr) (r : OrderResult) :
    p.endProbe m r = (p.finish pr.order r).withMirror m (p.mlt.get m).probeStopped := by
  rw [← Part.finish_withMirror]
  simp [Part.endProbe, MirrorLink.probeStopped, h, Part.modMirror_eq]

/-- A probe ends on the link that is in place, whatever else of the link was replaced before. -/
theorem Part.endProbe_withMirror {m : MirrorIx} {l : MirrorLink} {p : Part} (h : l.probe = (p.mlt.get m).probe) (r : OrderResult) :
    (p.withMirror m l).endProbe m r = (p.endProbe m r).withMirror m l.probeStopped := by
  cases hpr : l.probe with
  | none =>
    rw [Part.endProbe_none (by simpa using hpr), Part.endProbe_none (h ▸ hpr), MirrorLink.probeStopped, hpr]
  | some pr =>
    rw [Part.endProbe_some (by simpa using hpr), Part.endProbe_some (h ▸ hpr), Part.finish_withMirror, Part.withMirror_get,
      Part.withMirror_withMirror, Part.withMirror_withMirror]

/-- The probe that ends leaves the other link alone. -/
theorem Part.endProbe_set (m : MirrorIx) (r : OrderResult) (p : Part) :
    (p.endProbe m r).mlt = p.mlt.set m (p.mlt.get m).probeStopped := by
  cases h : (p.mlt.get m).probe with
  | none => rw [Part.endProbe_none h, MirrorLink.probeStopped, h, Two.set_get_self]
  | some pr => rw [Part.endProbe_some h, Part.withMirror_mlt]; simp

/-- A pending probe ends, as the statements report it (R146). -/
theorem Part.endProbe_ended {m : MirrorIx} {p : Part} {pr : Probe} (h : (p.mlt.get m).probe = some pr) (r : OrderResult) :
    probeEnded p (p.endProbe m r) m r := by
  refine ⟨pr, h, ?_, ?_, ?_⟩
  · rw [Part.endProbe_set, MirrorLink.probeStopped, h]
    rfl
  · rw [Part.endProbe_some h]
    exact p.finish_orderFinished _ _
  · simp [Part.sameBut_iff]

theorem Part.endProbe_sameBut (m : MirrorIx) (r : OrderResult) (p : Part) : (p.endProbe m r).sameBut p [.mlt, .tlu, .issued] := by
  simp [Part.sameBut_iff]

end Sys2Proof.Machine
end

section
/-! SUPPORT. Hand-overs (O33): a frame that is sent and one that is not, by the state of the link. -/

namespace Sys2Proof.Machine

theorem Part.handOver_idle {m : MirrorIx} {p : Part} (h : (p.mlt.get m).state = .idle) (codes : List Nat) :
    p.handOver m codes = ⟨(p.leaveIdle m).sendFrame m codes, some (p.mlt.get m).nextSeq⟩ := by
  simp [Part.handOver, h]

theorem Part.handOver_running {m : MirrorIx} {p : Part} (h : (p.mlt.get m).state = .running)
    (hroom : (p.mlt.get m).outstanding.length < 2) (codes : List Nat) :
    p.handOver m codes = ⟨p.sendFrame m codes, some (p.mlt.get m).nextSeq⟩ := by
  simp [Part.handOver, h, hroom]

theorem Part.handOver_skips {m : MirrorIx} {p : Part} (h : ((p.mlt.get m).state = .running ∧
    2 ≤ (p.mlt.get m).outstanding.length) ∨ (p.mlt.get m).state = .checking ∨ (p.mlt.get m).state = .blocked) (codes : List Nat) :
    p.handOver m codes = ⟨p.skipFrame m, none⟩ := by
  rcases h with ⟨h, hfull⟩ | h | h
  · simp [Part.handOver, h, Nat.not_lt.mpr hfull]
  · simp [Part.handOver, h]
  · simp [Part.handOver, h]

theorem Part.handOver_silent {m : MirrorIx} {p : Part} (h : (p.mlt.get m).state = .off ∨ (p.mlt.get m).state = .fault)
    (codes : List Nat) : p.handOver m codes = ⟨p, none⟩ := by
  rcases h with h | h <;> simp [Part.handOver, h]

/-- A hand-over reaches one link alone. -/
theorem Part.handOver_other (m : MirrorIx) (codes : List Nat) (p : Part) :
    (p.handOver m codes).part.mlt.get (other m) = p.mlt.get (other m) := by
  cases h : (p.mlt.get m).state with
  | idle =>
    rw [Part.handOver_idle h]
    simp [Part.sendFrame, Part.leaveIdle, Part.modMirror_eq, Part.withMirror_mlt, Part.endProbe_set, Two.get_set_of_other]
  | running =>
    by_cases hroom : (p.mlt.get m).outstanding.length < 2
    · rw [Part.handOver_running h hroom]
      exact Two.get_set_of_other _ _ _
    · rw [Part.handOver_skips (.inl ⟨h, Nat.le_of_not_lt hroom⟩)]
      exact Two.get_set_of_other _ _ _
  | checking | blocked =>
    rw [Part.handOver_skips (by simp [h])]
    exact Two.get_set_of_other _ _ _
  | off | fault => rw [Part.handOver_silent (by simp [h])]

theorem MirrorLink.probeStopped_nextSeq (l : MirrorLink) : l.probeStopped.nextSeq = l.nextSeq := by
  unfold MirrorLink.probeStopped
  split <;> rfl

theorem MirrorLink.probeStopped_counters (l : MirrorLink) : l.probeStopped.counters = l.counters := by
  unfold MirrorLink.probeStopped
  split <;> rfl

end Sys2Proof.Machine

namespace Sys2Proof.Proofs

open Sys2Proof.Machine

/-- Settles O33: a hand-over by the state of the link. -/
theorem handOverByState : Obligations.HandOverByState := by
  intro p m codes l r sent
  refine ⟨fun hidle => ?_, fun hrunning hroom => ?_, fun hskips => ?_, fun hsilent => ?_, p.handOver_other m codes, ?_⟩
  · have hr : r = ⟨(p.leaveIdle m).sendFrame m codes, some l.nextSeq⟩ := Part.handOver_idle hidle codes
    set q := p.endProbe m (.failed .aborted) with hq
    have hget : q.mlt.get m = l.probeStopped := by rw [hq, Part.endProbe_mlt, if_pos rfl]
    have hpart : r.part = q.withMirror m { q.mlt.get m with
        state := .running
        timer := none
        nextSeq := l.nextSeq + 1
        outstanding := l.outstanding ++ [⟨l.nextSeq, none⟩]
        tx := (q.mlt.get m).tx ++ [.frame l.nextSeq codes]
        counters := { l.counters with sent := l.counters.sent + 1 } } := by
      rw [hr, ← l.probeStopped_nextSeq, ← l.probeStopped_outstanding, ← l.probeStopped_counters, ← hget]
      simp [Part.sendFrame, Part.leaveIdle, Part.modMirror_eq, hq]
    have hseq : r.seq = some l.nextSeq := by rw [hr]
    refine ⟨⟨hseq, ?_⟩, ?_, ?_, ⟨q, Part.endProbe_none (r := _), fun h => ?_, ?_, ?_⟩, fun pr hpr hmem => ?_⟩
    · simp [hpart]
    · simpa [hpart, hget] using l.probeStopped_probe
    · simp [hpart]
    · obtain ⟨pr, hpr⟩ := Option.isSome_iff_exists.mp h
      exact Part.endProbe_ended hpr _
    · rw [hpart, Part.withMirror_mlt]
    · rw [hpart]
      exact q.withMirror_sameBut m _
    · obtain ⟨pr', hpr', -, ⟨-, hissued⟩, -⟩ := Part.endProbe_ended hpr (.failed .aborted)
      obtain rfl : pr' = pr := Option.some_injective _ (hpr'.symm.trans hpr)
      have hsent : r.part.issued = q.issued := by rw [hpart]; rfl
      rw [hsent, hq, hissued, resultWrites, if_pos hmem]
      exact List.prefix_append _ _
  · have hr : r = ⟨p.sendFrame m codes, some l.nextSeq⟩ := Part.handOver_running hrunning hroom codes
    have hpart : r.part = p.withMirror m { l with
        nextSeq := l.nextSeq + 1
        outstanding := l.outstanding ++ [⟨l.nextSeq, none⟩]
        tx := l.tx ++ [.frame l.nextSeq codes]
        counters := { l.counters with sent := l.counters.sent + 1 } } := by
      rw [hr, Part.sendFrame, Part.modMirror_eq, ← hrunning]
    refine ⟨⟨by rw [hr], ?_⟩, by rw [hpart, Part.withMirror_mlt], by rw [hpart]; exact p.withMirror_sameBut m _⟩
    simp [hpart, hrunning]
  · have hr : r = ⟨p.skipFrame m, none⟩ := Part.handOver_skips hskips codes
    rw [hr]
    exact ⟨rfl, p.withMirror_sameBut m _, rfl⟩
  · have hr : r = ⟨p, none⟩ := Part.handOver_silent hsilent codes
    rw [hr]
    exact ⟨rfl, rfl⟩
  · simp [Part.sameBut_iff, r]

end Sys2Proof.Proofs
end

section
/-! SUPPORT. Packets of the drive electronics (O34): the format check, the checks in their order, and the packets that are not
taken. -/

namespace Sys2Proof.Machine

/-! ## The format (R130, R212) -/

theorem receiptStatus_eq_none_iff (b : Byte) : receiptStatus b = none ↔ ¬ b.toNat ≤ 3 := by
  by_cases h : b.toNat ≤ 3
  · have hb : b = 0 ∨ b = 1 ∨ b = 2 ∨ b = 3 := by bv_omega
    rcases hb with rfl | rfl | rfl | rfl <;> simp [receiptStatus]
  · have h0 : b ≠ 0 := by rintro rfl; simp at h
    have h1 : b ≠ 1 := by rintro rfl; simp at h
    have h2 : b ≠ 2 := by rintro rfl; simp at h
    have h3 : b ≠ 3 := by rintro rfl; simp at h
    rw [receiptStatus, if_neg h0, if_neg h1, if_neg h2, if_neg h3]
    simp [h]

/-- A packet is a whole RECEIPT with a status, a whole REPLY, or malformed (R130, R212). -/
theorem driverPacket_cases (packet : List Byte) :
    (driverMalformed packet ∧ driverPacket packet = none) ∨
    (¬ driverMalformed packet ∧ byteAt packet 0 = 0x71 ∧ ∃ st fault,
      driverPacket packet = some (.receipt (byteAt packet 1) (field16 packet 2) st fault)) ∨
    (¬ driverMalformed packet ∧ byteAt packet 0 ≠ 0x71 ∧ ∃ ready fault y, driverPacket packet = some (.reply ready fault y)) := by
  have hstatus := receiptStatus_eq_none_iff (byteAt packet 4)
  by_cases hreceipt : packet.length = 8 ∧ byteAt packet 0 = 0x71
  · obtain ⟨hlen, hkind⟩ := hreceipt
    cases hst : receiptStatus (byteAt packet 4) with
    | none =>
      refine .inl ⟨?_, by simp [driverPacket, field8, hlen, hkind, hst]⟩
      simp [driverMalformed, hlen, hkind, Nat.lt_of_not_le (hstatus.mp hst)]
    | some st =>
      have hle : (byteAt packet 4).toNat ≤ 3 := Decidable.not_not.mp (mt hstatus.mpr (by simp [hst]))
      refine .inr (.inl ⟨by simp [driverMalformed, hlen, hkind, hle], hkind, st, (byteAt packet 5).getLsbD 0, ?_⟩)
      simp only [driverPacket, field8, hlen, hkind, hst, decide_true, Bool.and_self, if_true, Option.map_some]
  · by_cases hreply : packet.length = 6 ∧ byteAt packet 0 = 0x72
    · obtain ⟨hlen, hkind⟩ := hreply
      refine .inr (.inr ⟨by simp [driverMalformed, hlen, hkind], by simp [hkind], (byteAt packet 1).getLsbD 0,
        (byteAt packet 1).getLsbD 1, field16 packet 2, ?_⟩)
      simp [driverPacket, field8, hlen, hkind]
    · refine .inl ⟨⟨fun h => hreceipt ⟨h.1, h.2.1⟩, hreply⟩, ?_⟩
      rw [driverPacket, field8, if_neg (by simpa using hreceipt), if_neg (by simpa using hreply)]

/-! ## Arrivals (R130) -/

theorem Part.mirrorPacketArrival_early (m : MirrorIx) (packet : List Byte) (p : Part) :
    p.mirrorPacketArrival m true packet = p := rfl

theorem Part.mirrorPacketArrival_off {m : MirrorIx} {p : Part} (h : (p.mlt.get m).state = .off) (packet : List Byte) :
    p.mirrorPacketArrival m false packet = p := by
  simp [Part.mirrorPacketArrival, h]

theorem Part.mirrorPacketArrival_taken {m : MirrorIx} {p : Part} (h : (p.mlt.get m).state ≠ .off) (packet : List Byte) :
    p.mirrorPacketArrival m false packet = p.takeMirrorPacket m packet := by
  simp [Part.mirrorPacketArrival, h]

theorem Part.takeMirrorPacket_receipt {packet : List Byte} {id : Byte} {x : Serial} {st : ReceiptStatus} {fault : Bool}
    {m : MirrorIx} (h : driverPacket packet = some (.receipt id x st fault)) (hcrc : crcMatches packet = true)
    (hid : id.toNat = m.val) (p : Part) : p.takeMirrorPacket m packet = p.takeReceipt m x st fault := by
  simp [Part.takeMirrorPacket, h, hcrc, hid]

theorem Part.takeMirrorPacket_reply {packet : List Byte} {ready fault : Bool} {y : Serial}
    (h : driverPacket packet = some (.reply ready fault y)) (hcrc : crcMatches packet = true) (m : MirrorIx) (p : Part) :
    p.takeMirrorPacket m packet = p.takeReply m ready fault y := by
  simp [Part.takeMirrorPacket, h, hcrc]

/-- A reply that no link state awaits is stray (R139, R142, R143, R146). -/
theorem Part.takeReply_stray {m : MirrorIx} {p : Part} (hc : (p.mlt.get m).state ≠ .checking) (hb : (p.mlt.get m).state ≠ .blocked)
    (hi : (p.mlt.get m).state = .idle → (p.mlt.get m).probe = none) (ready fault : Bool) (y : Serial) :
    p.takeReply m ready fault y = p.countStray m := by
  unfold Part.takeReply
  split
  · next h => exact absurd h hc
  · next h => exact absurd h hb
  · next h => rw [hi h]
  all_goals rfl

end Sys2Proof.Machine

namespace Sys2Proof.Proofs

open Sys2Proof.Machine

/-- Settles O34: each packet that is not taken has its counter, by the checks in their order. -/
theorem mirrorPacketsRefused : Obligations.MirrorPacketsRefused := by
  intro s m packet l c counted isReceipt awaited
  have hexec (early : Bool) : exec (.mirrorPacketArrival m early packet) s =
      .next { s with part := s.part.mirrorPacketArrival m early packet } := rfl
  refine ⟨by rw [hexec, Part.mirrorPacketArrival_early], fun hoff => by rw [hexec, Part.mirrorPacketArrival_off hoff],
    fun hon => ?_⟩
  have hcount {g : MirrorCounters → MirrorCounters} (h : s.part.takeMirrorPacket m packet = s.part.countMirror m g) :
      counted (g c) := by
    rw [← Part.mirrorPacketArrival_taken hon] at h
    refine ⟨_, hexec false, rfl, ?_, ?_⟩
    · rw [h]
      rfl
    · rw [h]
      exact s.part.withMirror_sameBut m _
  rcases driverPacket_cases packet with ⟨hbad, hp⟩ | ⟨hok, hkind, st, fault, hp⟩ | ⟨hok, hkind, ready, fault, y, hp⟩
  · refine ⟨fun _ => hcount (g := fun c => { c with format := c.format + 1 }) ?_, fun h => absurd hbad h,
      fun h => absurd hbad h, fun h => absurd hbad h, fun h => absurd hbad h⟩
    simp [Part.takeMirrorPacket, hp]
  · refine ⟨fun h => absurd h hok, fun _ hcrc => hcount (g := fun c => { c with crc := c.crc + 1 }) ?_,
      fun _ hcrc _ hid => hcount (g := fun c => { c with foreign := c.foreign + 1 }) ?_,
      fun _ hcrc _ hid hnone => hcount (g := fun c => { c with stray := c.stray + 1 }) ?_, fun _ _ h => absurd hkind h⟩
    · simp [Part.takeMirrorPacket, hp, hcrc]
    · simp [Part.takeMirrorPacket, hp, hcrc, hid]
    · rw [Part.takeMirrorPacket_receipt hp hcrc hid]
      exact if_pos (by simpa using hnone)
  · refine ⟨fun h => absurd h hok, fun _ hcrc => hcount (g := fun c => { c with crc := c.crc + 1 }) ?_,
      fun _ _ h => absurd h hkind, fun _ _ h => absurd h hkind,
      fun _ hcrc _ hnot => hcount (g := fun c => { c with stray := c.stray + 1 }) ?_⟩
    · simp [Part.takeMirrorPacket, hp, hcrc]
    · simp only [awaited, not_or, not_and, Bool.not_eq_true, Option.isSome_eq_false_iff, Option.isNone_iff_eq_none] at hnot
      obtain ⟨hc, hb, hi⟩ := hnot
      rw [Part.takeMirrorPacket_reply hp hcrc, Part.takeReply_stray hc hb hi]
      rfl

end Sys2Proof.Proofs
end

section
/-! SUPPORT. Receipts (O35): the frames that a receipt retires, and what it then does to the link. -/

namespace Sys2Proof.Machine

/-- A frame is retired with the older ones, on the link in its place (R133). -/
theorem Part.retire_eq {m : MirrorIx} {p : Part} {x : Serial} {older newer : List Outstanding} {sent : Option Time}
    (ho : (p.mlt.get m).outstanding = older ++ ⟨x, sent⟩ :: newer) (hfirst : ∀ o ∈ older, o.seq ≠ x) (st : ReceiptStatus) :
    let c := (p.mlt.get m).counters
    p.retire m x st = p.withMirror m { p.mlt.get m with
      outstanding := newer
      counters := { c with
        accepted := if st = .accepted then c.accepted + 1 else c.accepted
        clipped := if st = .clipped then c.clipped + 1 else c.clipped
        rejected := if st = .rejected then c.rejected + 1 else c.rejected
        busy := if st = .busy then c.busy + 1 else c.busy
        implicitly := c.implicitly + BitVec.ofNat 32 older.length } } := by
  rw [Part.retire, Part.modMirror_eq]
  dsimp only
  rw [ho, newerThan_append hfirst, olderThan_append hfirst]
  cases st <;> rfl

theorem Part.takeReceipt_matching {m : MirrorIx} {p : Part} {x : Serial} {older newer : List Outstanding} {sent : Option Time}
    (hstate : (p.mlt.get m).state ≠ .fault) (ho : (p.mlt.get m).outstanding = older ++ ⟨x, sent⟩ :: newer) (st : ReceiptStatus)
    (fault : Bool) : p.takeReceipt m x st fault = (p.retire m x st).judgeReceipt m st fault := by
  simp [Part.takeReceipt, hstate, ho]

theorem rejectsAfter_eq (st : ReceiptStatus) (n : Nat) :
    rejectsAfter st n = if st = .rejected then min 15 (n + 1) else if st = .busy then n else 0 := by
  cases st <;> rfl

/-! ## What a receipt does to the link (R134, R135) -/

section

variable (m : MirrorIx) (l : MirrorLink) (p : Part) (st : ReceiptStatus)

theorem Part.judgeReceipt_fault : (p.withMirror m l).judgeReceipt m st true = (p.withMirror m l).enterFault m := rfl

/-- The link after a receipt that brings no driver fault, before its status is judged (R134). -/
def MirrorLink.judged (l : MirrorLink) (st : ReceiptStatus) : MirrorLink := { l with rejectCount := rejectsAfter st l.rejectCount }

variable {m l st}

/-- A rejection that reaches the reject limit (R134). -/
theorem Part.judgeReceipt_refusing (h : st = .rejected ∧ l.rejectLimit ≤ (l.judged st).rejectCount) :
    (p.withMirror m l).judgeReceipt m st false = (p.withMirror m (l.judged st)).enterFault m := by
  obtain ⟨rfl, hlimit⟩ := h
  have hlimit' : l.rejectLimit ≤ rejectsAfter .rejected l.rejectCount := hlimit
  simp [Part.judgeReceipt, MirrorLink.judged, hlimit']

/-- BUSY on a link that is BLOCKED already (R135). -/
theorem Part.judgeReceipt_busy_blocked (h : l.state = .blocked) :
    (p.withMirror m l).judgeReceipt m .busy false = p.withMirror m l := by
  unfold Part.judgeReceipt
  simp only [Part.withMirror_get, Part.withMirror_modMirror]
  rw [if_neg (by simp), if_neg (by simp), if_pos trivial, if_pos h]
  rfl

/-- BUSY on another link (R135, R141). -/
theorem Part.judgeReceipt_busy (h : l.state ≠ .blocked) :
    (p.withMirror m l).judgeReceipt m .busy false = (p.withMirror m l).enterBlocked m := by
  simp [Part.judgeReceipt, h, rejectsAfter]

/-- A receipt that leaves the link in service (R134, R135). -/
theorem Part.judgeReceipt_after (hbusy : st ≠ .busy) (h : ¬ (st = .rejected ∧ l.rejectLimit ≤ (l.judged st).rejectCount)) :
    (p.withMirror m l).judgeReceipt m st false = (p.withMirror m (l.judged st)).receiptAfter m := by
  unfold Part.judgeReceipt
  simp only [Part.withMirror_get, Part.withMirror_modMirror]
  rw [if_neg (by simp), if_neg (by simpa [MirrorLink.judged] using h), if_neg hbusy]
  rfl

theorem Part.receiptAfter_running (h : l.state = .running) :
    (p.withMirror m l).receiptAfter m = p.withMirror m { l with timer := l.runTimer } := by
  simp [Part.receiptAfter, h]

theorem Part.receiptAfter_checking_done (h : l.state = .checking) (ho : l.outstanding = []) :
    (p.withMirror m l).receiptAfter m = p.withMirror m { l with state := .running, queryCount := 0, timer := none } := by
  simp [Part.receiptAfter, h, ho]

theorem Part.receiptAfter_checking (h : l.state = .checking) (ho : l.outstanding ≠ []) :
    (p.withMirror m l).receiptAfter m = p.withMirror m l := by
  simp [Part.receiptAfter, h, ho]

theorem Part.receiptAfter_blocked (h : l.state = .blocked) : (p.withMirror m l).receiptAfter m = p.withMirror m l := by
  simp [Part.receiptAfter, h]

end

/-- A receipt touches the state, the timer and the counts of its link, and not the frames that are left (R134, R135). -/
theorem Part.judgeReceipt_set (m : MirrorIx) (st : ReceiptStatus) (fault : Bool) (l : MirrorLink) (p : Part) :
    ∃ l', ((p.withMirror m l).judgeReceipt m st fault).mlt = p.mlt.set m l' ∧ l'.outstanding = l.outstanding ∧
      l'.counters = l.counters := by
  have hfault (l : MirrorLink) : ((p.withMirror m l).enterFault m).mlt = p.mlt.set m _ := (p.enterFault_entered m l).1
  cases fault with
  | true => exact ⟨_, hfault l, rfl, rfl⟩
  | false =>
    unfold Part.judgeReceipt
    simp only [Part.withMirror_get, Part.withMirror_modMirror, Bool.false_eq_true, if_false]
    (repeat' split)
    · exact ⟨_, hfault _, rfl, rfl⟩
    · exact ⟨_, rfl, rfl, rfl⟩
    · exact ⟨_, (p.enterBlocked_entered m _).1, rfl, rfl⟩
    · unfold Part.receiptAfter
      simp only [Part.withMirror_get, Part.withMirror_modMirror]
      (repeat' split)
      all_goals exact ⟨_, rfl, rfl, rfl⟩

end Sys2Proof.Machine

namespace Sys2Proof.Proofs

open Sys2Proof.Machine

/-- Settles O35: a receipt retires its frame and the older ones, and then moves its link or leaves it. -/
theorem receiptRetiresFrames : Obligations.ReceiptRetiresFrames := by
  intro s m packet x st fault older newer sent l hpacket hcrc hstate ho hfirst c counted retired rejects refusing
  have hid : (BitVec.ofNat 8 m.val).toNat = m.val := by
    rw [BitVec.toNat_ofNat]
    exact Nat.mod_eq_of_lt (by omega)
  have hoff : l.state ≠ .off := by rcases hstate with h | h | h <;> simp [h]
  have hfault : l.state ≠ .fault := by rcases hstate with h | h | h <;> simp [h]
  have hexec : exec (.mirrorPacketArrival m false packet) s =
      .next { s with part := (s.part.withMirror m retired).judgeReceipt m st fault } := by
    rw [← Part.retire_eq ho hfirst st, ← Part.takeReceipt_matching hfault ho, ← Part.takeMirrorPacket_receipt hpacket hcrc hid,
      ← Part.mirrorPacketArrival_taken hoff]
    rfl
  have hrejects : (retired.judged st) = { retired with rejectCount := rejects } := by
    rw [MirrorLink.judged, rejectsAfter_eq]
  obtain ⟨l', hmlt, hframes, hcounters⟩ := s.part.judgeReceipt_set m st fault retired
  have hblocked (hf : fault = false) (hbusy : st = .busy) (hl : l.state = .blocked) :
      (s.part.withMirror m retired).judgeReceipt m st fault = s.part.withMirror m { retired with rejectCount := rejects } := by
    rw [← hrejects, hf, hbusy]
    exact s.part.judgeReceipt_busy_blocked hl
  have hafter (hf : fault = false) (hbusy : st ≠ .busy) (hr : ¬ refusing) : (s.part.withMirror m retired).judgeReceipt m st fault =
      (s.part.withMirror m { retired with rejectCount := rejects }).receiptAfter m := by
    rw [← hrejects, hf]
    exact s.part.judgeReceipt_after hbusy (by rw [hrejects]; exact hr)
  have hput {q : Part} (l' : MirrorLink) (hq : q = s.part.withMirror m l') : q.mlt.get m = l' ∧ q.sameBut s.part [.mlt] := by
    rw [hq]
    exact ⟨Part.withMirror_get _ _ _, s.part.withMirror_sameBut m l'⟩
  refine ⟨_, hexec, rfl, ?_, ?_, ?_, fun hf => ?_, fun hf hr => ?_, fun hf hbusy hl => ?_, fun hf hbusy hr hl => ?_,
    fun hf hbusy hr hl hnone => ?_, fun hf hbusy hr hl hsome => ?_, fun hf hr hl => ?_, ?_⟩ <;> dsimp only
  · rw [hmlt, Two.get_set_self, hframes]
  · rw [hmlt, Two.get_set_self, hcounters]
  · rw [hmlt, Two.get_set_of_other]
  · rw [hf, Part.judgeReceipt_fault]
    exact s.part.enterFault_entered m retired
  · rw [hf, Part.judgeReceipt_refusing (l := retired) s.part (by rw [hrejects]; exact hr), hrejects]
    exact s.part.enterFault_entered m _
  · rw [hf, hbusy, Part.judgeReceipt_busy (l := retired) s.part hl]
    exact s.part.enterBlocked_entered m _
  · exact hput _ ((hafter hf hbusy hr).trans (Part.receiptAfter_running s.part hl))
  · exact hput _ ((hafter hf hbusy hr).trans (Part.receiptAfter_checking_done s.part hl hnone))
  · exact hput _ ((hafter hf hbusy hr).trans (Part.receiptAfter_checking s.part hl hsome))
  · refine hput _ ?_
    by_cases hbusy : st = .busy
    · exact hblocked hf hbusy hl
    · exact (hafter hf hbusy hr).trans (Part.receiptAfter_blocked s.part hl)
  · simp [Part.sameBut_iff]

end Sys2Proof.Proofs
end

section
/-! SUPPORT. Replies (O36): the reconciled list, and the reply in CHECKING, in BLOCKED and to a probe. -/

namespace Sys2Proof.Machine

/-! ## The reconciled list (R139; log entry 36) -/

/-- At or older than the last accepted sequence is a distance of at most 32,767 behind it. -/
theorem atOrOlder_eq (y x : Serial) : atOrOlder y x = decide ((y - x).toNat ≤ 32767) := by
  have hzero : x = y ↔ (y - x).toNat = 0 := by bv_omega
  simp only [atOrOlder, newer, ← Bool.decide_and, ← Bool.decide_or, decide_eq_decide, hzero]
  omega

theorem not_atOrOlder_eq (y x : Serial) : (!atOrOlder y x) = decide (32767 < (y - x).toNat) := by
  rw [atOrOlder_eq, ← decide_not, decide_eq_decide, Nat.not_le]

theorem Part.reconcile_eq (m : MirrorIx) (y : Serial) (p : Part) :
    p.reconcile m y = p.withMirror m (reconciled (p.mlt.get m) y) := by
  rw [Part.reconcile, Part.modMirror_eq, reconciled]
  simp only [not_atOrOlder_eq]
  simp only [atOrOlder_eq, List.length_pos_iff, ite_not]

/-! ## The replies (R139, R142, R146) -/

section

variable {m : MirrorIx} {p : Part} {y : Serial}

/-- The link that a REPLY in CHECKING leaves, before the driver's flags are judged (R139). -/
def MirrorLink.checked (l : MirrorLink) (y : Serial) : MirrorLink := { reconciled l y with queryCount := 0, timer := none }

theorem Part.replyInChecking_eq (ready fault : Bool) : p.replyInChecking m ready fault y =
    if fault then (p.withMirror m ((p.mlt.get m).checked y)).enterFault m
    else if ready then p.withMirror m { (p.mlt.get m).checked y with state := p.readyState }
    else (p.withMirror m ((p.mlt.get m).checked y)).enterBlocked m := by
  simp only [Part.replyInChecking, Part.reconcile_eq, Part.withMirror_modMirror]
  rfl

/-- The link that a REPLY in BLOCKED leaves, before the driver's flags are judged (R142). -/
def MirrorLink.answered (l : MirrorLink) (y : Serial) : MirrorLink := { reconciled l y with awaiting := false }

theorem Part.replyInBlocked_eq (ready fault : Bool) : p.replyInBlocked m ready fault y =
    if fault then (p.withMirror m ((p.mlt.get m).answered y)).enterFault m
    else if ready then p.withMirror m { (p.mlt.get m).answered y with state := p.readyState, timer := none }
    else if (p.mlt.get m).blockLimit ≤ min 255 ((p.mlt.get m).blockCount + 1) then
      (p.withMirror m { (p.mlt.get m).answered y with blockCount := min 255 ((p.mlt.get m).blockCount + 1) }).enterFault m
    else p.withMirror m { (p.mlt.get m).answered y with blockCount := min 255 ((p.mlt.get m).blockCount + 1) } := by
  simp only [Part.replyInBlocked, Part.modMirror_eq, Part.reconcile_eq, Part.withMirror_get, Part.withMirror_withMirror]
  rfl

theorem Part.takeReply_checking (h : (p.mlt.get m).state = .checking) (ready fault : Bool) :
    p.takeReply m ready fault y = p.replyInChecking m ready fault y := by
  simp [Part.takeReply, h]

theorem Part.takeReply_blocked (h : (p.mlt.get m).state = .blocked) (ready fault : Bool) :
    p.takeReply m ready fault y = p.replyInBlocked m ready fault y := by
  simp [Part.takeReply, h]

theorem Part.takeReply_probe {pr : Probe} (h : (p.mlt.get m).state = .idle) (hpr : (p.mlt.get m).probe = some pr)
    (ready fault : Bool) : p.takeReply m ready fault y = p.replyToProbe m pr ready fault y := by
  simp [Part.takeReply, h, hpr]

end

end Sys2Proof.Machine

namespace Sys2Proof.Proofs

open Sys2Proof.Machine

/-- A reply that passes the checks is taken by the state of its link (R130). -/
theorem exec_reply {s : State} {m : MirrorIx} {packet : List Byte} {ready fault : Bool} {y : Serial}
    (hpacket : driverPacket packet = some (.reply ready fault y)) (hcrc : crcMatches packet = true)
    (hon : (s.part.mlt.get m).state ≠ .off) :
    exec (.mirrorPacketArrival m false packet) s = .next { s with part := s.part.takeReply m ready fault y } := by
  rw [← Part.takeMirrorPacket_reply hpacket hcrc, ← Part.mirrorPacketArrival_taken hon]
  rfl

/-- A reply in CHECKING (O36's first part). -/
theorem replyInChecking_holds : replyInChecking := by
  intro s m packet ready fault y l hpacket hcrc hstate l'
  have hexec := exec_reply hpacket hcrc (s := s) (m := m) (by simp [show (s.part.mlt.get m).state = _ from hstate])
  rw [Part.takeReply_checking hstate, Part.replyInChecking_eq] at hexec
  refine ⟨_, hexec, rfl, fun hf => ?_, fun hf hr => ?_, fun hf hr => ?_⟩
  · rw [if_pos hf]
    exact s.part.enterFault_entered m l'
  · rw [if_neg (by simp [hf]), if_neg (by simp [hr])]
    exact s.part.enterBlocked_entered m l'
  · rw [if_neg (by simp [hf]), if_pos hr]
    exact ⟨rfl, s.part.withMirror_sameBut m _⟩

/-- A reply in BLOCKED (O36's second part). -/
theorem replyInBlocked_holds : replyInBlocked := by
  intro s m packet ready fault y l hpacket hcrc hstate l' blocks
  have hexec := exec_reply hpacket hcrc (s := s) (m := m) (by simp [show (s.part.mlt.get m).state = _ from hstate])
  rw [Part.takeReply_blocked hstate, Part.replyInBlocked_eq] at hexec
  refine ⟨_, hexec, rfl, fun hf => ?_, fun hf hr hlimit => ?_, fun hf hr hlimit => ?_, fun hf hr => ?_⟩
  · rw [if_pos hf]
    exact s.part.enterFault_entered m l'
  · rw [if_neg (by simp [hf]), if_neg (by simp [hr]), if_pos hlimit]
    exact s.part.enterFault_entered m { l' with blockCount := blocks }
  · rw [if_neg (by simp [hf]), if_neg (by simp [hr]), if_neg (Nat.not_le.mpr hlimit)]
    exact ⟨rfl, s.part.withMirror_sameBut m _⟩
  · rw [if_neg (by simp [hf]), if_pos hr]
    exact ⟨rfl, s.part.withMirror_sameBut m _⟩

/-- A reply to a probe (O36's third part). -/
theorem replyEndsProbe_holds : replyEndsProbe := by
  intro s m packet ready fault y pr l hpacket hcrc hstate hprobe
  have hexec := exec_reply hpacket hcrc (s := s) (m := m) (by simp [show (s.part.mlt.get m).state = _ from hstate])
  rw [Part.takeReply_probe hstate hprobe] at hexec
  set p : Part := { s.part with frees := if pr.sendTime.isSome then s.part.frees else s.part.frees + 1 } with hp
  have hdrawn : (if pr.sendTime.isNone then s.part.drawFree else s.part) = p := by
    rw [hp]
    cases pr.sendTime <;> rfl
  set r := s.part.probeResult pr ready fault y
  set q := p.endProbe m r with hq
  have hreply : s.part.replyToProbe m pr ready fault y = if fault then q.enterFault m else q := by
    rw [Part.replyToProbe, hdrawn]
  rw [hreply] at hexec
  refine ⟨_, q, r.d1, hexec, rfl, fun left hleft => ?_, Part.endProbe_ended (p := p) hprobe r, fun hf => ?_, fun hf => ?_⟩
  · simp only [r, Part.probeResult, hleft]
    rfl
  · rw [if_pos hf]
    have h := q.enterFault_entered m (q.mlt.get m)
    rwa [Part.withMirror, Two.set_get_self] at h
  · rw [if_neg (by simp [hf])]

/-- Settles O36: a reply in CHECKING, in BLOCKED and to a probe. -/
theorem replyReconciles : Obligations.ReplyReconciles := ⟨replyInChecking_holds, replyInBlocked_holds, replyEndsProbe_holds⟩

end Sys2Proof.Proofs
end

section
/-! SUPPORT. The receipt timer's expiry (O37): what it makes of the link in each state. -/

namespace Sys2Proof.Machine

/-! ## Time stands still in a FAULT and at a probe's end (R143, R146) -/

theorem Part.enterFault_timebase (m : MirrorIx) (p : Part) : (p.enterFault m).tlu.timebase = p.tlu.timebase := by
  unfold Part.enterFault
  rcases Part.takeHold_tlu .mirrorLink (Part.raise .mirrorLink _) with h | h <;> rw [h] <;> simp

theorem Part.endProbe_timebase (m : MirrorIx) (r : OrderResult) (p : Part) : (p.endProbe m r).tlu.timebase = p.tlu.timebase := by
  unfold Part.endProbe
  split
  · rfl
  · rw [Part.finish_tlu]
    split <;> simp

/-- The expiry of a probe's timer ends the probe as its end alone does: both stop the timer (R138, R146). -/
theorem Part.endProbe_timerStopped {m : MirrorIx} {p : Part} {pr : Probe} (h : (p.mlt.get m).probe = some pr) (r : OrderResult) :
    probeEnded p ((p.withMirror m { p.mlt.get m with timer := none }).endProbe m r) m r := by
  have hstopped : ({ p.mlt.get m with timer := none } : MirrorLink).probeStopped = (p.mlt.get m).probeStopped := by
    simp [MirrorLink.probeStopped, h]
  have hput : (p.endProbe m r).withMirror m (p.mlt.get m).probeStopped = p.endProbe m r := by
    rw [Part.withMirror, Part.endProbe_set, Two.set_set, ← Part.endProbe_set]
  rw [Part.endProbe_withMirror (by rfl), hstopped, hput]
  exact Part.endProbe_ended h r

/-! ## A QUERY after an expiry (R137, R138, R141) -/

/-- The link with one more QUERY issued, and its receipt timer started. -/
def MirrorLink.queried (l : MirrorLink) (expiry : Time) : MirrorLink :=
  { l with
    tx := l.tx ++ [.query false]
    timer := some expiry
    counters := { l.counters with queries := l.counters.queries + 1 } }

theorem Part.query_withMirror (m : MirrorIx) (l : MirrorLink) (p : Part) :
    ((p.withMirror m l).issueQuery m false).startMirrorTimer m = p.withMirror m (l.queried (later p.now l.timeoutUs)) := by
  rw [Part.issueQuery_withMirror, Part.startMirrorTimer, Part.withMirror_modMirror]
  rfl

/-- The number of unanswered QUERYs of a BLOCKED link after one more expiry (R141). -/
def MirrorLink.blocksAfter (l : MirrorLink) : Nat := if l.awaiting then min 255 (l.blockCount + 1) else l.blockCount

section

variable {m : MirrorIx} {p : Part} {t : Time}

/-- The part at the expiry, with the timer stopped. -/
def Part.atExpiry (m : MirrorIx) (t : Time) (p : Part) : Part :=
  (p.advanceTo t).withMirror m { p.mlt.get m with timer := none }

theorem Part.receiptTimerExpiry_stopped (h : (p.mlt.get m).timer = none) : p.receiptTimerExpiry m = p := by
  simp [Part.receiptTimerExpiry, h]

theorem Part.receiptTimerExpiry_eq (h : (p.mlt.get m).timer = some t) : p.receiptTimerExpiry m =
    match (p.mlt.get m).state with
    | .running => (p.atExpiry m t).expiryInRunning m
    | .checking => (p.atExpiry m t).expiryInChecking m
    | .blocked => (p.atExpiry m t).expiryInBlocked m
    | .idle => (p.atExpiry m t).endProbe m (.failed .timeout)
    | .off | .fault => p.atExpiry m t := by
  unfold Part.receiptTimerExpiry
  rw [h]
  rfl

theorem Part.expiryInRunning_eq (l : MirrorLink) : (p.withMirror m l).expiryInRunning m =
    p.withMirror m { l.queried (later p.now l.timeoutUs) with state := .checking, queryCount := 1 } := by
  rw [Part.expiryInRunning, Part.withMirror_modMirror, Part.query_withMirror]
  rfl

theorem Part.expiryInChecking_eq (l : MirrorLink) : (p.withMirror m l).expiryInChecking m =
    if l.queryCount < l.queryLimit then
      p.withMirror m { l.queried (later p.now l.timeoutUs) with queryCount := l.queryCount + 1 }
    else (p.withMirror m l).enterFault m := by
  rw [Part.expiryInChecking, Part.withMirror_modMirror, Part.query_withMirror, Part.withMirror_get]
  rfl

theorem Part.expiryInBlocked_eq (l : MirrorLink) : (p.withMirror m l).expiryInBlocked m =
    if l.blockLimit ≤ l.blocksAfter then (p.withMirror m { l with blockCount := l.blocksAfter }).enterFault m
    else p.withMirror m { l.queried (later p.now l.timeoutUs) with awaiting := true, blockCount := l.blocksAfter } := by
  simp only [Part.expiryInBlocked, Part.withMirror_modMirror, Part.query_withMirror, Part.withMirror_get]
  rfl

theorem Part.expiryInBlocked_below {l : MirrorLink} (h : l.blocksAfter < l.blockLimit) :
    (p.withMirror m { l with timer := none }).expiryInBlocked m =
      p.withMirror m { ({ l with timer := none } : MirrorLink).queried (later p.now l.timeoutUs) with
        awaiting := true, blockCount := l.blocksAfter } :=
  (Part.expiryInBlocked_eq _).trans (if_neg (Nat.not_le.mpr h))

theorem Part.expiryInBlocked_atLimit {l : MirrorLink} (h : l.blockLimit ≤ l.blocksAfter) :
    (p.withMirror m { l with timer := none }).expiryInBlocked m =
      (p.withMirror m { l with timer := none, blockCount := l.blocksAfter }).enterFault m :=
  (Part.expiryInBlocked_eq _).trans (if_pos h)

/-- An expiry moves the time to itself and reaches one link alone. -/
theorem Part.receiptTimerExpiry_frame (h : (p.mlt.get m).timer = some t) :
    (p.receiptTimerExpiry m).tlu.timebase = (p.advanceTo t).tlu.timebase ∧
      (p.receiptTimerExpiry m).mlt.get (other m) = p.mlt.get (other m) := by
  have hput (l : MirrorLink) : ((p.advanceTo t).withMirror m l).tlu.timebase = (p.advanceTo t).tlu.timebase ∧
      ((p.advanceTo t).withMirror m l).mlt.get (other m) = p.mlt.get (other m) := ⟨rfl, Two.get_set_of_other _ _ _⟩
  have hfault (l : MirrorLink) : (((p.advanceTo t).withMirror m l).enterFault m).tlu.timebase = (p.advanceTo t).tlu.timebase ∧
      (((p.advanceTo t).withMirror m l).enterFault m).mlt.get (other m) = p.mlt.get (other m) := by
    rw [Part.enterFault_timebase, Part.enterFault_mlt, Two.get_set_of_other]
    exact hput l
  rw [Part.receiptTimerExpiry_eq h, Part.atExpiry]
  split
  · rw [Part.expiryInRunning_eq]
    exact hput _
  · rw [Part.expiryInChecking_eq]
    split
    · exact hput _
    · exact hfault _
  · rw [Part.expiryInBlocked_eq]
    split
    · exact hfault _
    · exact hput _
  · rw [Part.endProbe_timebase, Part.endProbe_set, Two.get_set_of_other]
    exact hput _
  · exact hput _
  · exact hput _

end

end Sys2Proof.Machine

namespace Sys2Proof.Proofs

open Sys2Proof.Machine

/-- Settles O37: the receipt timer's expiry by the state of the link. -/
theorem receiptTimerExpires : Obligations.ReceiptTimerExpires := by
  intro s m l
  have hexec : exec (.receiptTimerExpiry m) s = .next { s with part := s.part.receiptTimerExpiry m } := rfl
  refine ⟨fun h => by rw [hexec, Part.receiptTimerExpiry_stopped h], fun at_ hat => ⟨_, hexec, rfl, ?_⟩⟩
  obtain ⟨htime, hother⟩ := s.part.receiptTimerExpiry_frame hat
  have hexpiry := Part.receiptTimerExpiry_eq hat
  dsimp only
  have htimed : ({ s.part with tlu := { s.part.tlu with timebase := (s.part.receiptTimerExpiry m).tlu.timebase } } : Part) =
      s.part.advanceTo at_ := by rw [htime]; rfl
  rw [htimed, htime]
  set a := s.part.advanceTo at_ with ha
  have hput {t : Part} (l' : MirrorLink) (ht : t = a.withMirror m l') : t.mlt.get m = l' ∧ t.sameBut a [.mlt] := by
    rw [ht]
    exact ⟨Part.withMirror_get _ _ _, a.withMirror_sameBut m l'⟩
  refine ⟨s.part.reached_advanceTo at_, hother, ⟨fun hst => ?_, fun hst hlimit => ?_, fun hst hlimit => ?_, fun hst hlimit => ?_,
    fun hst hlimit => ?_, fun hst hprobe => ?_⟩, by simp [Part.sameBut_iff]⟩ <;>
    simp only [show (s.part.mlt.get m).state = _ from hst] at hexpiry
  · exact hput _ (hexpiry.trans (Part.expiryInRunning_eq _))
  · rw [Part.atExpiry, Part.expiryInChecking_eq, if_pos hlimit] at hexpiry
    exact hput _ hexpiry
  · rw [Part.atExpiry, Part.expiryInChecking_eq, if_neg (Nat.not_lt.mpr hlimit)] at hexpiry
    rw [hexpiry]
    exact a.enterFault_entered m { l with timer := none }
  · exact hput _ (hexpiry.trans (Part.expiryInBlocked_below hlimit))
  · rw [hexpiry, Part.atExpiry, Part.expiryInBlocked_atLimit hlimit]
    exact a.enterFault_entered m { l with timer := none, blockCount := l.blocksAfter }
  · obtain ⟨pr, hpr⟩ := Option.isSome_iff_exists.mp hprobe
    rw [hexpiry]
    exact Part.endProbe_timerStopped (p := a) hpr (.failed .timeout)

end Sys2Proof.Proofs
end

section
/-! SUPPORT. The orders of the mirror links (O38, O39): what SET_MIRROR, MIRROR_RESET and MIRROR_PROBE answer and what they make of the
link, with the pending probe that they end. -/

namespace Sys2Proof.Machine

/-! ## The probe that an order ends (R146) -/

/-- A pending probe ends ABORTED; without one, nothing happens (R146). -/
theorem Part.endProbe_cases (m : MirrorIx) (r : OrderResult) (p : Part) :
    ((p.mlt.get m).probe = none → p.endProbe m r = p) ∧
      ((p.mlt.get m).probe.isSome = true → probeEnded p (p.endProbe m r) m r) := by
  refine ⟨fun h => Part.endProbe_none h r, fun h => ?_⟩
  obtain ⟨pr, hpr⟩ := Option.isSome_iff_exists.mp h
  exact Part.endProbe_ended hpr r

/-! ## SET_MIRROR (R131, R132) -/

/-- The link with the clamped values of SET_MIRROR. -/
def MirrorLink.tuned (q : MirrorOrderParams) (l : MirrorLink) : MirrorLink :=
  { l with
    timeoutUs := max 50 (min 5000 q.timeoutUs.toNat)
    queryLimit := max 1 (min 7 q.queryLimit.toNat)
    blockLimit := max 1 (min 255 q.blockLimit.toNat)
    rejectLimit := max 1 (min 15 q.rejectLimit.toNat) }

/-- The link that is disabled: OFF, its frames cleared, and no probe and no packet left. -/
def MirrorLink.disabled (l : MirrorLink) : MirrorLink :=
  { l.clearedOut with state := .off, enable := false, probe := none, tx := [] }

theorem setMirrorAdjusts_eq (q : MirrorOrderParams) : setMirrorAdjusts q =
    decide (q.timeoutUs.toNat ≠ max 50 (min 5000 q.timeoutUs.toNat) ∨ q.queryLimit.toNat ≠ max 1 (min 7 q.queryLimit.toNat) ∨
      q.blockLimit.toNat ≠ max 1 (min 255 q.blockLimit.toNat) ∨ q.rejectLimit.toNat ≠ max 1 (min 15 q.rejectLimit.toNat)) := by
  simp only [setMirrorAdjusts, outside_eq _ _ _ (show 50 ≤ 5000 by decide), outside_eq _ _ _ (show 1 ≤ 7 by decide),
    outside_eq _ _ _ (show 1 ≤ 255 by decide), outside_eq _ _ _ (show 1 ≤ 15 by decide), Bool.decide_or, Bool.or_assoc]

/-- A link is stopped from probing and cut off on its way to OFF: both leave what the disable would leave anyway. -/
theorem MirrorLink.probeStopped_disabled (l : MirrorLink) :
    ({ ({ l.probeStopped with tx := [] } : MirrorLink).clearedOut with state := .off, enable := false } : MirrorLink) = l.disabled := by
  cases h : l.probe <;> simp [MirrorLink.probeStopped, MirrorLink.disabled, MirrorLink.clearedOut, MirrorLink.quieted, h]

/-- The packets of a probe that ends stay on the link. -/
theorem MirrorLink.probeStopped_tx_eq_nil (l : MirrorLink) : l.probeStopped.tx = [] ↔ l.tx = [] := by
  cases h : l.probe <;> simp [MirrorLink.probeStopped, h]

theorem Part.disableMirror_withMirror {m : MirrorIx} {l : MirrorLink} {p : Part} (h : l.probe = (p.mlt.get m).probe) :
    (p.withMirror m l).disableMirror m = { (p.endProbe m (.failed .aborted)).withMirror m l.disabled with
      issued := (p.endProbe m (.failed .aborted)).issued ++ if l.tx = [] then [] else [.cutOff m] } := by
  rw [Part.disableMirror, Part.endProbe_withMirror h, Part.cutOff_eq]
  simp [Part.modMirror_eq, Part.withMirror, Two.set_set, MirrorLink.probeStopped_disabled, MirrorLink.probeStopped_tx_eq_nil]

section

variable {m : MirrorIx} {q : MirrorOrderParams} {p : Part}

/-- An index or an enable above 1 is refused. -/
theorem Part.setMirror_badParameter (h : 2 ≤ q.mirror.toNat ∨ 2 ≤ q.enable.toNat) : p.setMirror q = (.failed .badParameter, p) := by
  unfold Part.setMirror
  rcases h with h | h
  · rw [indexOf_eq_none h]
  · rw [flagOf_eq_none h]
    cases indexOf 2 q.mirror <;> rfl

/-- A link with actuators is not disabled in a CLOSED loop. -/
theorem Part.setMirror_wrongState (hm : q.mirror.toNat = m.val) (he : q.enable = 0) (hon : (p.mlt.get m).state ≠ .off)
    (hclosed : p.lpc.loop = .closed ∧ 0 < p.geo.mirror m) : p.setMirror q = (.failed .wrongState, p) := by
  obtain ⟨hloop, hactuators⟩ := hclosed
  simp [Part.setMirror, indexOf_eq_some hm, he, flagOf, hon, hloop, hactuators]

/-- SET_MIRROR is carried out where it does not disable a link with actuators in a CLOSED loop. -/
theorem Part.setMirror_applied (hm : q.mirror.toNat = m.val) {enable : Bool} (he : flagOf q.enable = some enable)
    (hok : enable = true ∨ (p.mlt.get m).state = .off ∨ ¬ (p.lpc.loop = .closed ∧ 0 < p.geo.mirror m)) :
    p.setMirror q = (.adjustedDone (setMirrorAdjusts q), p.applySetMirror m enable q) := by
  rw [Part.setMirror, indexOf_eq_some hm, he]
  refine if_neg ?_
  rcases hok with rfl | hoff | hclosed
  · simp
  · simp [hoff]
  · simpa using fun _ _ hloop => Nat.eq_zero_of_not_pos fun hactuators => hclosed ⟨hloop, hactuators⟩

theorem Part.applySetMirror_eq (enable : Bool) : p.applySetMirror m enable q =
    if enable then
      if (p.mlt.get m).state = .off then (p.withMirror m ((p.mlt.get m).tuned q)).enableMirror m
      else p.withMirror m ((p.mlt.get m).tuned q)
    else if (p.mlt.get m).state = .off then p.withMirror m ((p.mlt.get m).tuned q)
    else (p.withMirror m ((p.mlt.get m).tuned q)).disableMirror m := by
  simp only [Part.applySetMirror, Part.modMirror_eq, Part.withMirror_get]
  rfl

end

end Sys2Proof.Machine

namespace Sys2Proof.Proofs

open Sys2Proof.Machine

/-- Settles O38: SET_MIRROR, by its enable value and the state of the link. -/
theorem setMirrorEffects : Obligations.SetMirrorEffects := by
  intro s h q hready
  dsimp only
  set o := orderTaken s.part h with ho
  have hexec {r : OrderResult} {t : Part} (hr : o.setMirror q = (r, t)) : exec (.setMirror h q) s = .next
      { s with part := t.finish (s.part.orderRef h (.setMirror q)) r } := by
    rw [exec_control (o := .setMirror q) rfl hready rfl, Part.carryOut, ← ho, hr, Part.finishWith]
  refine ⟨fun hbad => ⟨_, hexec (Part.setMirror_badParameter hbad), rfl, Part.answered_refused _ _ _ _⟩, fun m hm _ => ?_⟩
  rw [← setMirrorAdjusts_eq]
  have hstored (l : MirrorLink) : s.part.Answered h (.adjustedDone (setMirrorAdjusts q)) s.part.xu s.part.tlu [.mlt]
      ((o.withMirror m l).finish (s.part.orderRef h (.setMirror q)) (.adjustedDone (setMirrorAdjusts q))) :=
    Part.answered_of_sameBut (o.withMirror_sameBut m l) (by simp) (by simp) (by simp) _ _
  have hmlt (l : MirrorLink) : ((o.withMirror m l).finish (s.part.orderRef h (.setMirror q))
      (.adjustedDone (setMirrorAdjusts q))).mlt = s.part.mlt.set m l := by
    simp [Part.withMirror_mlt, ho]
  have happlied {enable : Bool} (he : flagOf q.enable = some enable) := Part.setMirror_applied (p := o) hm he
  simp only [Part.applySetMirror_eq, show o.mlt = s.part.mlt from rfl] at happlied
  refine ⟨fun he hon hclosed => ⟨_, hexec (Part.setMirror_wrongState hm he hon hclosed), rfl, Part.answered_refused _ _ _ _⟩,
    fun he hoff => ?_, fun he hon => ?_, fun he hoff => ?_, fun he hon hclosed => ?_⟩
  · have hr := happlied (enable := true) (by rw [he]; rfl) (.inl rfl)
    rw [if_pos rfl, if_pos hoff, Part.enableMirror, Part.withMirror_modMirror] at hr
    exact ⟨_, ⟨hexec hr, rfl, hstored _⟩, hmlt _⟩
  · have hr := happlied (enable := true) (by rw [he]; rfl) (.inl rfl)
    rw [if_pos rfl, if_neg hon] at hr
    exact ⟨_, ⟨hexec hr, rfl, hstored _⟩, hmlt _⟩
  · have hr := happlied (enable := false) (by rw [he]; rfl) (.inr (.inl hoff))
    rw [if_neg Bool.false_ne_true, if_pos hoff] at hr
    exact ⟨_, ⟨hexec hr, rfl, hstored _⟩, hmlt _⟩
  · have hr := happlied (enable := false) (by rw [he]; rfl) (.inr (.inr hclosed))
    rw [if_neg Bool.false_ne_true, if_neg hon, Part.disableMirror_withMirror (by rfl)] at hr
    obtain ⟨hnone, hsome⟩ := o.endProbe_cases m (.failed .aborted)
    refine ⟨_, o.endProbe m (.failed .aborted), hexec hr, rfl, hnone, hsome, ?_, Part.finish_orderFinished _ _ _,
      by simp [Part.sameBut_iff]⟩
    simp only [Part.finish_keeps, Part.withMirror_mlt, Part.endProbe_set, Two.set_set]
    rfl

end Sys2Proof.Proofs
end

section
/-! SUPPORT. MIRROR_RESET and MIRROR_PROBE (O39). -/

namespace Sys2Proof.Machine

section

variable {m : MirrorIx} {index : Byte} {ref : OrderRef} {p : Part}

theorem Part.mirrorReset_badParameter (h : 2 ≤ index.toNat) : p.mirrorReset index = (.failed .badParameter, p) := by
  rw [Part.mirrorReset, indexOf_eq_none h]

theorem Part.mirrorReset_off (hm : index.toNat = m.val) (h : (p.mlt.get m).state = .off) :
    p.mirrorReset index = (.failed .wrongState, p) := by
  rw [Part.mirrorReset, indexOf_eq_some hm]
  exact if_pos h

theorem Part.mirrorReset_on (hm : index.toNat = m.val) (h : (p.mlt.get m).state ≠ .off) : p.mirrorReset index =
    (.done, (p.endProbe m (.failed .aborted)).modMirror m fun l => { l.clearedOut with state := .idle }) := by
  rw [Part.mirrorReset, indexOf_eq_some hm]
  exact if_neg h

/-- A probe that ends on the link leaves its counters and its outstanding list to the reset (R144, R146). -/
theorem Part.endProbe_get (m : MirrorIx) (r : OrderResult) (p : Part) :
    ((p.endProbe m r).mlt.get m).counters = (p.mlt.get m).counters ∧
      ((p.endProbe m r).mlt.get m).outstanding = (p.mlt.get m).outstanding := by
  rw [Part.endProbe_set, Two.get_set_self]
  exact ⟨MirrorLink.probeStopped_counters _, MirrorLink.probeStopped_outstanding _⟩

theorem Part.mirrorProbe_badParameter (h : 2 ≤ index.toNat) : p.mirrorProbe index ref = (some (.failed .badParameter), p) := by
  rw [Part.mirrorProbe, indexOf_eq_none h]

theorem Part.mirrorProbe_wrongState (hm : index.toNat = m.val) (h : (p.mlt.get m).state ≠ .idle) :
    p.mirrorProbe index ref = (some (.failed .wrongState), p) := by
  rw [Part.mirrorProbe, indexOf_eq_some hm]
  exact if_pos h

theorem Part.mirrorProbe_busy (hm : index.toNat = m.val) (h : (p.mlt.get m).state = .idle)
    (hprobe : (p.mlt.get m).probe.isSome = true) : p.mirrorProbe index ref = (some (.failed .busy), p) := by
  rw [Part.mirrorProbe, indexOf_eq_some hm]
  exact (if_neg (not_not.mpr h)).trans (if_pos hprobe)

/-- The probe is pending with its order, and its QUERY is issued (R145). -/
theorem Part.mirrorProbe_begun (hm : index.toNat = m.val) (h : (p.mlt.get m).state = .idle) (hprobe : (p.mlt.get m).probe = none) :
    p.mirrorProbe index ref = (none, p.withMirror m { p.mlt.get m with
      probe := some ⟨ref, none⟩
      tx := (p.mlt.get m).tx ++ [.query true]
      counters := { (p.mlt.get m).counters with queries := (p.mlt.get m).counters.queries + 1 } }) := by
  rw [Part.mirrorProbe, indexOf_eq_some hm]
  refine (if_neg (not_not.mpr h)).trans ((if_neg (by simp [hprobe])).trans ?_)
  rw [Part.modMirror_eq, Part.issueQuery_withMirror]

end

end Sys2Proof.Machine

namespace Sys2Proof.Proofs

open Sys2Proof.Machine

/-- Settles O39: MIRROR_RESET and MIRROR_PROBE, by the state of the link and the probe that is pending. -/
theorem mirrorResetAndProbe : Obligations.MirrorResetAndProbe := by
  intro s h index hready
  dsimp only
  set o := orderTaken s.part h with ho
  set resetRef := s.part.orderRef h (.mirrorReset index)
  set probeRef := s.part.orderRef h (.mirrorProbe index)
  have hreset {r : OrderResult} {t : Part} (hr : o.mirrorReset index = (r, t)) :
      exec (.mirrorReset h index) s = .next { s with part := t.finish resetRef r } := by
    rw [exec_control (o := .mirrorReset index) rfl hready rfl, Part.carryOut, ← ho, hr, Part.finishWith]
  have hprobe {r : Option OrderResult} {t : Part} (hr : o.mirrorProbe index probeRef = (r, t)) :
      exec (.mirrorProbe h index) s = .next { s with part := Part.finishIf probeRef (r, t) } := by
    rw [exec_control (o := .mirrorProbe index) rfl hready rfl, Part.carryOut, ← ho, hr]
  have hrefused {r : OrderResult} (hr : o.mirrorProbe index probeRef = (some r, o)) : ∃ t, exec (.mirrorProbe h index) s = .next t ∧
      t.pending = s.pending ∧ s.part.Answered h r s.part.xu s.part.tlu [] t.part :=
    ⟨_, hprobe hr, rfl, Part.answered_refused _ _ _ _⟩
  refine ⟨fun hbad => ⟨⟨_, hreset (Part.mirrorReset_badParameter hbad), rfl, Part.answered_refused _ _ _ _⟩,
    hrefused (Part.mirrorProbe_badParameter hbad)⟩, fun m hm => ⟨fun hoff => ?_, fun hon => ?_, fun hst => ?_, fun hst hpr => ?_,
      fun hst hpr => ?_⟩⟩
  · exact ⟨_, hreset (Part.mirrorReset_off hm hoff), rfl, Part.answered_refused _ _ _ _⟩
  · obtain ⟨hnone, hsome⟩ := o.endProbe_cases m (.failed .aborted)
    obtain ⟨hcounters, houtstanding⟩ := o.endProbe_get m (.failed .aborted)
    refine ⟨_, o.endProbe m (.failed .aborted), hreset (Part.mirrorReset_on hm hon), rfl, hnone, hsome, ?_,
      Part.finish_orderFinished _ _ _, by simp [Part.sameBut_iff]⟩
    rw [show (s.part.mlt.get m).counters = _ from hcounters.symm, show (s.part.mlt.get m).outstanding = _ from houtstanding.symm]
    simp only [Part.finish_keeps, Part.modMirror_eq, Part.withMirror_mlt]
    rfl
  · exact hrefused (Part.mirrorProbe_wrongState hm hst)
  · exact hrefused (Part.mirrorProbe_busy hm hst hpr)
  · refine ⟨_, hprobe (Part.mirrorProbe_begun hm hst hpr), rfl, rfl, rfl, fun hmem => ?_, ?_⟩
    · simp [Part.finishIf, ho, orderTaken, hmem]
    · simp [Part.sameBut_iff, Part.finishIf, ho]

end Sys2Proof.Proofs
end

section
/-! SUPPORT. What leaves a mirror link (O60): the frame marked as sent, the frame's segments, and the CRC that closes a packet. -/

namespace Sys2Proof.Machine

/-! ## The frame whose last segment has left (R127, R136) -/

theorem markSent_of_notMem {seq : Serial} {os : List Outstanding} (h : ∀ o ∈ os, o.seq ≠ seq) (t : Time) :
    markSent seq t os = os := by
  induction os with
  | nil => rfl
  | cons o rest ih =>
    obtain ⟨ho, hrest⟩ := List.forall_mem_cons.mp h
    rw [markSent, if_neg (by simp [ho]), ih hrest]

/-- The time is recorded at the first frame that has the sequence and is still being sent. -/
theorem markSent_append {seq : Serial} {older : List Outstanding} (h : ∀ o ∈ older, o.seq ≠ seq) (t : Time)
    (more : List Outstanding) : markSent seq t (older ++ ⟨seq, none⟩ :: more) = older ++ ⟨seq, some t⟩ :: more := by
  induction older with
  | nil => simp [markSent]
  | cons o rest ih =>
    obtain ⟨ho, hrest⟩ := List.forall_mem_cons.mp h
    rw [List.cons_append, markSent, if_neg (by simp [ho]), ih hrest, List.cons_append]

/-- The link whose frame with a sequence has left at a time. -/
def MirrorLink.frameLeft (seq : Serial) (t : Time) (l : MirrorLink) : MirrorLink :=
  { l with
    outstanding := markSent seq t l.outstanding
    timer := match l.state, l.outstanding with
      | .running, o :: _ => if o.seq = seq && o.sent.isNone then some (later t l.timeoutUs) else l.timer
      | _, _ => l.timer }

/-- A frame that is no longer outstanding leaves the link as it was. -/
theorem MirrorLink.frameLeft_of_notMem {seq : Serial} {l : MirrorLink} (h : ∀ o ∈ l.outstanding, o.seq ≠ seq) (t : Time) :
    l.frameLeft seq t = l := by
  have htimer : (l.frameLeft seq t).timer = l.timer := by
    unfold MirrorLink.frameLeft
    dsimp only
    split
    · next hrunning ho => rw [if_neg (by simp [h _ (ho ▸ List.mem_cons_self)])]
    · rfl
  have houtstanding : (l.frameLeft seq t).outstanding = l.outstanding := markSent_of_notMem h t
  calc l.frameLeft seq t
      = { l with outstanding := (l.frameLeft seq t).outstanding, timer := (l.frameLeft seq t).timer } := rfl
    _ = l := by rw [htimer, houtstanding]

/-- In RUNNING the oldest frame's last segment starts the receipt timer (R136). -/
theorem MirrorLink.frameLeft_of_append {seq : Serial} {l : MirrorLink} {older more : List Outstanding}
    (hl : l.outstanding = older ++ ⟨seq, none⟩ :: more) (h : ∀ o ∈ older, o.seq ≠ seq) (t : Time) :
    l.frameLeft seq t = { l with
      outstanding := older ++ ⟨seq, some t⟩ :: more
      timer := if l.state = .running ∧ older = [] then some (later t l.timeoutUs) else l.timer } := by
  have htimer : (l.frameLeft seq t).timer = if l.state = .running ∧ older = [] then some (later t l.timeoutUs) else l.timer := by
    cases hst : l.state with
    | running =>
      cases older with
      | nil => simp [MirrorLink.frameLeft, hst, hl]
      | cons o rest => simp [MirrorLink.frameLeft, hst, hl, (List.forall_mem_cons.mp h).1]
    | off | idle | checking | blocked | fault => simp [MirrorLink.frameLeft, hst]
  have houtstanding : (l.frameLeft seq t).outstanding = older ++ ⟨seq, some t⟩ :: more := by
    rw [← markSent_append h t more, ← hl]
    rfl
  rw [← htimer, ← houtstanding]
  rfl

/-! ## The packet being sent leaves the link (R127, R145) -/

section

variable {m : MirrorIx} {p : Part} {rest : List TxPacket}

/-- The part with more packets issued on a link. -/
def Part.sending (m : MirrorIx) (packets : List (List Byte)) (p : Part) : Part := { p with issued := p.issued ++ packets.map (.packet m) }

theorem Part.packetTransmitEnd_frame {seq : Serial} {codes : List Nat} (h : (p.mlt.get m).tx = .frame seq codes :: rest) :
    p.packetTransmitEnd m = (p.sending m (commandFrame m seq codes)).withMirror m
      (({ p.mlt.get m with tx := rest } : MirrorLink).frameLeft seq p.now) := by
  have hissue : (p.modMirror m fun l => { l with tx := rest }).issuePackets m (commandFrame m seq codes) =
      (p.sending m (commandFrame m seq codes)).withMirror m { p.mlt.get m with tx := rest } := rfl
  rw [Part.packetTransmitEnd, h]
  dsimp only
  rw [hissue, Part.frameSent, Part.withMirror_modMirror]
  rfl

theorem Part.packetTransmitEnd_query {forProbe : Bool} (h : (p.mlt.get m).tx = .query forProbe :: rest) :
    p.packetTransmitEnd m =
      ((p.sending m [queryPacket m]).withMirror m { p.mlt.get m with tx := rest }).querySent m forProbe := by
  rw [Part.packetTransmitEnd, h]
  rfl

theorem Part.querySent_withMirror {l : MirrorLink} {pr : Probe} (h : l.probe = some pr) :
    (p.withMirror m l).querySent m true = p.withMirror m { l with
      probe := some { pr with sendTime := some p.now }
      timer := some (later p.now l.timeoutUs) } := by
  rw [Part.querySent, Part.withMirror_get, h]
  dsimp only
  rw [if_pos rfl, Part.withMirror_modMirror]
  rfl

theorem Part.querySent_false (m : MirrorIx) (p : Part) : p.querySent m false = p := by
  unfold Part.querySent
  split <;> rfl

end

/-! ## Segments and their CRC (R127, R210) -/

theorem commandFrame_length (m : MirrorIx) (seq : Serial) (codes : List Nat) :
    (commandFrame m seq codes).length = (codes.length + 255) / 256 := by
  simp [commandFrame]

theorem commandFrame_getD {m : MirrorIx} {seq : Serial} {codes : List Nat} {k : Nat} (h : k < (commandFrame m seq codes).length) :
    (commandFrame m seq codes).getD k [] =
      commandSegment m seq (commandFrame m seq codes).length k ((codes.drop (256 * k)).take 256) := by
  rw [commandFrame_length] at h ⊢
  simp [commandFrame, h]

/-- The bytes that close a packet are its last two, and read back as the CRC of the bytes before them. -/
theorem crcMatches_withCrc (body : List Byte) : crcMatches (withCrc body) = true := by
  have hlength : (withCrc body).length - 2 = body.length := by simp [withCrc, leBytes_length]
  have hfield : field16 (withCrc body) body.length = crc16 body := by
    rw [withCrc, ← Nat.add_zero body.length, field16_append_right, leBytes_two, field16_eq]
    exact (bytes_append _).trans (by simp)
  have hbody : (withCrc body).take body.length = body := by simp [withCrc]
  rw [crcMatches, hlength, hfield, hbody, decide_eq_true rfl]

end Sys2Proof.Machine

namespace Sys2Proof.Proofs

open Sys2Proof.Machine

/-- The packets that leave a link (O60's first part). -/
theorem packetsLeave_holds : packetsLeave := by
  intro s m rest l now
  have hexec : exec (.packetTransmitEnd m) s = .next { s with part := s.part.packetTransmitEnd m } := rfl
  refine ⟨fun h => ?_, fun seq codes h => ?_, fun pr h hpr => ?_, fun h => ?_⟩
  · rw [hexec, Part.packetTransmitEnd, show (s.part.mlt.get m).tx = [] from h]
  · rw [Part.packetTransmitEnd_frame h] at hexec
    refine ⟨_, commandFrame m seq codes, hexec, rfl, rfl, commandFrame_length m seq codes, fun k hk => commandFrame_getD hk,
      fun older more hl hold => ?_, fun hnone => ?_, by simp [Part.sameBut_iff, Part.sending]⟩
    · exact congrArg (s.part.mlt.set m) (MirrorLink.frameLeft_of_append (l := { l with tx := rest }) hl hold _)
    · exact congrArg (s.part.mlt.set m) (MirrorLink.frameLeft_of_notMem (l := { l with tx := rest }) hnone _)
  · rw [Part.packetTransmitEnd_query h, Part.querySent_withMirror (l := { s.part.mlt.get m with tx := rest }) hpr] at hexec
    exact ⟨_, hexec, rfl, rfl, rfl, by simp [Part.sameBut_iff, Part.sending]⟩
  · rw [Part.packetTransmitEnd_query h, Part.querySent_false] at hexec
    exact ⟨_, hexec, rfl, rfl, rfl, by simp [Part.sameBut_iff, Part.sending]⟩

/-- Settles O60: the packets that leave a mirror link, and the CRC that closes each. -/
theorem packetsLeaveTheLink : Obligations.PacketsLeaveTheLink := ⟨packetsLeave_holds, crcMatches_withCrc⟩

end Sys2Proof.Proofs
end

section
/-! SUPPORT. The registers (O4): the halves of EXCH_BASE, the bytes that a read returns, and the writes that change nothing. -/

namespace Sys2Proof.Machine

/-! ## The halves of EXCH_BASE (R152) -/

/-- A 64-bit value is its two halves. -/
theorem exists_halves (x : BitVec 64) : ∃ hi lo : BitVec 32, x = hi ++ lo :=
  ⟨_, _, (BitVec.extractLsb'_append_extractLsb' (w := 32) (len := 32) (x := x)).symm⟩

/-- The high half, as a shift reads it. -/
theorem shifted_append (hi lo : BitVec 32) : ((hi ++ lo : BitVec 64) >>> 32).setWidth 32 = hi := by
  have happend : (hi ++ lo : BitVec 64).toNat = _ := BitVec.toNat_append hi lo
  rw [← Nat.shiftLeft_add_eq_or_of_lt lo.isLt, Nat.shiftLeft_eq] at happend
  apply BitVec.eq_of_toNat_eq
  rw [BitVec.toNat_setWidth, BitVec.toNat_ushiftRight, happend, Nat.shiftRight_eq_div_pow]
  have := lo.isLt
  have := hi.isLt
  omega

/-- A new low half. -/
theorem lowHalf_replaced (hi lo v : BitVec 32) :
    ((hi ++ lo : BitVec 64) &&& 0xFFFFFFFF00000000#64) ||| v.setWidth 64 = hi ++ v := by
  have hmask : 0xFFFFFFFF00000000#64 = 0xFFFFFFFF#32 ++ 0#32 := by decide
  have hv : v.setWidth 64 = 0#32 ++ v := BitVec.setWidth_eq_append (by decide)
  rw [hmask, hv, BitVec.and_append, BitVec.or_append, BitVec.and_zero, BitVec.or_zero, BitVec.zero_or]
  exact congrArg (· ++ v) BitVec.and_allOnes

/-- A new high half. -/
theorem highHalf_replaced (hi lo v : BitVec 32) :
    ((hi ++ lo : BitVec 64) &&& 0x00000000FFFFFFFF#64) ||| (v.setWidth 64 <<< 32) = v ++ lo := by
  have hmask : 0x00000000FFFFFFFF#64 = 0#32 ++ 0xFFFFFFFF#32 := by decide
  have hv : v.setWidth 64 <<< 32 = v ++ 0#32 := by
    apply BitVec.eq_of_toNat_eq
    have happend : (v ++ 0#32 : BitVec 64).toNat = _ := BitVec.toNat_append v 0#32
    have := v.isLt
    rw [happend, BitVec.toNat_shiftLeft, BitVec.toNat_setWidth, Nat.mod_eq_of_lt (by omega), Nat.shiftLeft_eq, Nat.shiftLeft_eq]
    simp
    omega
  rw [hmask, hv, BitVec.and_append, BitVec.or_append, BitVec.and_zero, BitVec.zero_or, BitVec.or_zero]
  exact congrArg (v ++ ·) BitVec.and_allOnes

/-- The area's place: the two halves, the lowest 12 bits taken as 0 (R152). -/
theorem Part.area_of_halves {p : Part} {hi lo : BitVec 32} (h : p.xu.base = hi ++ lo) :
    p.area = hi ++ (lo &&& 0xFFFFF000#32) := by
  have hmask : ~~~(0xFFF#64) = 0xFFFFFFFF#32 ++ 0xFFFFF000#32 := by decide
  rw [Part.area, h, hmask, BitVec.and_append]
  exact congrArg (· ++ (lo &&& 0xFFFFF000#32)) BitVec.and_allOnes

/-- The two registers of EXCH_BASE as they read (R152). -/
theorem Part.readBase_of_halves {p : Part} {hi lo : BitVec 32} (h : p.xu.base = hi ++ lo) :
    p.readRegister 0x08 = lo &&& 0xFFFFF000#32 ∧ p.readRegister 0x0C = hi := by
  have hlow : p.readRegister 0x08 = p.area.setWidth 32 := rfl
  have hhigh : p.readRegister 0x0C = (p.area >>> 32).setWidth 32 := rfl
  rw [hlow, hhigh, Part.area_of_halves h]
  exact ⟨BitVec.setWidth_append_eq_right, shifted_append _ _⟩

/-! ## The bytes of a read (R213) -/

theorem Part.readBytes_length {first count : Nat} (h : first + count ≤ 4) (p : Part) (offset : Nat) :
    (p.readBytes offset first count).length = count := by
  simp only [Part.readBytes, List.length_take, List.length_drop, leBytes_length]
  omega

theorem Part.readBytes_getD {first count k : Nat} (h : first + count ≤ 4) (hk : k < count) (p : Part) (offset : Nat) :
    (p.readBytes offset first count).getD k 0 = BitVec.ofNat 8 ((p.readRegister offset).toNat / 256 ^ (first + k)) := by
  have hplace : first + k < 4 := by omega
  simp [Part.readBytes, leBytes, List.getD_eq_getElem?_getD, hk, hplace]

/-- A byte of the low half of a timebase value is a byte of the value. -/
theorem byte_low32 (t : Time) {k : Nat} (h : k < 4) :
    BitVec.ofNat 8 ((low32 t).toNat / 256 ^ k) = BitVec.ofNat 8 (t.toNat / 256 ^ k) := by
  apply BitVec.eq_of_toNat_eq
  simp only [low32, BitVec.toNat_setWidth, BitVec.toNat_ofNat]
  interval_cases k <;> omega

end Sys2Proof.Machine

namespace Sys2Proof.Proofs

open Sys2Proof.Machine

/-- EXCH_BASE is written (O4's first part). -/
theorem exchangeBaseWritten_holds : exchangeBaseWritten := by
  intro s v
  have hlow : exec (.exchBaseLoWrite v) s = .next { s with part := s.part.baseLoWrite v } := rfl
  have hhigh : exec (.exchBaseHiWrite v) s = .next { s with part := s.part.baseHiWrite v } := rfl
  refine ⟨fun hrunning => ?_, fun hstopped => ?_⟩
  · rw [hlow, hhigh, Part.baseLoWrite, Part.baseHiWrite, if_pos hrunning, if_pos hrunning]
    exact ⟨rfl, rfl⟩
  · rw [Part.baseLoWrite, if_neg (by simp [hstopped])] at hlow
    rw [Part.baseHiWrite, if_neg (by simp [hstopped])] at hhigh
    obtain ⟨hi, lo, hbase⟩ := exists_halves s.part.xu.base
    obtain ⟨hreadLow, hreadHigh⟩ := Part.readBase_of_halves hbase
    rw [hreadLow, hreadHigh]
    have hnewLow : (s.part.modXu fun x => { x with base := (x.base &&& 0xFFFFFFFF00000000#64) ||| v.setWidth 64 }).xu.base =
        hi ++ v := by rw [← lowHalf_replaced hi lo, ← hbase]; rfl
    have hnewHigh : (s.part.modXu fun x =>
        { x with base := (x.base &&& 0x00000000FFFFFFFF#64) ||| (v.setWidth 64 <<< 32) }).xu.base = v ++ lo := by
      rw [← highHalf_replaced hi lo, ← hbase]; rfl
    exact ⟨⟨_, hlow, rfl, (Part.readBase_of_halves hnewLow).1, (Part.readBase_of_halves hnewLow).2,
        Part.area_of_halves hnewLow, rfl, Part.modXu_sameBut _ _⟩,
      ⟨_, hhigh, rfl, (Part.readBase_of_halves hnewHigh).2, (Part.readBase_of_halves hnewHigh).1,
        Part.area_of_halves hnewHigh, rfl, Part.modXu_sameBut _ _⟩⟩

/-- TIME_LO is read (O4's second part). -/
theorem timeRead_holds : timeRead := by
  intro s first count _ hfits
  have hlatch : (s.part.now >>> 32).setWidth 32 = BitVec.ofNat 32 (s.part.tlu.timebase.toNat / 2 ^ 32) := by
    apply BitVec.eq_of_toNat_eq
    simp [Part.now, Nat.shiftRight_eq_div_pow]
  refine ⟨_, s.part.readBytes 0x18 first count, rfl, rfl, rfl, s.part.readBytes_length hfits _, fun k hk => ?_, hlatch, rfl,
    by simp [Part.sameBut_iff]⟩
  rw [s.part.readBytes_getD hfits hk]
  exact byte_low32 _ (by omega)

/-- The registers as they read (O4's third part). -/
theorem registersRead_holds : registersRead := by
  refine ⟨fun p addr count _ hfits => ⟨p.readBytes_length hfits _, fun k hk => p.readBytes_getD hfits hk _⟩,
    fun p => ⟨rfl, rfl, fun offset hunused => ?_⟩⟩
  have hne (n : Nat) (hn : n < 0x20) : offset ≠ n := by omega
  simp [Part.readRegister, hne]

/-- The writes that change nothing (O4's fourth part). -/
theorem writesIgnored_holds : writesIgnored := by
  intro s offset count v _ _ hignored
  have hexec : exec (.registerWriteIgnored offset count v) s = .next { s with part := s.part.registerWrite offset count v } := rfl
  have hsame : s.part.registerWrite offset count v = s.part := by
    unfold Part.registerWrite
    split
    · rfl
    next hwhole =>
      rcases hignored with hshort | rfl | rfl | rfl | hunused | ⟨rfl, hreset, hen⟩
      · exact absurd hshort hwhole
      · rfl
      · rfl
      · rfl
      · have hne (n : BitVec 12) (hn : n.toNat < 0x20) : offset ≠ n := by rintro rfl; omega
        simp [Part.wholeWrite, hne]
      · have hcontrol : s.part.wholeWrite 0x04 v = s.part.controlWrite (v.getLsbD 0) (v.getLsbD 1) := rfl
        rw [hcontrol, hreset, hen]
        cases hx : s.part.xu.exchEn <;> simp [Part.controlWrite, hx]
  rw [hexec, hsame]

/-- Settles O4: the registers of EXCH_BASE and the timebase, the bytes of a read, and the ignored writes. -/
theorem registersWrittenAndRead : Obligations.RegistersWrittenAndRead :=
  ⟨exchangeBaseWritten_holds, timeRead_holds, registersRead_holds, writesIgnored_holds⟩

end Sys2Proof.Proofs
end

section
/-! SUPPORT. SET_WINDOW and SET_TELEMETRY (O41): their checks in order, the window that is replaced, and the ring that is placed. -/

namespace Sys2Proof.Machine

/-! ## Powers of two (R167, R177) -/

theorem isPowerIn_eq_false_iff (lo hi v : Nat) : isPowerIn lo hi v = false ↔ ∀ k, lo ≤ k → k ≤ hi → v ≠ 2 ^ k := by
  simp only [isPowerIn, List.any_eq_false, List.mem_range, Bool.and_eq_true, decide_eq_true_eq, not_and]
  exact ⟨fun h k hlo hhi => h k (by omega) hlo, fun h k hk hlo => h k hlo (by omega)⟩

theorem isPowerIn_eq_true_iff (lo hi v : Nat) : isPowerIn lo hi v = true ↔ ¬ ∀ k, lo ≤ k → k ≤ hi → v ≠ 2 ^ k := by
  rw [← isPowerIn_eq_false_iff, Bool.not_eq_false]

/-! ## SET_WINDOW (R167) -/

theorem badWindow_iff (q : WindowOrderParams) : badWindow q = true ↔
    q.partBase.toNat % 4096 ≠ 0 ∨ q.hostAddr.toNat % 4096 ≠ 0 ∨ (∀ k, 12 ≤ k → k ≤ 34 → q.size.toNat ≠ 2 ^ k) ∨
      2 ^ 64 < q.partBase.toNat + q.size.toNat ∨ 2 ^ 64 < q.hostAddr.toNat + q.size.toNat := by
  rw [← isPowerIn_eq_false_iff]
  simp only [badWindow, Bool.or_eq_true, decide_eq_true_eq, Bool.not_eq_true', or_assoc]

theorem Xu.laneBusy_iff (x : Xu) : x.laneBusy = true ↔ x.lane.isSome = true ∨ x.queue ≠ [] := by
  simp [Xu.laneBusy]

section
variable {p : Part} {q : WindowOrderParams} {i : Fin 4}

theorem Part.setWindow_noIndex (h : 4 ≤ q.index.toNat ∨ 2 ≤ q.enable.toNat) : p.setWindow q = (.failed .badParameter, p) := by
  unfold Part.setWindow
  split
  · next hi he =>
    rcases h with h | h
    · simp [indexOf_eq_none h] at hi
    · simp [flagOf_eq_none h] at he
  · rfl

theorem Part.setWindow_eq (hi : q.index.toNat = i.val) (he : q.enable.toNat < 2) : p.setWindow q =
    if badWindow q then (.failed .badParameter, p)
    else if p.xu.laneBusy then (.failed .busy, p)
    else (.done, p.modXu fun x =>
      { x with windows := x.windows.set i ⟨decide (q.enable = 1), q.partBase, q.size, q.hostAddr⟩ }) := by
  rw [Part.setWindow, indexOf_eq_some hi, flagOf_eq_some (Nat.le_of_lt_succ he)]

end

/-! ## SET_TELEMETRY (R177) -/

section
variable {p : Part} {ring : BitVec 64} {capacity : BitVec 32}

theorem Part.setTelemetry_badCapacity (h : ∀ k, 4 ≤ k → k ≤ 16 → capacity.toNat ≠ 2 ^ k) :
    p.setTelemetry ring capacity = (.failed .badParameter, p) := by
  simp [Part.setTelemetry, (isPowerIn_eq_false_iff _ _ _).mpr h]

theorem Part.setTelemetry_running (h : ¬ ∀ k, 4 ≤ k → k ≤ 16 → capacity.toNat ≠ 2 ^ k) (hloop : p.lpc.loop ≠ .stopped) :
    p.setTelemetry ring capacity = (.failed .wrongState, p) := by
  simp [Part.setTelemetry, (isPowerIn_eq_true_iff _ _ _).mpr h, hloop]

theorem Part.setTelemetry_badRing (h : ¬ ∀ k, 4 ≤ k → k ≤ 16 → capacity.toNat ≠ 2 ^ k) (hloop : p.lpc.loop = .stopped)
    {r : Reason} (hr : bufferRefused p ring (64 * capacity.toNat) False r) : p.setTelemetry ring capacity = (.failed r, p) := by
  simp [Part.setTelemetry, (isPowerIn_eq_true_iff _ _ _).mpr h, hloop, Part.checkBuffer_error hr (fits := true) (by simp)]

theorem Part.setTelemetry_placed (h : ¬ ∀ k, 4 ≤ k → k ≤ 16 → capacity.toNat ≠ 2 ^ k) (hloop : p.lpc.loop = .stopped)
    {host : BitVec 64} (hhost : bufferAt p ring (64 * capacity.toNat) host) :
    p.setTelemetry ring capacity = (.done, p.placeRing host capacity.toNat) := by
  simp [Part.setTelemetry, (isPowerIn_eq_true_iff _ _ _).mpr h, hloop, Part.checkBuffer_ok hhost]

end

/-- A control order that fails its checks is answered with its reason, and changes no block. -/
theorem answered_of_failed {s : State} {h : OrderHead} {o : Order} {c : Instr} {r : Reason}
    (hc : s.part.after c = s.part.orderCommand h o) (hready : s.part.readyFor h) (ho : isBulk o = false)
    (hr : ∀ ref, (orderTaken s.part h).carryOut o ref = Part.finishWith ref (.failed r, orderTaken s.part h)) :
    ∃ t, exec c s = .next t ∧ t.pending = s.pending ∧ s.part.Answered h (.failed r) s.part.xu s.part.tlu [] t.part := by
  refine ⟨_, exec_control hc hready ho, rfl, ?_⟩
  rw [hr]
  exact Part.answered_refused _ _ _ _

end Sys2Proof.Machine

namespace Sys2Proof.Proofs

open Sys2Proof.Machine

/-- SET_WINDOW (O41's first part). -/
theorem setWindowReplaces_holds : setWindowReplaces := by
  intro s h q hready bad busy
  have hfailed (r : Reason) (hr : (orderTaken s.part h).setWindow q = (.failed r, orderTaken s.part h)) :
      ∃ t, exec (.setWindow h q) s = .next t ∧ t.pending = s.pending ∧
        s.part.Answered h (.failed r) s.part.xu s.part.tlu [] t.part :=
    answered_of_failed (o := .setWindow q) rfl hready rfl fun ref => congrArg (Part.finishWith ref) hr
  have hsplit : bad ↔ (4 ≤ q.index.toNat ∨ 2 ≤ q.enable.toNat) ∨ badWindow q = true := by
    rw [badWindow_iff, or_assoc]
  have hindex (hi : ¬ (4 ≤ q.index.toNat ∨ 2 ≤ q.enable.toNat)) (t : Part) := Part.setWindow_eq (p := t) (q := q)
    (i := ⟨q.index.toNat, by omega⟩) rfl (by omega)
  have hbusy : (orderTaken s.part h).xu.laneBusy = true ↔ busy := Xu.laneBusy_iff _
  refine ⟨fun hbad => hfailed _ ?_, fun hbad hb => hfailed _ ?_, fun i hbad hb hi => ?_⟩
  · by_cases hi : 4 ≤ q.index.toNat ∨ 2 ≤ q.enable.toNat
    · exact Part.setWindow_noIndex hi
    · rw [hindex hi, if_pos ((hsplit.mp hbad).resolve_left hi)]
  · obtain ⟨hi, hwindow⟩ := not_or.mp (mt hsplit.mpr hbad)
    rw [hindex hi, if_neg hwindow, if_pos (hbusy.mpr hb)]
  · obtain ⟨hrange, hwindow⟩ := not_or.mp (mt hsplit.mpr hbad)
    have hr := Part.setWindow_eq (p := orderTaken s.part h) hi (by omega)
    rw [if_neg hwindow, if_neg (mt hbusy.mp hb)] at hr
    refine ⟨_, exec_control (o := .setWindow q) rfl hready rfl, rfl, ?_⟩
    simp only [Part.carryOut, Part.finishWith, hr]
    exact Part.answered_of_xu (p := s.part) (changed := [])
      (x := { s.part.xu with windows := s.part.xu.windows.set i ⟨decide (q.enable = 1), q.partBase, q.size, q.hostAddr⟩ })
      (Part.modXu_sameBut _ _) (by simp) (by simp) rfl rfl rfl rfl _ _

/-- SET_TELEMETRY (O41's second part). -/
theorem setTelemetryPlaces_holds : setTelemetryPlaces := by
  intro s h ring capacity hready p bad refused
  have hfailed (r : Reason) (hr : (orderTaken p h).setTelemetry ring capacity = (.failed r, orderTaken p h)) : refused r :=
    answered_of_failed (o := .setTelemetry ring capacity) rfl hready rfl fun ref => congrArg (Part.finishWith ref) hr
  refine ⟨fun hbad => hfailed _ (Part.setTelemetry_badCapacity hbad),
    fun hbad hloop => hfailed _ (Part.setTelemetry_running hbad hloop),
    fun hbad hloop r hr => hfailed r (Part.setTelemetry_badRing (p := orderTaken p h) hbad hloop hr), fun host hbad hloop hhost => ?_⟩
  have hr := Part.setTelemetry_placed (p := orderTaken p h) hbad hloop hhost
  refine ⟨_, (orderTaken p h).placeRing host capacity.toNat, exec_control (o := .setTelemetry ring capacity) rfl hready rfl, rfl,
    Part.releaseRecords_released _ _ rfl, ?_, ?_⟩
  · simp only [Part.carryOut, Part.finishWith, p] at hr ⊢
    rw [hr]
    exact Part.finish_orderFinished _ _ _
  · simp only [Part.carryOut, Part.finishWith, p] at hr ⊢
    rw [hr]
    exact Part.finish_sameBut _ _ _

/-- Settles O41: the windows, and the telemetry ring. -/
theorem windowsAndRing : Obligations.WindowsAndRing := ⟨setWindowReplaces_holds, setTelemetryPlaces_holds⟩

end Sys2Proof.Proofs
end

section
/-! SUPPORT. A sweep begins (O42): the two reads that are issued, and a sweep that is abandoned. -/

namespace Sys2Proof.Machine

/-! ## A sweep that is abandoned (R156, R157) -/

@[simp] theorem Part.abandonSweep_xu (p : Part) : p.abandonSweep.xu = { p.xu with
    sweeping := false
    hostFailures := p.xu.hostFailures + 1
    sweepTimer := some (p.tlu.timebase + BitVec.ofNat 64 p.xu.periodUs) } := by
  simp [Part.abandonSweep, Part.startSweepTimer, Part.now, later]

@[simp] theorem Part.abandonSweep_tlu (p : Part) :
    p.abandonSweep.tlu = { p.tlu with events := withFlag p.tlu.events .hostAccess } := by
  simp [Part.abandonSweep, Part.startSweepTimer]

theorem Part.abandonSweep_issued (p : Part) : p.abandonSweep.issued = p.issued ++ p.signal .hostAccess := by
  rw [Part.abandonSweep, Part.startSweepTimer, Part.modXu_issued, Part.countHostFailure_issued]
  rfl

/-- A sweep is abandoned as it is given up, whatever the time and the sweep's own marks were just before (R157). -/
theorem Part.abandonSweep_abandoned {p q : Part} (htlu : q.tlu = { p.tlu with timebase := q.tlu.timebase })
    (hxu : q.xu = { p.xu with sweepTimer := q.xu.sweepTimer, sweeping := q.xu.sweeping }) (hissued : q.issued = p.issued)
    (hrest : q.sameBut p [.xu, .tlu, .issued]) : sweepAbandoned p q.abandonSweep := by
  have hsame : q.abandonSweep.sameBut q [.xu, .tlu, .issued] := by simp [Part.sameBut_iff]
  have hsignal : q.signal .hostAccess = p.signal .hostAccess :=
    Part.signal_congr _ (by rw [htlu]) (by rw [htlu]) (by rw [hxu]) (by rw [hxu])
  refine ⟨?_, ?_, by rw [Part.abandonSweep_issued, hissued, hsignal], hsame.trans hrest (by simp)⟩
  · rw [Part.abandonSweep_xu, Part.abandonSweep_tlu, hxu]
  · rw [Part.abandonSweep_tlu, htlu]

/-! ## The reads of a sweep (R153, R156, R157) -/

/-- The part as the sweep timer's expiry leaves it, before the sweep's reads. -/
def Part.sweepDue (p : Part) (t : Time) : Part := (p.advanceTo t).modXu fun x => { x with sweepTimer := none, sweeping := true }

theorem Part.sweepTimerExpiry_running {p : Part} {t : Time} (h : p.xu.sweepTimer = some t) :
    p.sweepTimerExpiry = (p.sweepDue t).sweepReads := by
  rw [Part.sweepTimerExpiry, h]
  rfl

theorem Part.sweepReads_issued {p : Part} (h : p.xu.memRequests = true) :
    p.sweepReads = { p with issued := p.issued ++ [.hostRead (p.area + 0x100) 4, .hostRead (p.area + 0x1000) 4096] } := by
  simp [Part.sweepReads, Part.hostRead, Part.issue, h]

theorem Part.sweepReads_failed {p : Part} (h : p.xu.memRequests = false) : p.sweepReads = p.abandonSweep := by
  simp [Part.sweepReads, h]

end Sys2Proof.Machine

namespace Sys2Proof.Proofs

open Sys2Proof.Machine

/-- Settles O42: the expiry of the sweep timer, by whether memory requests are enabled, and a sweep's read that fails. -/
theorem sweepBegins : Obligations.SweepBegins := by
  intro s
  have hexec : exec .sweepTimerExpiry s = .next { s with part := s.part.sweepTimerExpiry } := rfl
  have hfailed : exec (.hostAccessFailure .sweepRead) s =
    .next { s with part := if s.part.xu.sweeping then s.part.abandonSweep else s.part } := rfl
  refine ⟨fun hstopped => ?_, fun at_ hat => ?_, fun hidle => ?_, fun hsweeping => ?_⟩
  · rw [hexec, Part.sweepTimerExpiry, hstopped]
  · rw [Part.sweepTimerExpiry_running hat] at hexec
    have hreached : reached (s.part.sweepDue at_).tlu.timebase at_ = true := s.part.reached_advanceTo at_
    cases hmem : s.part.xu.memRequests with
    | true =>
      rw [Part.sweepReads_issued (p := s.part.sweepDue at_) hmem] at hexec
      exact ⟨_, hexec, rfl, hreached, fun _ => ⟨rfl, rfl, rfl, by simp [Part.sameBut_iff, Part.sweepDue]⟩, fun h => by simp at h⟩
    | false =>
      rw [Part.sweepReads_failed (p := s.part.sweepDue at_) hmem] at hexec
      refine ⟨_, hexec, rfl, by simpa using hreached, fun h => by simp at h, fun _ => ?_⟩
      exact Part.abandonSweep_abandoned rfl rfl rfl (by simp [Part.sameBut_iff, Part.sweepDue])
  · rw [hfailed, if_neg (by simp [hidle])]
  · rw [if_pos hsweeping] at hfailed
    exact ⟨_, hfailed, rfl, by simp, Part.abandonSweep_abandoned rfl rfl rfl (by simp [Part.sameBut_iff])⟩

end Sys2Proof.Proofs
end

section
/-! SUPPORT. Taking orders (O43): what carrying out an order leaves of the exchange unit, the losers of a duplicate ticket, and the
orders that a sweep takes. -/

namespace Sys2Proof.Machine

/-! ## What carrying out an order leaves of the exchange unit (R151 to R162) -/

/-- What an order that is carried out leaves of the exchange unit: the registers, the configuration, the next ticket and the sweep
count. -/
structure Xu.Standing where
  exchEn : Bool
  base : BitVec 64
  memRequests : Bool
  nextTicket : Byte
  sweepCount : BitVec 32

/-- The exchange unit's standing. -/
def Xu.standing (x : Xu) : Xu.Standing := ⟨x.exchEn, x.base, x.memRequests, x.nextTicket, x.sweepCount⟩

theorem Xu.standing_eq_iff {x y : Xu} : x.standing = y.standing ↔ x.exchEn = y.exchEn ∧ x.base = y.base ∧
    x.memRequests = y.memRequests ∧ x.nextTicket = y.nextTicket ∧ x.sweepCount = y.sweepCount := by
  simp [Xu.standing]

@[simp] theorem Part.endLane_standing (r : Running) (res : OrderResult) (p : Part) :
    (p.endLane r res).xu.standing = p.xu.standing := by
  simp [Part.endLane, Xu.standing]

@[simp] theorem Part.endEarly_standing (r : Running) (why : Reason) (p : Part) :
    (p.endEarly r why).xu.standing = p.xu.standing := by
  simp [Part.endEarly]

@[simp] theorem Part.laneRead_standing (r : Running) (a : BitVec 64) (n : Nat) (p : Part) :
    (p.laneRead r a n).xu.standing = p.xu.standing := by
  unfold Part.laneRead Part.failTransfer
  split
  · simp
  · rw [Part.countHostFailure_xu, ← Part.endEarly_standing r .hostAccess p]
    rfl

@[simp] theorem Part.completeLoad_standing (r : Running) (p : Part) : (p.completeLoad r).xu.standing = p.xu.standing := by
  unfold Part.completeLoad Part.conclude
  (repeat' split) <;> simp

@[simp] theorem Part.confirm_standing (r : Running) (p : Part) : (p.confirm r).xu.standing = p.xu.standing := by
  rw [Part.confirm, Part.laneRead_standing]
  rfl

@[simp] theorem Part.runLane_standing (r : Running) (reading : Bool) (p : Part) :
    (p.runLane r reading).xu.standing = p.xu.standing := by
  have hbegun : ((p.modXu fun x => { x with lane := some r }).beginWork r.bulk.op).xu.standing = p.xu.standing := by
    rw [Part.beginWork_modXu, Part.modXu_xu, show (p.beginWork r.bulk.op).xu = p.xu by simp]
    rfl
  unfold Part.runLane
  dsimp only
  (repeat' split) <;> simpa using hbegun

@[simp] theorem Part.startHead_standing (p : Part) : p.startHead.xu.standing = p.xu.standing := by
  unfold Part.startHead
  split
  · next b rest _ _ =>
    have hrest : (p.modXu fun x => { x with queue := rest }).xu.standing = p.xu.standing := rfl
    unfold Part.startBulk
    split <;> simpa using hrest
  · rfl

@[simp] theorem Part.startHeads_standing (n : Nat) (p : Part) : (Part.startHeads n p).xu.standing = p.xu.standing := by
  induction n generalizing p with
  | zero => rfl
  | succ n ih => rw [Part.startHeads, ih, Part.startHead_standing]

@[simp] theorem Part.takeBulk_standing (o : Order) (ref : OrderRef) (x : Except Reason Taken) (p : Part) :
    (p.takeBulk o ref x).xu.standing = p.xu.standing := by
  unfold Part.takeBulk Part.enqueueBulk Part.startQueue
  dsimp only
  (repeat' split) <;> simp <;> rfl

@[simp] theorem Part.setWindow_standing (q : WindowOrderParams) (p : Part) :
    (p.setWindow q).2.xu.standing = p.xu.standing := by
  unfold Part.setWindow
  (repeat' split) <;> rfl

@[simp] theorem Part.abortTransfer_standing (flag ticket : Byte) (p : Part) :
    (p.abortTransfer flag ticket).2.xu.standing = p.xu.standing := by
  unfold Part.abortTransfer Part.startQueue
  (repeat' split) <;> simp

/-- An order that is carried out: a bulk order and ABORT_TRANSFER move the lane and the queue, SET_WINDOW and SET_EXCHANGE replace
what is theirs, and the others do not reach the exchange unit. -/
@[simp] theorem Part.carryOut_standing (o : Order) (ref : OrderRef) (p : Part) :
    (p.carryOut o ref).xu.standing = p.xu.standing := by
  cases o with
  | loadMatrix | readBack | loadTable | applyShape | copySnapshot => exact Part.takeBulk_standing _ _ _ _
  | abortTransfer | setWindow => simp [Part.carryOut, Part.finishWith]
  | setExchange => simp [Part.carryOut, Part.finishWith, Part.setExchange, Xu.standing]
  | _ => simp [Part.carryOut]

@[simp] theorem Part.takeOrder_standing (o : Order) (ref : OrderRef) (p : Part) :
    (p.takeOrder o ref).xu.standing = { p.xu.standing with nextTicket := p.xu.nextTicket + 1 } := by
  simp [Part.takeOrder]
  rfl

/-! ## The losers of a duplicate ticket (R158) -/

/-- The losers of one ticket, in their order. -/
def Part.loseDuplicates (losers : List PostedSlot) (p : Part) : Part := losers.foldl (fun y l => y.loseDuplicate l) p

@[simp] theorem Part.loseDuplicates_xu (losers : List PostedSlot) (p : Part) : (p.loseDuplicates losers).xu = p.xu :=
  foldl_view Part.xu _ (by simp) _ _

/-- A slot that loses finishes FAILED DUPLICATE_TICKET, with its buffer's length as bytes remaining (R158, R164). -/
theorem Part.loseDuplicate_lost (x : PostedSlot) (p : Part) : ∃ d4 : BitVec 32,
    (∀ n, bufferLength x.order = some n → d4 = BitVec.ofNat 32 n ∧ (p.loseDuplicate x).frees = p.frees) ∧
    orderFinished p (p.loseDuplicate x) ⟨x.slot, x.notify⟩
      { OrderResult.done with reason := some .duplicateTicket, d4 := d4 } ∧
    (p.loseDuplicate x).sameBut p [.tlu, .issued, .frees] := by
  unfold Part.loseDuplicate Part.refuse
  cases hlength : bufferLength x.order with
  | some length =>
    refine ⟨BitVec.ofNat 32 length, fun n hn => ?_, Part.finish_orderFinished _ _ _, by simp [Part.sameBut_iff]⟩
    obtain rfl : length = n := by simpa using hn
    simp
  | none =>
    exact ⟨_, fun n hn => by simp at hn, p.drawFree.finish_orderFinished _ _, by simp [Part.sameBut_iff]⟩

theorem Part.loseDuplicates_lost (losers : List PostedSlot) (p : Part) : duplicatesLost losers p (p.loseDuplicates losers) := by
  induction losers generalizing p with
  | nil => rfl
  | cons x rest ih =>
    obtain ⟨d4, hlength, hfinished, hsame⟩ := p.loseDuplicate_lost x
    exact ⟨p.loseDuplicate x, d4, hlength, hfinished, hsame, ih _⟩

/-! ## Taking orders (R158, R159) -/

theorem Part.takeOrders_none {n : Nat} {slots : List PostedSlot} {p : Part}
    (h : n = 0 ∨ ∀ x ∈ slots, x.ticket ≠ p.xu.nextTicket) : Part.takeOrders n slots p = p := by
  cases n with
  | zero => rfl
  | succ n =>
    have hnone : slots.filter (fun x => x.ticket = p.xu.nextTicket) = [] := by simpa using h
    rw [Part.takeOrders, hnone]

/-- The slot of lowest index with the next ticket wins, and the others that hold it lose (R158). -/
theorem Part.takeOrders_winner {n : Nat} {before after : List PostedSlot} {x : PostedSlot} {p : Part}
    (hbefore : ∀ y ∈ before, y.ticket ≠ p.xu.nextTicket) (hx : x.ticket = p.xu.nextTicket) {q : Part}
    (hq : q = p.loseDuplicates (after.filter fun y => y.ticket = p.xu.nextTicket)) :
    Part.takeOrders (n + 1) (before ++ x :: after) p =
      if isBulk x.order && q.xu.laneFull then q
      else Part.takeOrders n ((before ++ x :: after).filter fun y => y.ticket ≠ x.ticket) (q.takeOrder x.order (refOf x)) := by
  have hfilter : (before ++ x :: after).filter (fun y => y.ticket = p.xu.nextTicket) =
      x :: after.filter fun y => y.ticket = p.xu.nextTicket := by
    rw [List.filter_append, List.filter_eq_nil_iff.mpr (by simpa using hbefore), List.nil_append]
    exact List.filter_cons_of_pos (by simpa using hx)
  rw [Part.takeOrders, hfilter, hq]
  rfl

/-- A sweep's taking advances the next ticket by the orders taken, and moves nothing else of the exchange unit's standing. -/
theorem Part.takeOrders_standing (n : Nat) (slots : List PostedSlot) (p : Part) : ∃ m ≤ n,
    (Part.takeOrders n slots p).xu.standing =
      { p.xu.standing with nextTicket := p.xu.nextTicket + BitVec.ofNat 8 m } := by
  induction n generalizing slots p with
  | zero => exact ⟨0, le_rfl, by simp [Part.takeOrders, Xu.standing]⟩
  | succ n ih =>
    simp only [Part.takeOrders]
    split
    · exact ⟨0, by omega, by simp [Xu.standing]⟩
    next x losers _ =>
      set q := losers.foldl (fun y l => y.loseDuplicate l) p
      have hlost : q.xu = p.xu := p.loseDuplicates_xu losers
      split
      · exact ⟨0, by omega, by simp [hlost, Xu.standing]⟩
      · obtain ⟨m, hm, hrest⟩ := ih (slots.filter fun y => y.ticket ≠ x.ticket) (q.takeOrder x.order (refOf x))
        have htaken := q.takeOrder_standing x.order (refOf x)
        rw [hlost] at htaken
        have hticket : (q.takeOrder x.order (refOf x)).xu.nextTicket = p.xu.nextTicket + 1 :=
          congrArg Xu.Standing.nextTicket htaken
        have hcount : p.xu.nextTicket + 1 + BitVec.ofNat 8 m = p.xu.nextTicket + BitVec.ofNat 8 (m + 1) := by
          rw [BitVec.add_assoc, BitVec.ofNat_add, BitVec.add_comm 1]
          rfl
        exact ⟨m + 1, by omega, by rw [hrest, htaken, hticket, hcount]⟩

theorem Xu.laneFull_eq_false {x : Xu} (h : x.lane = none ∨ x.queue.length < 4) : x.laneFull = false := by
  rcases h with h | h
  · simp [Xu.laneFull, h]
  · simp [Xu.laneFull, Nat.not_le.mpr h]

/-- An order taken from a ready slot with the next ticket does what its own command does (R155, R158). -/
theorem Part.takeOrder_eq_command {p : Part} {x : PostedSlot} (hx : x.ticket = p.xu.nextTicket)
    (hready : p.readyFor ⟨x.slot, x.notify⟩) (hroom : isBulk x.order = false ∨ p.xu.laneFull = false) :
    p.takeOrder x.order (refOf x) = p.orderCommand ⟨x.slot, x.notify⟩ x.order := by
  obtain ⟨hen, hslot⟩ := hready
  have hok : p.cannotTake x.order x.slot = false := by rcases hroom with h | h <;> simp [Part.cannotTake, hen, hslot, h]
  have href : p.orderRef ⟨x.slot, x.notify⟩ x.order = refOf x := by simp [Part.orderRef, refOf, hx]
  rw [Part.orderCommand, href, if_neg (by simp [hok])]

/-- An order of unknown kind finishes FAILED BAD_KIND (R159). -/
theorem Part.takeOrder_unknownKind (p : Part) (code : BitVec 16) (slot : Fin 32) (ticket : Byte) (kind : BitVec 16)
    (notify : Bool) : p.Answered ⟨slot, notify⟩ (.failed .badKind) p.xu p.tlu []
      (p.takeOrder (.unknownKind code) ⟨slot, ticket, kind, notify⟩) := by
  rw [Part.takeOrder, Part.writeTaken_orderTaken ⟨slot, notify⟩]
  exact Part.answered_refused p ⟨slot, notify⟩ (.unknownKind code) _

/-! ## Slots of unknown kind (R159, R214) -/

theorem orderOf_unknownKind {code : BitVec 16}
    (h : code.toNat = 0 ∨ (0x15 < code.toNat ∧ code.toNat < 0x20) ∨ 0x24 < code.toNat) (parameters : List Byte) :
    orderOf code parameters = .unknownKind code := by
  have hne (k : BitVec 16) (hk : (0 < k.toNat ∧ k.toNat ≤ 0x15) ∨ (0x20 ≤ k.toNat ∧ k.toNat ≤ 0x24)) : code ≠ k := by
    rintro rfl
    omega
  simp [orderOf, hne]

/-! ## The end of a sweep (R156, R161) -/

theorem Part.endSweep_xu (p : Part) : p.endSweep.xu = { p.xu with
    sweeping := false
    sweepCount := p.xu.sweepCount + 1
    sweepTimer := some (p.tlu.timebase + BitVec.ofNat 64 p.xu.periodUs) } := by
  simp [Part.endSweep, Part.startSweepTimer, Part.now, later]

/-- The status block is written as the sweep count has risen (R161, R162). -/
theorem Part.endSweep_issued {p last : Part} (h : last = p.modXu fun x => { x with sweepCount := x.sweepCount + 1 }) :
    p.endSweep.issued = p.issued ++ (if p.xu.memRequests then
      [.hostWrite p.area last.summaryBytes, .hostWrite (p.area + 0x200) last.counterBytes] else []) := by
  rw [h, Part.endSweep, Part.startSweepTimer, Part.modXu_issued, Part.modXu_issued, Part.writeStatus_issued]
  rfl

/-- The slots that are eligible in a sweep (R155, R158). -/
theorem Part.eligibleSlots_eq (p : Part) (slots : List (List Byte)) :
    p.eligibleSlots slots = (postedSlots slots).filter fun x => p.inFlight.all fun o => o.slot ≠ x.slot := by
  simp [Part.eligibleSlots, Part.slotInFlight, List.all_eq_not_any_not]

theorem Part.mem_eligibleSlots {p : Part} {slots : List (List Byte)} {x : PostedSlot} (h : x ∈ p.eligibleSlots slots) :
    p.slotInFlight x.slot = false := by
  simpa using (List.mem_filter.mp h).2

theorem Part.acceptConsumed_eq (v : BitVec 32) (p : Part) : p.acceptConsumed v = { p with tel := consumedJudged p v } := rfl

end Sys2Proof.Machine

namespace Sys2Proof.Proofs

open Sys2Proof.Machine

/-- Orders are taken in ticket order (O43's first part). -/
theorem ordersTaken_holds : ordersTaken := by
  intro n slots p
  refine ⟨fun hnone => Part.takeOrders_none hnone, ?_⟩
  rintro before x after rfl hbefore hx
  set q := p.loseDuplicates (after.filter fun y => y.ticket = p.xu.nextTicket) with hq
  have hxu : q.xu = p.xu := p.loseDuplicates_xu _
  have htake := Part.takeOrders_winner (n := n) hbefore hx hq
  refine ⟨q, p.loseDuplicates_lost _, fun hbulk hlane hqueue => ?_, fun hroom => ?_⟩
  · rw [htake, if_pos (by simp [Xu.laneFull, hbulk, hlane, hqueue])]
  · have hnotFull : isBulk x.order = false ∨ q.xu.laneFull = false := hroom.imp_right Xu.laneFull_eq_false
    have hhead : refOf x = ⟨x.slot, p.xu.nextTicket, orderCode x.order, x.notify⟩ := by rw [refOf, hx]
    rw [← hhead]
    refine ⟨_, rfl, ?_, fun code hcode => ?_, fun hready => ?_, ?_⟩
    · rw [← hxu]
      exact congrArg Xu.Standing.nextTicket (q.takeOrder_standing x.order (refOf x))
    · rw [hcode]
      exact q.takeOrder_unknownKind code _ _ _ _
    · exact Part.takeOrder_eq_command (by rw [hxu, hx]) hready hnotFull
    · rw [htake, if_neg (by rcases hnotFull with h | h <;> simp [h])]

/-- A slot of unknown kind (O43's second part). -/
theorem unknownKindRead_holds : unknownKindRead := by
  intro i bytes hposted code hcode
  rw [postedSlot, if_pos (show field8 bytes 0 = 1 from hposted), orderOf_unknownKind hcode]
  rfl

/-- A sweep ends (O43's third part). -/
theorem sweepEnds_holds : sweepEnds := by
  intro s v slots accepted eligible q last
  have hexec : exec (.sweepReadCompletion v slots) s = .next { s with part := s.part.sweepReadCompletion v slots } := rfl
  refine ⟨fun hidle => ?_, fun hsweeping => ?_⟩
  · rw [hexec, Part.sweepReadCompletion, if_neg (by simp [hidle])]
  · have heligible : accepted.eligibleSlots slots = eligible := Part.eligibleSlots_eq _ _
    have hend : s.part.sweepReadCompletion v slots = q.endSweep := by
      rw [Part.sweepReadCompletion, if_pos hsweeping]
      dsimp only
      rw [Part.acceptConsumed_eq, heligible]
    rw [hend] at hexec
    obtain ⟨n, hn, hstanding⟩ := Part.takeOrders_standing 32 eligible accepted
    obtain ⟨hen, hbase, hmem, hticket, hcount⟩ := (Xu.standing_eq_iff (x := q.xu)
      (y := { accepted.xu with nextTicket := accepted.xu.nextTicket + BitVec.ofNat 8 n })).mp hstanding
    have harea : q.area = s.part.area := congrArg (· &&& ~~~(0xFFF#64)) hbase
    have hissued := Part.endSweep_issued (p := q) (last := last) rfl
    rw [harea, show q.xu.memRequests = s.part.xu.memRequests from hmem] at hissued
    refine ⟨_, hexec, rfl, ?_, hissued, by simp [Part.sameBut_iff], ?_, ⟨n, hn, ?_⟩, fun hnone => Part.takeOrders_none (.inr hnone),
      fun x hx hticket hbulk hrunning => ?_⟩
    · rw [Part.endSweep_xu, show q.xu.sweepCount = s.part.xu.sweepCount from hcount]
    · rw [Part.endSweep_xu]
      exact hen
    · rw [Part.endSweep_xu]
      exact hticket
    · have hslot : accepted.slotInFlight x.slot = false := by
        refine Part.mem_eligibleSlots (slots := slots) ?_
        simp [heligible, hx]
      have htake : Part.takeOrders 32 [x] accepted = Part.takeOrders 31 _ (accepted.takeOrder x.order (refOf x)) :=
        (Part.takeOrders_winner (n := 31) (before := []) (after := []) (p := accepted) (by simp) hticket rfl).trans (if_neg (by simp [hbulk]))
      have hq : q = Part.takeOrders 32 [x] accepted := congrArg (Part.takeOrders 32 · accepted) hx
      rw [hq, htake, Part.takeOrders_none (.inr (by simp))]
      exact Part.takeOrder_eq_command hticket ⟨hrunning, hslot⟩ (.inl hbulk)

end Sys2Proof.Proofs
end

section
/-! SUPPORT. The status block's layout (O43): a run of bytes at its place in a layout, the fields of such a run, and the two parts of
the block (R162, R209, section 11.7). -/

namespace Sys2Proof.Machine

/-! ## Fields of 32 bits -/

theorem leBytes_four (n : Nat) : leBytes 4 n = [BitVec.ofNat 8 n, BitVec.ofNat 8 (n / 256), BitVec.ofNat 8 (n / 65536),
    BitVec.ofNat 8 (n / 16777216)] := by
  simp [leBytes, List.range_succ]

/-- A 32-bit field is its four bytes, the first one lowest (R209). -/
theorem field32_eq (bytes : List Byte) (offset : Nat) : field32 bytes offset = BitVec.ofNat 32
    ((byteAt bytes offset).toNat + 256 * (byteAt bytes (offset + 1)).toNat + 65536 * (byteAt bytes (offset + 2)).toNat +
      16777216 * (byteAt bytes (offset + 3)).toNat) := by
  have hbyte (i : Nat) : byteAt bytes (offset + i) = byteAt (bytes.drop offset) i := by
    simp [byteAt, List.getD_eq_getElem?_getD]
  have hzero : byteAt bytes offset = byteAt (bytes.drop offset) 0 := hbyte 0
  rw [hbyte 1, hbyte 2, hbyte 3, hzero, field32, field]
  congr 1
  match bytes.drop offset with
  | [] => rfl
  | [a] | [a, b] => simp [byteAt, littleEndian]
  | [a, b, c] | a :: b :: c :: d :: rest =>
    simp [byteAt, littleEndian]
    omega

/-- The four bytes of a number make its value modulo 2^32. -/
theorem bytes_word (n : Nat) : BitVec.ofNat 32 (n % 256 + 256 * (n / 256 % 256) + 65536 * (n / 65536 % 256) +
    16777216 * (n / 16777216 % 256)) = BitVec.ofNat 32 n := by
  apply BitVec.eq_of_toNat_eq
  simp only [BitVec.toNat_ofNat]
  omega

theorem field32_leBytes (n : Nat) : field32 (leBytes 4 n) 0 = BitVec.ofNat 32 n := by
  rw [field32_eq, leBytes_four]
  exact bytes_word n

/-! ## A run of bytes at its place -/

/-- A run of bytes stands at an offset of a layout. -/
def standsAt (bytes : List Byte) (start : Nat) (run : List Byte) : Prop :=
  ∀ i < run.length, byteAt bytes (start + i) = byteAt run i

/-- A run stands behind what comes before it. -/
theorem standsAt_of_eq {bytes front run back : List Byte} {start : Nat} (h : bytes = front ++ (run ++ back))
    (hstart : front.length = start) : standsAt bytes start run := by
  subst h hstart
  intro i hi
  simp only [byteAt, List.getD_eq_getElem?_getD]
  rw [List.getElem?_append_right (by omega), Nat.add_sub_cancel_left, List.getElem?_append_left hi]

/-- A run within a run. -/
theorem standsAt.within {bytes run inner : List Byte} {start offset : Nat} (h : standsAt bytes start run)
    (hinner : standsAt run offset inner) (hfits : offset + inner.length ≤ run.length) :
    standsAt bytes (start + offset) inner := by
  intro i hi
  rw [← hinner i hi, ← h (offset + i) (by omega), Nat.add_assoc]

/-- The entries of one size stand at the multiples of it. -/
theorem standsAt_flatMap {α : Type} {f : α → List Byte} {size : Nat} {l : List α} (hsize : ∀ x ∈ l, (f x).length = size) {n : Nat}
    {x : α} (hx : l[n]? = some x) : standsAt (l.flatMap f) (size * n) (f x) := by
  intro i hi
  rw [hsize x (List.mem_of_getElem? hx)] at hi
  exact byteAt_flatMap hsize hx hi

/-- The entries of one size, where their run stands. -/
theorem standsAt.entry {α : Type} {f : α → List Byte} {size : Nat} {l : List α} {bytes : List Byte} {start : Nat}
    (h : standsAt bytes start (l.flatMap f)) (hsize : ∀ x ∈ l, (f x).length = size) {n : Nat} {x : α} (hx : l[n]? = some x) :
    standsAt bytes (start + size * n) (f x) := by
  obtain ⟨hn, -⟩ := List.getElem?_eq_some_iff.mp hx
  refine h.within (standsAt_flatMap hsize hx) ?_
  rw [hsize x (List.mem_of_getElem? hx), length_flatMap_of_size hsize, ← Nat.mul_succ]
  exact Nat.mul_le_mul_left _ hn

theorem standsAt.field16_eq {bytes run : List Byte} {start offset : Nat} (h : standsAt bytes start run)
    (hoffset : offset + 1 < run.length) : field16 bytes (start + offset) = field16 run offset := by
  rw [Machine.field16_eq, Machine.field16_eq, ← h offset (by omega), ← h (offset + 1) hoffset, Nat.add_assoc]

theorem standsAt.field32_eq {bytes run : List Byte} {start offset : Nat} (h : standsAt bytes start run)
    (hoffset : offset + 3 < run.length) : field32 bytes (start + offset) = field32 run offset := by
  rw [Machine.field32_eq, Machine.field32_eq, ← h offset (by omega), ← h (offset + 1) (by omega), ← h (offset + 2) (by omega),
    ← h (offset + 3) hoffset]
  rfl

theorem zeros_length (n : Nat) : (zeros n).length = n := List.length_replicate

/-- Bytes that carry no field read as 0 (R209). -/
theorem byteAt_zeros (n i : Nat) : byteAt (zeros n) i = 0 := by
  simp only [byteAt, zeros, List.getD_eq_getElem?_getD, List.getElem?_replicate]
  split <;> rfl

theorem field32_zeros (n i : Nat) : field32 (zeros n) i = 0 := by
  simp [field32_eq, byteAt_zeros]

/-! ## The counter part (R10, R147, section 11.7) -/

/-- The bytes of a list of counters. -/
def wordBytes (counters : List (BitVec 32)) : List Byte := counters.flatMap fun x => leBytes 4 x.toNat

theorem wordBytes_length (counters : List (BitVec 32)) : (wordBytes counters).length = 4 * counters.length :=
  length_flatMap_of_size fun _ _ => leBytes_length _ _

/-- A block of 64 bytes holds its counters in order, and 0 where none stands. -/
theorem standsAt.counters {bytes : List Byte} {start : Nat} {counters : List (BitVec 32)} {rest : Nat}
    (h : standsAt bytes start (wordBytes counters ++ zeros rest)) (hrest : 4 * counters.length + rest = 64) :
    (∀ n x, counters[n]? = some x → field32 bytes (start + 4 * n) = x) ∧
      ∀ n, counters.length ≤ n → n < 16 → field32 bytes (start + 4 * n) = 0 := by
  have hlength := wordBytes_length counters
  have hwords : standsAt bytes start (wordBytes counters) :=
    h.within (offset := 0) (standsAt_of_eq (front := []) rfl rfl) (by simp)
  have hzeros : standsAt bytes (start + (wordBytes counters).length) (zeros rest) :=
    h.within (standsAt_of_eq (back := []) (by simp) rfl) (by simp)
  constructor
  · intro n x hx
    have hx := (hwords.entry (fun _ _ => leBytes_length _ _) hx).field32_eq (offset := 0) (by simp [leBytes_length])
    rw [field32_leBytes, BitVec.ofNat_toNat, BitVec.setWidth_eq] at hx
    exact hx
  · intro n hn hlast
    obtain ⟨k, rfl⟩ := Nat.exists_eq_add_of_le hn
    have hk := hzeros.field32_eq (offset := 4 * k) (by rw [zeros_length]; omega)
    rw [field32_zeros, hlength, Nat.add_assoc, ← Nat.mul_add] at hk
    exact hk

/-- The counters of a sensor link in the order of section 11.7. -/
def SensorCounters.listed (c : SensorCounters) : List (BitVec 32) :=
  [c.valid, c.delivered, c.untracked, c.overrun, c.stopped, c.format, c.crc, c.foreign, c.geometry, c.duplicate, c.late, c.noSlot,
    c.incomplete]

/-- The counters of a mirror link in the order of section 11.7. -/
def MirrorCounters.listed (c : MirrorCounters) : List (BitVec 32) :=
  [c.sent, c.skipped, c.accepted, c.clipped, c.rejected, c.busy, c.implicitly, c.lost, c.cleared, c.queries, c.stray, c.format,
    c.crc, c.foreign]

theorem sensorCounterBytes_eq (c : SensorCounters) : sensorCounterBytes c = wordBytes c.listed ++ zeros 12 := rfl

theorem mirrorCounterBytes_eq (c : MirrorCounters) : mirrorCounterBytes c = wordBytes c.listed ++ zeros 8 := rfl

theorem sensorCounterBytes_length (c : SensorCounters) : (sensorCounterBytes c).length = 64 := by
  rw [sensorCounterBytes_eq, List.length_append, wordBytes_length]
  rfl

theorem mirrorCounterBytes_length (c : MirrorCounters) : (mirrorCounterBytes c).length = 64 := by
  rw [mirrorCounterBytes_eq, List.length_append, wordBytes_length]
  rfl

/-- The sensor links' blocks in order. -/
def Part.sensorBlocks (p : Part) : List Byte :=
  [p.links.f0, p.links.f1, p.links.f2, p.links.f3].flatMap fun l => sensorCounterBytes l.counters

/-- The mirror links' blocks in order. -/
def Part.mirrorBlocks (p : Part) : List Byte := [p.mlt.t0, p.mlt.t1].flatMap fun l => mirrorCounterBytes l.counters

theorem Part.sensorBlocks_length (p : Part) : p.sensorBlocks.length = 256 :=
  length_flatMap_of_size fun _ _ => sensorCounterBytes_length _

theorem Part.mirrorBlocks_length (p : Part) : p.mirrorBlocks.length = 128 :=
  length_flatMap_of_size fun _ _ => mirrorCounterBytes_length _

theorem Part.counterBytes_eq (p : Part) : p.counterBytes = p.sensorBlocks ++ (p.mirrorBlocks ++ zeros 128) := by
  simp [Part.counterBytes, Part.sensorBlocks, Part.mirrorBlocks]

theorem Two.toList_get {α : Type} (v : Two α) (i : Fin 2) : [v.t0, v.t1][i.val]? = some (v.get i) := by
  match i with
  | 0 | 1 => rfl

/-- The block of a sensor link (R10). -/
theorem Part.counterBytes_sensor (p : Part) (i : LinkIx) :
    standsAt p.counterBytes (64 * i.val) (sensorCounterBytes (p.links.get i).counters) := by
  have hblocks : standsAt p.counterBytes 0 p.sensorBlocks := standsAt_of_eq (front := []) p.counterBytes_eq rfl
  simpa using hblocks.entry (fun l _ => sensorCounterBytes_length l.counters) (Four.toList_get p.links i)

/-- The block of a mirror link (R147). -/
theorem Part.counterBytes_mirror (p : Part) (m : MirrorIx) :
    standsAt p.counterBytes (0x100 + 64 * m.val) (mirrorCounterBytes (p.mlt.get m).counters) := by
  have hblocks : standsAt p.counterBytes 0x100 p.mirrorBlocks := standsAt_of_eq p.counterBytes_eq p.sensorBlocks_length
  exact hblocks.entry (fun l _ => mirrorCounterBytes_length l.counters) (Two.toList_get p.mlt m)

theorem Part.counterBytes_zeros (p : Part) : standsAt p.counterBytes 0x180 (zeros 128) :=
  standsAt_of_eq (front := p.sensorBlocks ++ p.mirrorBlocks) (back := [])
    (by simp only [p.counterBytes_eq, List.append_assoc, List.append_nil])
    (by rw [List.length_append, p.sensorBlocks_length, p.mirrorBlocks_length])

/-! ## The summary part (R76, R162, section 11.7) -/

/-- The ticket and flags of the lane, as two bytes. -/
theorem Part.laneBytes_eq (p : Part) : p.laneBytes = [p.xu.lane.elim 0 fun r => r.bulk.order.ticket,
    BitVec.ofNat 8 ((if p.xu.lane.isSome then 1 else 0) + 16 * p.xu.queue.length)] := by
  unfold Part.laneBytes
  cases p.xu.lane <;> simp [leBytes_one]

/-- The last seal, as four bytes. -/
theorem lastSealedBytes_eq (x : Option (Serial × SealKind)) : lastSealedBytes x =
    [BitVec.ofNat 8 (x.elim 0 fun y => y.2.code), 0, BitVec.ofNat 8 (x.elim 0 Prod.fst).toNat,
      BitVec.ofNat 8 ((x.elim 0 Prod.fst).toNat / 256)] := by
  cases x <;> simp [lastSealedBytes, zeros, leBytes_one, leBytes_two]

/-- The first 32 bytes of the summary. -/
def Part.summaryHead (p : Part) : List Byte :=
  leBytes 4 p.xu.sweepCount.toNat ++ leBytes 4 (low32 p.now).toNat
    ++ leBytes 1 p.lpc.loop.code ++ leBytes 1 p.lpc.causes.code ++ leBytes 1 (firstCauseCode p.lpc.firstCause)
    ++ leBytes 1 p.waitingCode ++ leBytes 1 p.pendingSwapCode ++ [p.xu.nextTicket] ++ p.laneBytes
    ++ lastSealedBytes p.fra.lastSealed
    ++ leBytes 4 p.tel.written.toNat ++ leBytes 4 p.tel.dropped.toNat ++ leBytes 4 p.xu.hostFailures.toNat

theorem Part.summaryHead_fields (p : Part) :
    p.summaryHead.length = 32 ∧ field32 p.summaryHead 0 = p.xu.sweepCount ∧ field32 p.summaryHead 4 = low32 p.now ∧
    byteAt p.summaryHead 8 = BitVec.ofNat 8 p.lpc.loop.code ∧ byteAt p.summaryHead 9 = BitVec.ofNat 8 p.lpc.causes.code ∧
    byteAt p.summaryHead 0x0A = BitVec.ofNat 8 (firstCauseCode p.lpc.firstCause) ∧
    byteAt p.summaryHead 0x0B = BitVec.ofNat 8 p.waitingCode ∧
    byteAt p.summaryHead 0x0C = BitVec.ofNat 8 p.pendingSwapCode ∧ byteAt p.summaryHead 0x0D = p.xu.nextTicket ∧
    byteAt p.summaryHead 0x0E = (p.xu.lane.elim 0 fun r => r.bulk.order.ticket) ∧
    byteAt p.summaryHead 0x0F = BitVec.ofNat 8 ((if p.xu.lane.isSome then 1 else 0) + 16 * p.xu.queue.length) ∧
    byteAt p.summaryHead 0x10 = BitVec.ofNat 8 (p.fra.lastSealed.elim 0 fun y => y.2.code) ∧
    byteAt p.summaryHead 0x11 = 0 ∧ field16 p.summaryHead 0x12 = p.fra.lastSealed.elim 0 Prod.fst ∧
    field32 p.summaryHead 0x14 = p.tel.written ∧ field32 p.summaryHead 0x18 = p.tel.dropped ∧
    field32 p.summaryHead 0x1C = p.xu.hostFailures := by
  simp [Part.summaryHead, leBytes_one, leBytes_four, Part.laneBytes_eq, lastSealedBytes_eq, field16_eq, field32_eq, byteAt,
    bytes_word, bytes_append_word]

theorem bankBytes_fields (x : BankRecord) : (bankBytes x).length = 16 ∧
    byteAt (bankBytes x) 0 = BitVec.ofNat 8 x.state.code ∧ byteAt (bankBytes x) 1 = BitVec.ofNat 8 x.e ∧
    field16 (bankBytes x) 2 = BitVec.ofNat 16 x.s ∧ field16 (bankBytes x) 4 = BitVec.ofNat 16 x.a ∧
    field16 (bankBytes x) 6 = BitVec.ofNat 16 x.progress ∧ field32 (bankBytes x) 8 = x.check ∧
    field32 (bankBytes x) 12 = 0 := by
  simp [bankBytes, leBytes_one, leBytes_two, leBytes_four, zeros, field16_eq, field32_eq, byteAt, bytes_append, bytes_word]

theorem sensorLinkBytes_fields (l : SensorLink) : (sensorLinkBytes l).length = 4 ∧
    byteAt (sensorLinkBytes l) 0 = BitVec.ofNat 8 l.state.code ∧
    byteAt (sensorLinkBytes l) 1 = (if l.lastFrame.isSome then 1 else 0) ∧
    field16 (sensorLinkBytes l) 2 = l.lastFrame.getD 0 := by
  cases h : l.lastFrame <;>
    simp [sensorLinkBytes, h, bitAt, leBytes_one, leBytes_two, field16_eq, byteAt, bytes_append_word]

theorem mirrorLinkBytes_fields (l : MirrorLink) : (mirrorLinkBytes l).length = 4 ∧
    byteAt (mirrorLinkBytes l) 0 = BitVec.ofNat 8 l.state.code ∧
    byteAt (mirrorLinkBytes l) 1 = BitVec.ofNat 8 l.outstanding.length ∧ field16 (mirrorLinkBytes l) 2 = l.nextSeq := by
  simp [mirrorLinkBytes, leBytes_one, leBytes_two, field16_eq, byteAt, bytes_append_word]

/-- The bank records in order. -/
def Part.summaryBanks (p : Part) : List Byte := [p.mxs.banks.t0, p.mxs.banks.t1].flatMap bankBytes

/-- The sensor links' records in order. -/
def Part.summarySensors (p : Part) : List Byte := [p.links.f0, p.links.f1, p.links.f2, p.links.f3].flatMap sensorLinkBytes

/-- The mirror links' records in order. -/
def Part.summaryMirrors (p : Part) : List Byte := [p.mlt.t0, p.mlt.t1].flatMap mirrorLinkBytes

theorem Part.summaryBanks_length (p : Part) : p.summaryBanks.length = 32 :=
  length_flatMap_of_size fun x _ => (bankBytes_fields x).1

theorem Part.summarySensors_length (p : Part) : p.summarySensors.length = 16 :=
  length_flatMap_of_size fun l _ => (sensorLinkBytes_fields l).1

theorem Part.summaryMirrors_length (p : Part) : p.summaryMirrors.length = 8 :=
  length_flatMap_of_size fun l _ => (mirrorLinkBytes_fields l).1

/-- The summary's runs in their order (section 11.7). -/
theorem Part.summaryBytes_eq (p : Part) : p.summaryBytes = p.summaryHead ++ (p.summaryBanks ++ (p.summarySensors ++
    (p.summaryMirrors ++ (zeros 164 ++ leBytes 4 p.xu.sweepCount.toNat)))) := by
  unfold Part.summaryBytes
  rw [← Part.summaryHead]
  simp only [Part.summaryBanks, Part.summarySensors, Part.summaryMirrors, List.flatMap_cons, List.flatMap_nil, List.append_nil,
    List.append_assoc]

section
variable (p : Part)

theorem Part.summaryBytes_length : p.summaryBytes.length = 256 := by
  simp only [p.summaryBytes_eq, List.length_append, p.summaryHead_fields.1, p.summaryBanks_length, p.summarySensors_length,
    p.summaryMirrors_length, zeros_length, leBytes_length]

theorem Part.summaryBytes_head : standsAt p.summaryBytes 0 p.summaryHead := standsAt_of_eq (front := []) p.summaryBytes_eq rfl

/-! A field of the first 32 bytes. -/

theorem Part.summaryBytes_byte {offset : Nat} (h : offset < 32) : byteAt p.summaryBytes offset = byteAt p.summaryHead offset := by
  simpa using p.summaryBytes_head offset (by rw [p.summaryHead_fields.1]; exact h)

theorem Part.summaryBytes_half {offset : Nat} (h : offset + 1 < 32) :
    field16 p.summaryBytes offset = field16 p.summaryHead offset := by
  simpa using p.summaryBytes_head.field16_eq (by rw [p.summaryHead_fields.1]; exact h)

theorem Part.summaryBytes_word {offset : Nat} (h : offset + 3 < 32) :
    field32 p.summaryBytes offset = field32 p.summaryHead offset := by
  simpa using p.summaryBytes_head.field32_eq (by rw [p.summaryHead_fields.1]; exact h)

/-! The records of the banks and of the links. -/

theorem Part.summaryBytes_bank (k : BankIx) : standsAt p.summaryBytes (0x20 + 16 * k.val) (bankBytes (p.mxs.banks.get k)) := by
  have hbanks : standsAt p.summaryBytes 0x20 p.summaryBanks := standsAt_of_eq p.summaryBytes_eq p.summaryHead_fields.1
  exact hbanks.entry (fun x _ => (bankBytes_fields x).1) (Two.toList_get _ k)

theorem Part.summaryBytes_sensor (i : LinkIx) :
    standsAt p.summaryBytes (0x40 + 4 * i.val) (sensorLinkBytes (p.links.get i)) := by
  have hsensors : standsAt p.summaryBytes 0x40 p.summarySensors :=
    standsAt_of_eq (front := p.summaryHead ++ p.summaryBanks) (by rw [p.summaryBytes_eq, List.append_assoc])
      (by rw [List.length_append, p.summaryHead_fields.1, p.summaryBanks_length])
  exact hsensors.entry (fun l _ => (sensorLinkBytes_fields l).1) (Four.toList_get _ i)

theorem Part.summaryBytes_mirror (m : MirrorIx) :
    standsAt p.summaryBytes (0x50 + 4 * m.val) (mirrorLinkBytes (p.mlt.get m)) := by
  have hmirrors : standsAt p.summaryBytes 0x50 p.summaryMirrors :=
    standsAt_of_eq (front := p.summaryHead ++ p.summaryBanks ++ p.summarySensors)
      (by rw [p.summaryBytes_eq, List.append_assoc, List.append_assoc])
      (by rw [List.length_append, List.length_append, p.summaryHead_fields.1, p.summaryBanks_length, p.summarySensors_length])
  exact hmirrors.entry (fun l _ => (mirrorLinkBytes_fields l).1) (Two.toList_get _ m)

theorem Part.summaryBytes_bankFields (k : BankIx) :
    byteAt p.summaryBytes (0x20 + 16 * k.val) = BitVec.ofNat 8 (p.mxs.banks.get k).state.code ∧
    byteAt p.summaryBytes (0x20 + 16 * k.val + 1) = BitVec.ofNat 8 (p.mxs.banks.get k).e ∧
    field16 p.summaryBytes (0x20 + 16 * k.val + 2) = BitVec.ofNat 16 (p.mxs.banks.get k).s ∧
    field16 p.summaryBytes (0x20 + 16 * k.val + 4) = BitVec.ofNat 16 (p.mxs.banks.get k).a ∧
    field16 p.summaryBytes (0x20 + 16 * k.val + 6) = BitVec.ofNat 16 (p.mxs.banks.get k).progress ∧
    field32 p.summaryBytes (0x20 + 16 * k.val + 8) = (p.mxs.banks.get k).check ∧
    field32 p.summaryBytes (0x20 + 16 * k.val + 12) = 0 := by
  have hbank := p.summaryBytes_bank k
  obtain ⟨hsize, hstate, he, hs, ha, hprogress, hcheck, hzero⟩ := bankBytes_fields (p.mxs.banks.get k)
  exact ⟨(hbank 0 (by omega)).trans hstate, (hbank 1 (by omega)).trans he, (hbank.field16_eq (by omega)).trans hs,
    (hbank.field16_eq (by omega)).trans ha, (hbank.field16_eq (by omega)).trans hprogress,
    (hbank.field32_eq (by omega)).trans hcheck, (hbank.field32_eq (by omega)).trans hzero⟩

theorem Part.summaryBytes_sensorFields (i : LinkIx) :
    byteAt p.summaryBytes (0x40 + 4 * i.val) = BitVec.ofNat 8 (p.links.get i).state.code ∧
    byteAt p.summaryBytes (0x40 + 4 * i.val + 1) = (if (p.links.get i).lastFrame.isSome then 1 else 0) ∧
    field16 p.summaryBytes (0x40 + 4 * i.val + 2) = (p.links.get i).lastFrame.getD 0 := by
  have hlink := p.summaryBytes_sensor i
  obtain ⟨hsize, hstate, hknown, hframe⟩ := sensorLinkBytes_fields (p.links.get i)
  exact ⟨(hlink 0 (by omega)).trans hstate, (hlink 1 (by omega)).trans hknown, (hlink.field16_eq (by omega)).trans hframe⟩

theorem Part.summaryBytes_mirrorFields (m : MirrorIx) :
    byteAt p.summaryBytes (0x50 + 4 * m.val) = BitVec.ofNat 8 (p.mlt.get m).state.code ∧
    byteAt p.summaryBytes (0x50 + 4 * m.val + 1) = BitVec.ofNat 8 (p.mlt.get m).outstanding.length ∧
    field16 p.summaryBytes (0x50 + 4 * m.val + 2) = (p.mlt.get m).nextSeq := by
  have hlink := p.summaryBytes_mirror m
  obtain ⟨hsize, hstate, houtstanding, hseq⟩ := mirrorLinkBytes_fields (p.mlt.get m)
  exact ⟨(hlink 0 (by omega)).trans hstate, (hlink 1 (by omega)).trans houtstanding, (hlink.field16_eq (by omega)).trans hseq⟩

/-- The bytes without a field, and the sweep count behind them. -/
theorem Part.summaryBytes_end : standsAt p.summaryBytes 0x58 (zeros 164 ++ leBytes 4 p.xu.sweepCount.toNat) :=
  standsAt_of_eq (front := p.summaryHead ++ p.summaryBanks ++ p.summarySensors ++ p.summaryMirrors) (back := [])
    (by rw [p.summaryBytes_eq, List.append_assoc, List.append_assoc, List.append_assoc, List.append_nil])
    (by rw [List.length_append, List.length_append, List.length_append, p.summaryHead_fields.1, p.summaryBanks_length,
      p.summarySensors_length, p.summaryMirrors_length])

theorem Part.summaryBytes_zeros : standsAt p.summaryBytes 0x58 (zeros 164) :=
  p.summaryBytes_end.within (offset := 0) (standsAt_of_eq (front := []) rfl rfl) (by simp)

theorem Part.summaryBytes_count : standsAt p.summaryBytes 0xFC (leBytes 4 p.xu.sweepCount.toNat) :=
  p.summaryBytes_end.within (offset := 164) (standsAt_of_eq (back := []) (by rw [List.append_nil]) (zeros_length 164))
    (by rw [List.length_append, zeros_length])

end

/-- The marks of a byte, one bit each from bit 0 on. -/
theorem fourMarks_getLsbD : ∀ (a b c d : Bool), ∀ n < 8,
    (BitVec.ofNat 8 (bitAt 0 a + bitAt 1 b + bitAt 2 c + bitAt 3 d)).getLsbD n = [a, b, c, d].getD n false := by
  decide

theorem fiveMarks_getLsbD : ∀ (a b c d e : Bool), ∀ n < 8,
    (BitVec.ofNat 8 (bitAt 0 a + bitAt 1 b + bitAt 2 c + bitAt 3 d + bitAt 4 e)).getLsbD n = [a, b, c, d, e].getD n false := by
  decide

end Sys2Proof.Machine

namespace Sys2Proof.Proofs

open Sys2Proof.Machine

/-- The counter part (O43's fifth part). -/
theorem countersLaid_holds : countersLaid := by
  intro p b laid
  refine ⟨?_, fun i => ?_, fun m => ?_, fun n hn hlast => ?_⟩
  · simp [b, p.counterBytes_eq, p.sensorBlocks_length, p.mirrorBlocks_length, zeros_length]
  · exact standsAt.counters (p.counterBytes_sensor i) rfl
  · exact standsAt.counters (p.counterBytes_mirror m) rfl
  · obtain ⟨k, rfl⟩ := Nat.exists_eq_add_of_le hn
    exact (p.counterBytes_zeros k (by rw [zeros_length]; omega)).trans (byteAt_zeros _ _)

/-- The summary part (O43's fourth part). -/
theorem summaryLaid_holds : summaryLaid := by
  intro p b
  obtain ⟨-, hcount, htime, hloop, hcauses, hfirst, hwaiting, hswap, hticket, hlane, hflags, hkind, hzero, hsealed, hwritten,
    hdropped, hfailures⟩ := p.summaryHead_fields
  refine ⟨p.summaryBytes_length, ?_, ?_, ?_, ?_, ?_, ?_, ?_, ?_, ?_, ?_, ?_, ?_, ?_, ?_, ?_, ?_, fun k => ?_, fun i => ?_,
    fun m => ?_, ?_, ?_⟩
  · rw [p.summaryBytes_word (offset := 0) (by decide), hcount]
  · have hlast := p.summaryBytes_count.field32_eq (offset := 0) (by rw [leBytes_length]; decide)
    rw [field32_leBytes, BitVec.ofNat_toNat, BitVec.setWidth_eq] at hlast
    exact hlast
  · rw [p.summaryBytes_word (offset := 4) (by decide), htime]
    rfl
  · rw [p.summaryBytes_byte (offset := 8) (by decide), hloop]
    cases p.lpc.loop <;> rfl
  · rw [p.summaryBytes_byte (offset := 9) (by decide), hcauses]
    exact fourMarks_getLsbD _ _ _ _
  · rw [p.summaryBytes_byte (offset := 0x0A) (by decide), hfirst]
    rcases p.lpc.firstCause with - | - | - | - | - <;> rfl
  · rw [p.summaryBytes_byte (offset := 0x0B) (by decide), hwaiting]
    exact fiveMarks_getLsbD _ _ _ _ _
  · rw [p.summaryBytes_byte (offset := 0x0C) (by decide), hswap, Part.pendingSwapCode]
    rcases p.mxs.pendingSwap with - | ⟨target, order⟩
    · rfl
    · match target with
      | 0 | 1 => rfl
  · rw [p.summaryBytes_byte (offset := 0x0D) (by decide), hticket]
  · rw [p.summaryBytes_byte (offset := 0x0E) (by decide), hlane]
    cases p.xu.lane <;> rfl
  · rw [p.summaryBytes_byte (offset := 0x0F) (by decide), hflags]
  · intro hnone
    rw [p.summaryBytes_byte (offset := 0x10) (by decide), hkind, p.summaryBytes_half (offset := 0x12) (by decide), hsealed, hnone]
    exact ⟨rfl, rfl⟩
  · intro f k hsome
    rw [p.summaryBytes_byte (offset := 0x10) (by decide), hkind, p.summaryBytes_half (offset := 0x12) (by decide), hsealed, hsome]
    refine ⟨rfl, ?_, ?_, ?_⟩ <;> rintro rfl <;> rfl
  · rw [p.summaryBytes_word (offset := 0x14) (by decide), hwritten]
  · rw [p.summaryBytes_word (offset := 0x18) (by decide), hdropped]
  · rw [p.summaryBytes_word (offset := 0x1C) (by decide), hfailures]
  · obtain ⟨hstate, hfields⟩ := p.summaryBytes_bankFields k
    refine ⟨hstate.trans ?_, hfields⟩
    cases (p.mxs.banks.get k).state <;> rfl
  · obtain ⟨hstate, hfields⟩ := p.summaryBytes_sensorFields i
    refine ⟨hstate.trans ?_, hfields⟩
    cases (p.links.get i).state <;> rfl
  · obtain ⟨hstate, hfields⟩ := p.summaryBytes_mirrorFields m
    refine ⟨hstate.trans ?_, hfields⟩
    cases (p.mlt.get m).state <;> rfl
  · rw [p.summaryBytes_byte (offset := 0x11) (by decide), hzero]
  · intro n hn hlast
    obtain ⟨k, rfl⟩ := Nat.exists_eq_add_of_le hn
    exact (p.summaryBytes_zeros k (by rw [zeros_length]; omega)).trans (byteAt_zeros _ _)

/-- Settles O43: orders taken in ticket order, slots of unknown kind, the end of a sweep, and the two parts of the status block. -/
theorem sweepTakesOrders : Obligations.SweepTakesOrders :=
  ⟨ordersTaken_holds, unknownKindRead_holds, sweepEnds_holds, summaryLaid_holds, countersLaid_holds⟩

end Sys2Proof.Proofs
end

section
/-! SUPPORT. The ring law (O54): the unconsumed records stay within the ring's capacity. Only a written record raises their number,
and it checks the room; an accepted consumed count is checked against the capacity; the operations that place the ring or start the
exchange zero both counts; and no other operation touches the ring. -/

namespace Sys2Proof.Machine

/-! ## The operations on the ring (R177, R180 to R183) -/

/-- An operation that leaves the ring alone. -/
theorem Part.ringLaw.of_tel {p q : Part} (h : p.ringLaw) (htel : q.tel = p.tel) : q.ringLaw := by
  unfold Part.ringLaw
  rwa [htel]

theorem Part.ringLaw.raise {p : Part} (h : p.ringLaw) (e : Event) : (p.raise e).ringLaw := h.of_tel (by simp)

/-- With both counts at 0 nothing is unconsumed, whatever the capacity. -/
theorem Part.ringLaw_of_zeroed {p : Part} (hw : p.tel.written = 0) (hc : p.tel.consumed = 0) : p.ringLaw := by
  simp [Part.ringLaw, hw, hc]

/-- One more record is written, the counts wrapping: at most one more is unconsumed. -/
theorem unconsumed_succ_le (written consumed : BitVec 32) :
    (written + 1 - consumed).toNat ≤ (written - consumed).toNat + 1 := by
  have hsucc : written + 1 - consumed = (written - consumed) + 1 := by ring
  rw [hsucc, BitVec.toNat_add]
  exact Nat.mod_le _ _

/-- A record is written only where the ring has room for it (R181). -/
theorem Part.writeRecord_ringLaw {p : Part} (hroom : p.canWrite = true) (r : TelRecord) : (p.writeRecord r).ringLaw := by
  have hlt : (p.tel.written - p.tel.consumed).toNat < p.tel.capacity := by
    simp only [Part.canWrite, Tel.hasRoom, Bool.and_eq_true, decide_eq_true_eq] at hroom
    exact hroom.2
  unfold Part.ringLaw
  rw [Part.writeRecord_tel]
  exact (unconsumed_succ_le _ _).trans hlt

/-- A dropped record moves neither count (R182). -/
theorem Part.ringLaw.dropRecord {p : Part} (h : p.ringLaw) : p.dropRecord.ringLaw := by
  unfold Part.ringLaw
  rwa [Part.dropRecord_tel]

theorem Part.ringLaw.writePoint {p : Part} (h : p.ringLaw) (r : TelRecord) : (p.writePoint r).ringLaw := by
  rcases p.writePoint_cases r with ⟨hroom, hw⟩ | ⟨-, hw⟩ <;> rw [hw]
  · exact Part.writeRecord_ringLaw hroom r
  · exact h.dropRecord

theorem Part.ringLaw.releaseRecords {p : Part} (h : p.ringLaw) (n : Nat) : (Part.releaseRecords n p).ringLaw := by
  induction n generalizing p with
  | zero => exact h
  | succ n ih =>
    simp only [Part.releaseRecords]
    split
    · exact h
    · next r rest _ =>
      have hq : (p.modTel fun t => { t with queue := rest }).ringLaw := h
      split
      · exact h
      · exact ih (hq.writePoint r)

theorem Part.ringLaw.submitRecord {p : Part} (h : p.ringLaw) (r : TelRecord) : (p.submitRecord r).ringLaw := by
  unfold Part.submitRecord
  split
  · split
    · exact h
    · exact h.dropRecord
  · exact (h.writePoint r).releaseRecords _

/-- A ring that is placed begins with both counts at 0, and takes the records that nothing holds back (R177). -/
theorem Part.placeRing_ringLaw (addr : BitVec 64) (capacity : Nat) (p : Part) : (p.placeRing addr capacity).ringLaw :=
  Part.ringLaw.releaseRecords (Part.ringLaw_of_zeroed rfl rfl) _

theorem Part.ringLaw.setTelemetry {p : Part} (h : p.ringLaw) (ring : BitVec 64) (capacity : BitVec 32) :
    (p.setTelemetry ring capacity).2.ringLaw := by
  unfold Part.setTelemetry
  (repeat' split)
  · exact h
  · exact h
  · exact h
  · exact p.placeRing_ringLaw _ _

/-- A consumed count is accepted only within the capacity behind the written count (R183). -/
theorem Part.ringLaw.acceptConsumed {p : Part} (h : p.ringLaw) (v : BitVec 32) : (p.acceptConsumed v).ringLaw := by
  unfold Part.ringLaw Part.acceptConsumed
  rw [Part.modTel_tel]
  split
  · next hin => exact hin
  · exact h

/-! ## The operations that form a record (R35, R41, R110, R120, R178) -/

theorem Part.ringLaw.abandonFrame {p : Part} (h : p.ringLaw) (i : SlotIx) : (p.abandonFrame i).ringLaw := by
  have hcleared : ((p.clearAccumulators i).modSlot i fun x => { x with state := .free, sealing := false }).ringLaw :=
    h.of_tel rfl
  have hrecord := hcleared.submitRecord (p.abandonedRecord i)
  unfold Part.abandonFrame
  dsimp only
  split
  · exact hrecord.of_tel (by simp)
  · exact hrecord

theorem Part.ringLaw.sealDecision {p : Part} (h : p.ringLaw) : p.sealDecision.ringLaw := by
  unfold Part.sealDecision Part.decideSeal
  (repeat' split)
  · exact h
  · exact Part.ringLaw.abandonFrame (h.of_tel (by simp)) _
  · exact h.of_tel (by simp)
  · exact h.of_tel (by simp)
  · exact h

theorem Part.ringLaw.discardIfHeld {p : Part} (h : p.ringLaw) (i : SlotIx) : (p.discardIfHeld i).ringLaw := by
  unfold Part.discardIfHeld
  split
  · exact Part.ringLaw.submitRecord (h.of_tel (by simp)) _
  · exact h

theorem Part.ringLaw.discardAll {p : Part} (h : p.ringLaw) : p.discardAll.ringLaw := by
  unfold Part.discardAll
  generalize p.frameOrder = order
  induction order generalizing p with
  | nil => exact h
  | cons i rest ih => exact ih (h.discardIfHeld i)

theorem Part.ringLaw.loopStopOrder {p : Part} (h : p.ringLaw) : p.loopStopOrder.2.ringLaw := by
  unfold Part.loopStopOrder
  split
  · exact h
  · have hstopped : (p.putLoop .stopped).ringLaw := h.of_tel (by simp)
    exact hstopped.discardAll.of_tel (by simp [Part.stopLoop])

theorem Part.ringLaw.endUpdate {p : Part} (h : p.ringLaw) (i : SlotIx) (g : Geometry) (u : UpdateReport) (ramp : Bool) :
    (p.endUpdate i g u ramp).ringLaw := by
  unfold Part.endUpdate
  dsimp only
  split
  · exact (Part.ringLaw.submitRecord (h.of_tel (by simp)) _).raise _
  · exact Part.ringLaw.submitRecord (h.of_tel (by simp)) _

theorem Part.ringLaw.updateBegin {p : Part} (h : p.ringLaw) : p.updateBegin.ringLaw := by
  unfold Part.updateBegin Part.beginUpdate Part.reportOnly Part.fullUpdate
  dsimp only
  (repeat' split)
  · exact h
  · exact h
  · exact Part.ringLaw.endUpdate (h.of_tel (by simp)) _ _ _ _
  · exact h.of_tel (by simp)
  · exact Part.ringLaw.endUpdate (h.of_tel (by simp)) _ _ _ _

theorem Part.ringLaw.sendPoint {p : Part} (h : p.ringLaw) : p.sendPoint.ringLaw := by
  unfold Part.sendPoint Part.sendVector
  (repeat' split)
  · exact h
  · exact Part.ringLaw.endUpdate (h.of_tel (by simp)) _ _ _ _
  · exact h.endUpdate _ _ _ _

/-! ## Orders and sweeps (R157 to R160) -/

/-- LOOP_STOP forms records and SET_TELEMETRY places the ring; no other order touches it. -/
theorem Part.ringLaw.carryOut {p : Part} (h : p.ringLaw) (o : Order) (ref : OrderRef) : (p.carryOut o ref).ringLaw := by
  cases o with
  | loopStop => exact h.loopStopOrder.of_tel (by simp [Part.carryOut, Part.finishWith])
  | setTelemetry ring capacity =>
    exact (h.setTelemetry ring capacity).of_tel (by simp [Part.carryOut, Part.finishWith])
  | _ => exact h.of_tel (by simp [Part.carryOut])

theorem Part.ringLaw.takeOrder {p : Part} (h : p.ringLaw) (o : Order) (ref : OrderRef) : (p.takeOrder o ref).ringLaw :=
  Part.ringLaw.carryOut (h.of_tel (by simp)) o ref

theorem Part.ringLaw.orderCommand {p : Part} (h : p.ringLaw) (head : OrderHead) (o : Order) :
    (p.orderCommand head o).ringLaw := by
  rcases p.orderCommand_cases head o with ⟨-, hc⟩ | ⟨-, hc⟩ <;> rw [hc]
  · exact h
  · exact h.takeOrder _ _

theorem Part.ringLaw.loseDuplicates {p : Part} (h : p.ringLaw) (losers : List PostedSlot) :
    (losers.foldl (fun y l => y.loseDuplicate l) p).ringLaw :=
  h.of_tel (foldl_view Part.tel _ (by simp) _ _)

theorem Part.ringLaw.takeOrders {p : Part} (h : p.ringLaw) (n : Nat) (eligible : List PostedSlot) :
    (Part.takeOrders n eligible p).ringLaw := by
  induction n generalizing p eligible with
  | zero => exact h
  | succ n ih =>
    simp only [Part.takeOrders]
    split
    · exact h
    · next x losers _ =>
      have hlost := h.loseDuplicates losers
      split
      · exact hlost
      · exact ih (hlost.takeOrder _ _) _

theorem Part.ringLaw.sweepReadCompletion {p : Part} (h : p.ringLaw) (consumed : BitVec 32) (slots : List (List Byte)) :
    (p.sweepReadCompletion consumed slots).ringLaw := by
  unfold Part.sweepReadCompletion
  split
  · have htaken := (h.acceptConsumed consumed).takeOrders 32 ((p.acceptConsumed consumed).eligibleSlots slots)
    exact htaken.of_tel (by simp)
  · exact h

/-! ## Resets and registers (R151, R173, R185) -/

theorem Part.partReset_ringLaw (p : Part) : p.partReset.ringLaw := Part.ringLaw_of_zeroed rfl rfl

theorem Part.powerUp_ringLaw (p : Part) : p.powerUp.ringLaw := Part.ringLaw_of_zeroed rfl rfl

/-- The exchange starts with both counts at 0, and stops with the ring as it is (R172, R173). -/
theorem Part.ringLaw.controlWrite {p : Part} (h : p.ringLaw) (exchEn reset : Bool) : (p.controlWrite exchEn reset).ringLaw := by
  unfold Part.controlWrite
  (repeat' split)
  · exact p.partReset_ringLaw
  · exact Part.ringLaw_of_zeroed rfl rfl
  · exact h.of_tel (by simp)
  · exact h

theorem Part.ringLaw.registerWrite {p : Part} (h : p.ringLaw) (offset : BitVec 12) (count : Nat) (value : BitVec 32) :
    (p.registerWrite offset count value).ringLaw := by
  unfold Part.registerWrite Part.wholeWrite
  (repeat' split)
  · exact h
  · exact h.controlWrite _ _
  · exact h.of_tel (by simp)
  · exact h.of_tel (by simp)
  · exact h.of_tel (by simp)
  · exact h.of_tel (by simp)
  · exact h

/-! ## The commands -/

/-- Every command keeps the ring law: those that touch the ring by their own lemmas, an order's command by what the order does, and
the other events because they leave the ring alone. -/
theorem Part.ringLaw.after {p : Part} (h : p.ringLaw) (c : Instr) : (p.after c).ringLaw := by
  cases c with
  | powerOn => exact p.powerUp_ringLaw
  | partReset | functionLevelReset => exact p.partReset_ringLaw
  | exchEnStart | exchEnStop => exact h.controlWrite _ _
  | registerWriteIgnored offset count value => exact h.registerWrite offset count value
  | sealDecision => exact h.sealDecision
  | updateBegin => exact h.updateBegin
  | sendPoint => exact h.sendPoint
  | sweepReadCompletion consumed slots => exact h.sweepReadCompletion consumed slots
  | exchBaseLoWrite | exchBaseHiWrite | eventsWrite | eventMaskWrite | timeLoRead | segmentArrival | quietTimerExpiry
  | admitSegment | deadlineExpiry | processEntry | handOnValue | arbiterGrant | columnBurstArrival | substitutionEnd
  | extractionEnd | frameGapExpiry | mirrorPacketArrival | packetTransmitEnd | receiptTimerExpiry | sweepTimerExpiry
  | hostAccessFailure | transferStart | hostReadCompletion | loaderBurstComplete | readerBurstComplete
  | confirmingReadCompletion | hostWriteRequest | interlockEdge | snapEdge | markEdge | periodStart | pulseEnd
  | lineSample => exact h.of_tel (by simp [Part.after])
  | _ => exact h.orderCommand _ _

end Sys2Proof.Machine

namespace Sys2Proof.Proofs

open Sys2Proof.Machine

/-- Settles O54: a record is written only where the ring has room, a consumed count is accepted only within the capacity behind the
written count, and what places the ring or starts the exchange zeroes both counts. -/
theorem ringLawKept : Obligations.RingLawKept :=
  kept_of_after (fun _ h => h.of_tel (by simp)) fun _ c h => h.after c

end Sys2Proof.Proofs
end

section
/-! SUPPORT. The event flags and their mask (O3): the message that a write to EVENT_MASK sends, and the flags bit by bit. -/

namespace Sys2Proof.Machine

/-! ## The eight bits (section 11.4) -/

theorem Event.bit_lt (e : Event) : e.bit < 8 := by cases e <;> decide

/-- Each of the eight bits belongs to an event. -/
theorem Event.exists_bit : ∀ i < 8, ∃ e : Event, e.bit = i
  | 0, _ => ⟨.orderFinished, rfl⟩
  | 1, _ => ⟨.loopState, rfl⟩
  | 2, _ => ⟨.sensorLink, rfl⟩
  | 3, _ => ⟨.mirrorLink, rfl⟩
  | 4, _ => ⟨.telemetryDrop, rfl⟩
  | 5, _ => ⟨.snapshotHeld, rfl⟩
  | 6, _ => ⟨.hostAccess, rfl⟩
  | 7, _ => ⟨.interlock, rfl⟩

/-- A register of eight flags is 0 where no event has its flag set. -/
theorem eq_zero_iff_events (x : BitVec 8) : x = 0 ↔ ∀ e : Event, x.getLsbD e.bit = false := by
  constructor
  · rintro rfl e
    exact BitVec.getLsbD_zero
  · intro h
    refine BitVec.eq_of_getLsbD_eq fun i hi => ?_
    obtain ⟨e, rfl⟩ := Event.exists_bit i hi
    exact (h e).trans BitVec.getLsbD_zero.symm

/-! ## A write to EVENTS (R205) -/

/-- A flag stays set where it is not written as 1. -/
theorem Part.clearEvents_flag (v : BitVec 32) (p : Part) (e : Event) :
    (p.clearEvents v).tlu.events.getLsbD e.bit = (p.tlu.events.getLsbD e.bit && !v.getLsbD e.bit) := by
  simp [Part.clearEvents, e.bit_lt]

/-! ## A write to EVENT_MASK (R206) -/

/-- The write changes the event's mask bit from 0 to 1 while its flag is 1. -/
def Part.unmasks (p : Part) (v : BitVec 32) (e : Event) : Prop :=
  v.getLsbD e.bit = true ∧ p.tlu.mask.getLsbD e.bit = false ∧ p.tlu.events.getLsbD e.bit = true

/-- The model's word of newly opened flags is 0 where the write unmasks none. -/
theorem Part.opened_eq_zero_iff (p : Part) (v : BitVec 32) :
    v.setWidth 8 &&& ~~~p.tlu.mask &&& p.tlu.events = 0 ↔ ∀ e, ¬ p.unmasks v e := by
  rw [eq_zero_iff_events]
  refine forall_congr' fun e => ?_
  simp [Part.unmasks, e.bit_lt]

/-- One message, while the function sends messages (R206). -/
theorem Part.sendMsi_issued (p : Part) :
    p.sendMsi.issued = if p.xu.memRequests && p.xu.msiEnabled then p.issued ++ [.msi] else p.issued := by
  simp only [Part.sendMsi]; split <;> rfl

/-- The mask bits are replaced, and no flag. -/
theorem Part.writeMask_tlu (v : BitVec 32) (p : Part) :
    (p.writeMask v).tlu = { p.tlu with mask := v.setWidth 8 } := by
  simp only [Part.writeMask]; split <;> simp

/-- A write that unmasks no set flag sends nothing. -/
theorem Part.writeMask_silent {v : BitVec 32} {p : Part} (h : ∀ e, ¬ p.unmasks v e) :
    (p.writeMask v).issued = p.issued := by
  simp only [Part.writeMask, if_pos ((p.opened_eq_zero_iff v).mpr h), Part.modTlu_issued]

/-- A write that unmasks a set flag sends one message, while the function sends messages. -/
theorem Part.writeMask_signals {v : BitVec 32} {p : Part} {e : Event} (h : p.unmasks v e) :
    (p.writeMask v).issued = if p.xu.memRequests && p.xu.msiEnabled then p.issued ++ [.msi] else p.issued := by
  have hopened : ¬ v.setWidth 8 &&& ~~~p.tlu.mask &&& p.tlu.events = 0 := fun h0 =>
    (p.opened_eq_zero_iff v).mp h0 e h
  have hsend : p.writeMask v = (p.modTlu fun l => { l with mask := v.setWidth 8 }).sendMsi := if_neg hopened
  rw [hsend, Part.sendMsi_issued]
  rfl

/-- While the function sends no messages, a write to EVENT_MASK sends none. -/
theorem Part.writeMask_disabled (v : BitVec 32) {p : Part} (h : p.xu.memRequests = false ∨ p.xu.msiEnabled = false) :
    (p.writeMask v).issued = p.issued := by
  by_cases hu : ∃ e, p.unmasks v e
  · obtain ⟨e, he⟩ := hu
    rw [Part.writeMask_signals he, if_neg (by rcases h with h | h <;> simp [h])]
  · exact Part.writeMask_silent (not_exists.mp hu)

end Sys2Proof.Machine

namespace Sys2Proof.Proofs

open Sys2Proof.Machine

/-- A write to EVENTS (O3's first part). -/
theorem eventsCleared_holds : eventsCleared := by
  intro s v
  exact ⟨_, exec_eq_after _ _, rfl, fun p => ⟨rfl, rfl⟩, Part.clearEvents_flag v s.part, rfl,
    by simp [Part.sameBut_iff, Part.after]⟩

/-- A write to EVENT_MASK (O3's second part). -/
theorem eventMaskReplaced_holds : eventMaskReplaced := by
  intro s v
  refine ⟨_, exec_eq_after _ _, rfl, ?_⟩
  simp only [Part.after]
  refine ⟨fun e => ?_, by rw [Part.writeMask_tlu], ?_, fun hnone => ?_, Part.writeMask_disabled v,
    by simp [Part.sameBut_iff]⟩
  · simp [Part.writeMask_tlu, e.bit_lt]
  · rintro ⟨e, he⟩ hmem hmsi
    rw [Part.writeMask_signals (show s.part.unmasks v e from he), if_pos (by simp [hmem, hmsi])]
  · refine Part.writeMask_silent fun e ⟨hv, hmask, hflag⟩ => ?_
    rcases hnone e with h | h | h
    · simp [hv] at h
    · simp [hmask] at h
    · simp [hflag] at h

/-- An event is raised (O3's third part). -/
theorem eventRaised_holds : eventRaised := by
  intro p e
  refine ⟨fun f => ?_, by rw [Part.raise_tlu], ?_, by simp [Part.sameBut_iff]⟩
  · rw [Part.raise_tlu, withFlag_getLsbD]
  · rw [Part.raise_signal]
    simp [Part.signal, Part.wouldSignal, and_assoc]

/-- Settles O3: the two registers' writes, and the raising of an event. -/
theorem eventFlagsAndMask : Obligations.EventFlagsAndMask :=
  ⟨eventsCleared_holds, eventMaskReplaced_holds, eventRaised_holds⟩

end Sys2Proof.Proofs
end

section
/-! SUPPORT. The pacer (O49): an order that is answered and changes the TLU, the values of SET_PACER, and what starts and ends a
period. -/

namespace Sys2Proof.Machine

/-! ## Orders that change the TLU (R158, R163) -/

/-- An order is answered that changes the TLU alone, and of it what its report does not rest on. -/
theorem Part.answered_of_tlu {p q : Part} {h : OrderHead} {l : Tlu} (hq : q.sameBut (orderTaken p h) [.tlu]) (hl : q.tlu = l)
    (hevents : l.events = p.tlu.events) (hmask : l.mask = p.tlu.mask) (htime : l.timebase = p.tlu.timebase) (o : Order)
    (r : OrderResult) : p.Answered h r p.xu l [] (q.finish (p.orderRef h o) r) := by
  subst hl
  obtain ⟨hft, hfi⟩ := q.finish_orderFinished (p.orderRef h o) r
  have hsame := q.finish_sameBut (p.orderRef h o) r
  have hqx : q.xu = (orderTaken p h).xu := hq .xu (by simp)
  have hqi : q.issued = (orderTaken p h).issued := hq .issued (by simp)
  have hs : q.signal .orderFinished = p.signal .orderFinished :=
    Part.signal_congr _ (by rw [hevents]) hmask (by rw [hqx, orderTaken_xu]) (by rw [hqx, orderTaken_xu])
  have hw : resultWrites q h r = resultWrites p h r :=
    resultWrites_congr h r (by rw [hqx, orderTaken_xu]) (by rw [hqx, orderTaken_xu]) htime
  have hp : (orderTaken p h).sameBut p [.xu, .tlu, .issued] := by simp [Part.sameBut_iff]
  refine ⟨(hsame .xu (by decide)).trans hqx, ?_, ?_, hsame.trans (hq.trans hp (by simp)) (by simp)⟩
  · rw [hft, headOf_orderRef, hevents]
  · rw [hfi, hqi, headOf_orderRef, hw, hs, orderTaken_report]

theorem Part.modTlu_sameBut (g : Tlu → Tlu) (p : Part) : (p.modTlu g).sameBut p [.tlu] := by simp [Part.sameBut_iff]

/-- A command's next state, by the part that it leaves. -/
theorem exec_of_after {s : State} {c : Instr} {q : Part} (h : s.part.after c = q) : exec c s = .next { s with part := q } := by
  rw [exec_eq_after, h]

/-! ## SET_PACER (R197, R199) -/

/-- The ADJUSTED note of SET_PACER is set exactly where a value differs from the one taken. -/
theorem pacerAdjusts_eq (q : PacerOrderParams) :
    pacerAdjusts q = decide (q.period.toNat ≠ (pacerValues q).period ∨ q.width.toNat ≠ (pacerValues q).width) := by
  rw [Bool.eq_iff_iff, decide_eq_true_iff]
  simp only [pacerAdjusts, outside, pacerValues, clampTo, Bool.or_eq_true, decide_eq_true_eq]
  omega

/-- SET_PACER with a run flag above 1 is refused (R197). -/
theorem Part.setPacer_refused {q : PacerOrderParams} (h : 2 ≤ q.run.toNat) (p : Part) :
    p.setPacer q = (.failed .badParameter, p) := by
  simp only [Part.setPacer, flagOf_eq_none h]

/-- SET_PACER with a run flag configures the pacer (R197, R199). -/
theorem Part.setPacer_accepted {q : PacerOrderParams} {run : Bool} (h : flagOf q.run = some run) (p : Part) :
    p.setPacer q = (.adjustedDone (pacerAdjusts q), p.modPacer (Pacer.configure p.now (pacerValues q) run)) := by
  simp only [Part.setPacer, h]

/-- The command of a SET_PACER with a run flag, whatever the pacer does. -/
theorem exec_setPacer_accepted {s : State} {h : OrderHead} {q : PacerOrderParams} {run : Bool} {x : Pacer}
    (hr : s.part.readyFor h) (hrun : flagOf q.run = some run)
    (hx : s.part.tlu.pacer.configure s.part.now (pacerValues q) run = x) :
    ∃ t, exec (.setPacer h q) s = .next t ∧ t.pending = s.pending ∧
      s.part.Answered h (.adjustedDone (pacerAdjusts q)) s.part.xu { s.part.tlu with pacer := x } [] t.part := by
  refine ⟨_, exec_control (o := .setPacer q) rfl hr rfl, rfl, ?_⟩
  simp only [Part.carryOut, Part.finishWith, Part.setPacer_accepted hrun]
  subst hx
  refine Part.answered_of_tlu (Part.modTlu_sameBut _ _) ?_ ?_ ?_ ?_ _ _ <;> rfl

/-! ## Periods and pulses (R198) -/

/-- The values that a period start finds, field by field. -/
theorem Pacer.renewed_eq (x : Pacer) : x.renewed =
    { x with live := x.next.getD x.live, next := none, acc := if x.next.isSome then 0 else x.acc } := by
  rcases x with ⟨_, _, _ | _, _, _, _, _⟩ <;> rfl

/-- The first period of a pacer that starts: its accumulator is the fraction, and nothing is carried. -/
theorem Pacer.configure_starts {x : Pacer} (hx : x.running = false) (t : Time) {v : PacerValues} (hv : v.fraction < 65536) :
    x.configure t v true = { x with
      running := true
      live := v
      next := none
      acc := v.fraction
      start := t
      length := v.period
      trigger := true } := by
  simp [Pacer.configure, hx, Pacer.startPeriod, Pacer.renewed, Nat.mod_eq_of_lt hv, Nat.not_le.mpr hv]

/-- Values for a running pacer wait for its next period start. -/
theorem Pacer.configure_waits {x : Pacer} (hx : x.running = true) (t : Time) (v : PacerValues) :
    x.configure t v true = { x with next := some v } := by
  simp [Pacer.configure, hx]

/-- Values for a pacer that stays stopped are live at once. -/
theorem Pacer.configure_stays {x : Pacer} (hx : x.running = false) (t : Time) (v : PacerValues) :
    x.configure t v false = { x with live := v } := by
  simp [Pacer.configure, hx]

/-- A running pacer stops at once, with its new values live. -/
theorem Pacer.configure_stops {x : Pacer} (hx : x.running = true) (t : Time) (v : PacerValues) :
    x.configure t v false = { x with running := false, live := v, next := none, acc := 0, trigger := false } := by
  simp [Pacer.configure, hx, Pacer.stopped]

/-- What happens to the pacer at a time touches the TLU alone. -/
theorem Part.advanceTo_modPacer_sameBut (t : Time) (g : Pacer → Pacer) (p : Part) :
    ((p.advanceTo t).modPacer g).sameBut p [.tlu] := by
  simp [Part.sameBut_iff, Part.modPacer]

/-- What happens to the pacer at a time touches of the TLU the pacer and the timebase. -/
theorem Part.advanceTo_modPacer_tlu (t : Time) (g : Pacer → Pacer) (p : Part) : ((p.advanceTo t).modPacer g).tlu =
    { p.tlu with timebase := (p.advanceTo t).tlu.timebase, pacer := g p.tlu.pacer } := rfl

/-- A period starts in a running pacer between its pulses. -/
theorem Part.periodStart_running {p : Part} (hr : p.tlu.pacer.running = true) (ht : p.tlu.pacer.trigger = false) :
    p.periodStart = (p.advanceTo (later p.tlu.pacer.start p.tlu.pacer.length)).modPacer
      (Pacer.startPeriod (later p.tlu.pacer.start p.tlu.pacer.length)) := by
  simp [Part.periodStart, hr, ht]

/-- No period starts in a stopped pacer, nor, by the model's choice, while the pulse lasts (log entry 2). -/
theorem Part.periodStart_idle {p : Part} (h : p.tlu.pacer.running = false ∨ p.tlu.pacer.trigger = true) :
    p.periodStart = p := by
  unfold Part.periodStart
  rcases h with h | h <;> simp [h]

/-- With no pulse in progress, PULSE_END does nothing (log entry 2). -/
theorem Part.pulseEnd_idle {p : Part} (h : p.tlu.pacer.trigger = false) : p.pulseEnd = p := if_neg (by simp [h])

/-- A pulse ends. -/
theorem Part.pulseEnd_pulsing {p : Part} (h : p.tlu.pacer.trigger = true) :
    p.pulseEnd = (p.advanceTo (later p.tlu.pacer.start p.tlu.pacer.live.width)).modPacer
      fun y => { y with trigger := false } := if_pos h

end Sys2Proof.Machine

namespace Sys2Proof.Proofs

open Sys2Proof.Machine

/-- Settles O49: the four forms of SET_PACER by its run flag and the pacer's state, then the period start and the pulse end. -/
theorem pacerPeriods : Obligations.PacerPeriods := by
  intro s h q p x period width v answers
  have accepted {run : Bool} {y : Pacer} (hr : p.readyFor h) (hrun : flagOf q.run = some run)
      (hy : x.configure p.now (pacerValues q) run = y) : answers y := by
    have hdone := exec_setPacer_accepted hr hrun hy
    rwa [pacerAdjusts_eq] at hdone
  refine ⟨fun hr hbad => ?_, fun hr h1 hx => ?_, fun hr h1 hx => ?_, fun hr h0 hx => ?_, fun hr h0 hx => ?_, fun hidle => ?_,
    fun hlow => ?_, fun hrun hlow => ?_, fun hpulse => ?_⟩
  · refine ⟨_, exec_control (o := .setPacer q) rfl hr rfl, rfl, ?_⟩
    simp only [Part.carryOut, Part.finishWith, Part.setPacer_refused hbad]
    exact Part.answered_refused _ _ _ _
  · exact accepted hr (congrArg flagOf h1) (Pacer.configure_starts hx _ q.fraction.isLt)
  · exact accepted hr (congrArg flagOf h1) (Pacer.configure_waits hx _ _)
  · exact accepted hr (congrArg flagOf h0) (Pacer.configure_stays hx _ _)
  · exact accepted hr (congrArg flagOf h0) (Pacer.configure_stops hx _ _)
  · exact exec_of_after (Part.periodStart_idle hidle)
  · exact exec_of_after (Part.pulseEnd_idle hlow)
  · refine ⟨_, exec_of_after (Part.periodStart_running hrun hlow), rfl, Part.reached_advanceTo _ p, ?_,
      Part.advanceTo_modPacer_sameBut _ _ p⟩
    rw [Part.advanceTo_modPacer_tlu, Pacer.startPeriod, Pacer.renewed_eq]
    rfl
  · exact ⟨_, exec_of_after (Part.pulseEnd_pulsing hpulse), rfl, Part.reached_advanceTo _ p, rfl,
      Part.advanceTo_modPacer_sameBut _ _ p⟩

end Sys2Proof.Proofs
end

section
/-! SUPPORT. Sampling and SET_LINES (O50): one sample of a line, the times of the samples, and the settings that the order
replaces. -/

namespace Sys2Proof.Machine

/-! ## One sample of a line (R200) -/

/-- A sample does to a line what the statements say. -/
theorem Line.sample_lineSampled (x : Line) (level : Bool) : lineSampled x (x.sample level) level := by
  unfold lineSampled Line.sample
  refine ⟨fun h => if_pos h, fun h hle => ?_, fun h hlt => ?_⟩
  · rw [if_neg h, if_neg (Nat.not_lt.mpr hle)]
  · rw [if_neg h, if_pos hlt]

/-! ## The times of the samples (R195, R200) -/

theorem sampleTimeFrom_toNat (t : Time) : (sampleTimeFrom t).toNat =
    if 10 * ((t.toNat + 9) / 10) < 2 ^ 64 then 10 * ((t.toNat + 9) / 10) else 0 := by
  unfold sampleTimeFrom
  dsimp only
  split
  · next h => exact BitVec.toNat_ofNat .. ▸ Nat.mod_eq_of_lt h
  · rfl

theorem nextSampleTime_toNat (t : Time) :
    (nextSampleTime t).toNat = if t.toNat + 10 < 2 ^ 64 then t.toNat + 10 else 0 := by
  unfold nextSampleTime
  split
  · next h => exact BitVec.toNat_add_of_lt h
  · rfl

/-- A time that has reached the first multiple of 10 at or after it is that multiple: the multiple lies less than 10 ahead, over
the wrap too. -/
theorem eq_sampleTimeFrom_of_reached {t : Time} (h : reached t (sampleTimeFrom t) = true) : t = sampleTimeFrom t := by
  have hlt := t.isLt
  have hs := sampleTimeFrom_toNat t
  have hr : (t - sampleTimeFrom t).toNat < 2 ^ 63 := by simpa [reached] using h
  rw [BitVec.toNat_sub] at hr
  apply BitVec.eq_of_toNat_eq
  split at hs <;> omega

/-- A sample is taken at its time: the timebase, moved on or not, is at it (log entry 10). -/
theorem Part.advanceTo_sampleTime (p : Part) : (p.advanceTo p.tlu.sampleTime).tlu.timebase = p.tlu.sampleTime := by
  rw [Part.advanceTo_tlu]
  dsimp only
  split
  · next h =>
    unfold Tlu.sampleTime at h ⊢
    split
    · next hpast => exact eq_sampleTimeFrom_of_reached (by rwa [if_pos hpast] at h)
    · next hahead => exact absurd (by rwa [if_neg hahead] at h) hahead
  · rfl

/-- The time of a sample, in microseconds. -/
theorem Tlu.sampleTime_toNat (l : Tlu) : l.sampleTime.toNat =
    if reached l.timebase l.nextSample = false then l.nextSample.toNat
    else if 10 * ((l.timebase.toNat + 9) / 10) < 2 ^ 64 then 10 * ((l.timebase.toNat + 9) / 10) else 0 := by
  unfold Tlu.sampleTime
  cases reached l.timebase l.nextSample
  · rfl
  · exact sampleTimeFrom_toNat l.timebase

/-- Samples stay at multiples of 10. -/
theorem Tlu.sampleTime_multiple {l : Tlu} (h : l.nextSample.toNat % 10 = 0) : l.sampleTime.toNat % 10 = 0 := by
  rw [Tlu.sampleTime_toNat]
  split
  · exact h
  · split
    · exact Nat.mul_mod_right ..
    · rfl

/-- The TLU after the lines are sampled (R200). -/
def Tlu.sampled (interlock snap mark : Bool) (l : Tlu) : Tlu :=
  { l with
    timebase := l.sampleTime
    nextSample := nextSampleTime l.sampleTime
    interlock := l.interlock.sample interlock
    snap := l.snap.sample snap
    mark := l.mark.sample mark }

/-- With no change due, the three lines are sampled together. -/
theorem Part.lineSample_eq {p : Part} (h : p.tlu.someDue = false) (interlock snap mark : Bool) :
    p.lineSample interlock snap mark = p.modTlu (Tlu.sampled interlock snap mark) := by
  have htime : p.advanceTo p.tlu.sampleTime = p.modTlu fun l => { l with timebase := l.sampleTime } :=
    congrArg (fun t => p.modTlu fun l => { l with timebase := t }) p.advanceTo_sampleTime
  simp only [Part.lineSample, h, htime]
  rfl

/-! ## SET_LINES (R201) -/

/-- The ADJUSTED note of SET_LINES is set exactly where a count differs from the one taken. -/
theorem linesAdjust_eq (q : LinesOrderParams) :
    linesAdjust q = decide (q.interlockCount.toNat ≠ min 255 q.interlockCount.toNat ∨
      q.snapCount.toNat ≠ min 255 q.snapCount.toNat ∨ q.markCount.toNat ≠ min 255 q.markCount.toNat) := by
  simp only [linesAdjust, ← Bool.decide_or, decide_eq_decide]
  omega

/-- SET_LINES with a mark above 1 is refused (R201). -/
theorem Part.setLines_refused {q : LinesOrderParams}
    (h : 2 ≤ q.blockInterlock.toNat ∨ 2 ≤ q.blockMark.toNat ∨ 2 ≤ q.blockLoop.toNat) (p : Part) :
    p.setLines q = (.failed .badParameter, p) := by
  unfold Part.setLines
  split
  · next ha hb hc =>
    rcases h with h | h | h
    · simp [flagOf_eq_none h] at ha
    · simp [flagOf_eq_none h] at hb
    · simp [flagOf_eq_none h] at hc
  · rfl

/-- SET_LINES with its marks in range reports the counts as they stood and applies the settings (R201). -/
theorem Part.setLines_accepted {q : LinesOrderParams}
    (h : ¬ (2 ≤ q.blockInterlock.toNat ∨ 2 ≤ q.blockMark.toNat ∨ 2 ≤ q.blockLoop.toNat)) (p : Part) :
    p.setLines q = (p.tlu.linesResult (linesAdjust q),
      p.applyLines q (decide (q.blockInterlock = 1)) (decide (q.blockMark = 1)) (decide (q.blockLoop = 1))) := by
  obtain ⟨ha, hb, hc⟩ : q.blockInterlock.toNat ≤ 1 ∧ q.blockMark.toNat ≤ 1 ∧ q.blockLoop.toNat ≤ 1 := by omega
  simp only [Part.setLines, flagOf_eq_some ha, flagOf_eq_some hb, flagOf_eq_some hc]

end Sys2Proof.Machine

namespace Sys2Proof.Proofs

open Sys2Proof.Machine

/-- Settles O50: the sample with no change due, the sample that is not taken, and SET_LINES refused and accepted. -/
theorem linesSampledAndSet : Obligations.LinesSampledAndSet := by
  intro s h q interlock snap mark p l
  refine ⟨fun hi hs hm => ?_, fun hdue => ?_, fun hr => ?_⟩
  · have hnone : p.tlu.someDue = false := by
      change (l.interlock.due || l.snap.due || l.mark.due) = false
      rw [hi, hs, hm]
      rfl
    exact ⟨_, exec_of_after (Part.lineSample_eq hnone interlock snap mark), rfl, l.sampleTime_toNat, Tlu.sampleTime_multiple,
      nextSampleTime_toNat _, l.interlock.sample_lineSampled _, l.snap.sample_lineSampled _, l.mark.sample_lineSampled _, rfl,
      Part.modTlu_sameBut _ _⟩
  · have hsome : p.tlu.someDue = true := by simpa [Tlu.someDue, or_assoc] using hdue
    exact exec_of_after (if_pos hsome)
  · have hexec := exec_control (c := .setLines h q) (o := .setLines q) rfl hr rfl
    intro bad a b c
    refine ⟨fun hbad => ⟨_, hexec, rfl, ?_⟩, fun hok => ⟨_, hexec, rfl, ?_⟩⟩
    · simp only [Part.carryOut, Part.finishWith, Part.setLines_refused hbad]
      exact Part.answered_refused _ _ _ _
    · simp only [Part.carryOut, Part.finishWith, Part.setLines_accepted hok, linesAdjust_eq]
      refine Part.answered_of_tlu (Part.modTlu_sameBut _ _) ?_ ?_ ?_ ?_ _ _ <;> rfl

end Sys2Proof.Proofs
end

section
/-! SUPPORT. The accepted changes of the lines (O51): what each edge command does to its line and, on a rising edge, beside it. -/

namespace Sys2Proof.Machine

/-! ## SNAP (R203) -/

/-- A rising SNAP edge is blocked where a mark of the block set meets its condition. -/
theorem Part.snapBlocked_iff (p : Part) : p.snapBlocked = true ↔
    (p.tlu.blockInterlock = true ∧ p.tlu.interlock.level = true) ∨ (p.tlu.blockMark = true ∧ p.tlu.mark.level = true) ∨
      (p.tlu.blockLoop = true ∧ p.lpc.loop ≠ .closed) := by
  simp [Part.snapBlocked, or_assoc]

/-- A falling edge changes the level alone. -/
theorem Part.snapEdge_falling {p : Part} (hdue : p.tlu.snap.due = true) (hlevel : p.tlu.snap.level = true) :
    p.snapEdge = p.takeSnap := by
  simp only [Part.snapEdge, hdue, hlevel, if_true]

/-- A blocked rising edge is counted so. -/
theorem Part.snapEdge_blocked {p : Part} (hdue : p.tlu.snap.due = true) (hlevel : p.tlu.snap.level = false)
    (h : p.snapBlocked = true) :
    p.snapEdge = p.modTlu fun l => { l with snap := l.snap.take, blockedSnaps := l.blockedSnaps + 1 } := by
  have hjudge : p.takeSnap.judgeSnap = p.takeSnap.modTlu fun l => { l with blockedSnaps := l.blockedSnaps + 1 } := if_pos h
  simp only [Part.snapEdge, hdue, hlevel, hjudge]
  rfl

/-- A qualified rising edge is counted and requests a capture. -/
theorem Part.snapEdge_qualified {p : Part} (hdue : p.tlu.snap.due = true) (hlevel : p.tlu.snap.level = false)
    (h : ¬ p.snapBlocked = true) : p.snapEdge =
      (p.modTlu fun l => { l with snap := l.snap.take, qualifiedSnaps := l.qualifiedSnaps + 1 }).requestCapture := by
  have hjudge : p.takeSnap.judgeSnap =
      (p.takeSnap.modTlu fun l => { l with qualifiedSnaps := l.qualifiedSnaps + 1 }).requestCapture := if_neg h
  simp only [Part.snapEdge, hdue, hlevel, hjudge]
  rfl

/-! ## INTERLOCK (R202) -/

/-- The level of INTERLOCK changes, and its event is raised. -/
def Part.takeInterlock (p : Part) : Part :=
  (p.modTlu fun l => { l with interlock := l.interlock.take }).raise .interlock

/-- A falling edge raises the event alone. -/
theorem Part.interlockEdge_falling {p : Part} (hdue : p.tlu.interlock.due = true) (hlevel : p.tlu.interlock.level = true) :
    p.interlockEdge = p.takeInterlock := by
  simp only [Part.interlockEdge, hdue, hlevel, if_true, Part.takeInterlock]

/-- A rising edge is a hold cause too. -/
theorem Part.interlockEdge_rising {p : Part} (hdue : p.tlu.interlock.due = true) (hlevel : p.tlu.interlock.level = false) :
    p.interlockEdge = p.takeInterlock.takeHold .interlock := by
  simp only [Part.interlockEdge, hdue, hlevel, if_true, Part.takeInterlock]
  rfl

theorem Part.takeInterlock_tlu (p : Part) : p.takeInterlock.tlu = { p.tlu with
    interlock := p.tlu.interlock.take
    events := withFlag p.tlu.events .interlock } := by
  rw [Part.takeInterlock, Part.raise_tlu, Part.modTlu_tlu]

theorem Part.takeInterlock_issued (p : Part) : p.takeInterlock.issued = p.issued ++ p.signal .interlock := by
  rw [Part.takeInterlock, Part.raise_signal]
  rfl

theorem Part.takeInterlock_sameBut (p : Part) : p.takeInterlock.sameBut p [.tlu, .issued] := by
  simp [Part.sameBut_iff, Part.takeInterlock]

end Sys2Proof.Machine

namespace Sys2Proof.Proofs

open Sys2Proof.Machine

/-- Settles O51: each line's change by its direction. -/
theorem lineEdges : Obligations.LineEdges := by
  intro s p l blocked
  refine ⟨fun hdue => ?_, fun hdue => ?_, fun hdue => ⟨_, exec_of_after (if_pos hdue), rfl, rfl, Part.modTlu_sameBut _ _⟩⟩
  · have hkeep := p.takeInterlock_sameBut
    rcases l.interlock.level.eq_false_or_eq_true with hlevel | hlevel
    · exact ⟨_, exec_of_after (Part.interlockEdge_falling hdue hlevel), rfl,
        fun _ => ⟨p.takeInterlock_tlu, hkeep .lpc (by simp), p.takeInterlock_issued⟩,
        fun hlow => Bool.noConfusion (hlevel.symm.trans hlow), hkeep.mono (by simp)⟩
    · exact ⟨_, exec_of_after (Part.interlockEdge_rising hdue hlevel), rfl,
        fun hhigh => Bool.noConfusion (hlevel.symm.trans hhigh),
        fun _ => holdReported_congr (hkeep .lpc (by simp)) p.takeInterlock_tlu (hkeep .xu (by simp)) p.takeInterlock_issued
          (p.takeInterlock.takeHold_reported .interlock),
        (p.takeInterlock.takeHold_sameBut .interlock).trans (hkeep.mono (l' := [.tlu, .lpc, .issued]) (by simp)) (by simp)⟩
  · rcases l.snap.level.eq_false_or_eq_true with hlevel | hlevel
    · have hfalling {c : Prop} : ¬ (l.snap.level = false ∧ c) := fun hc => Bool.noConfusion (hlevel.symm.trans hc.1)
      refine ⟨_, exec_of_after (Part.snapEdge_falling hdue hlevel), rfl, ?_, ?_, (Part.modTlu_sameBut _ _).mono (by simp)⟩
      · rw [if_neg hfalling, if_neg hfalling]
        rfl
      · rw [if_neg hfalling]
        rfl
    · by_cases hb : blocked
      · have hqualified : ¬ (l.snap.level = false ∧ ¬ blocked) := fun hc => hc.2 hb
        refine ⟨_, exec_of_after (Part.snapEdge_blocked hdue hlevel (p.snapBlocked_iff.mpr hb)), rfl, ?_, ?_,
          (Part.modTlu_sameBut _ _).mono (by simp)⟩
        · rw [if_pos ⟨hlevel, hb⟩, if_neg hqualified]
          rfl
        · rw [if_neg hqualified]
          rfl
      · have hblocked : ¬ (l.snap.level = false ∧ blocked) := fun hc => hb hc.2
        refine ⟨_, exec_of_after (Part.snapEdge_qualified hdue hlevel (mt p.snapBlocked_iff.mp hb)), rfl, ?_, ?_,
          by simp [Part.sameBut_iff, Part.requestCapture, p]⟩
        · rw [if_neg hblocked, if_pos ⟨hlevel, hb⟩]
          rfl
        · rw [if_pos ⟨hlevel, hb⟩]
          rfl

end Sys2Proof.Proofs
end

section
/-! SUPPORT. The step (O1, O2): the command at the front of the queue, and the microsecond that passes on an empty queue. -/

namespace Sys2Proof.Machine

/-- The front command leaves the queue before it runs. -/
theorem step_cons (c : Instr) (rest : List Instr) (s : State) :
    step { s with pending := c :: rest } = exec c { s with pending := rest } := rfl

/-- The block idles on an empty queue (R195). -/
theorem step_of_pending_nil {s : State} (h : s.pending = []) : step s = .next { s with part := s.part.tick } := by
  rw [step, h]

/-- A microsecond is the TLU's alone. -/
theorem Part.tick_sameBut (p : Part) : p.tick.sameBut p [.tlu] := Part.modTlu_sameBut _ p

end Sys2Proof.Machine

namespace Sys2Proof.Proofs

open Sys2Proof.Machine

/-- Settles O1: the step's arm for a queue that has a front command. -/
theorem stepRunsFrontCommand : Obligations.StepRunsFrontCommand := step_cons

/-- Settles O2: the step's other arm is a tick, which moves the timebase, leaves the queue empty and touches no block but the TLU. -/
theorem emptyQueuePassesOneMicrosecond : Obligations.EmptyQueuePassesOneMicrosecond := fun s hempty =>
  ⟨{ s with part := s.part.tick }, step_of_pending_nil hempty, hempty, s.part.tick_tlu, s.part.tick_sameBut⟩

end Sys2Proof.Proofs
end
